-- ==== Sys2Proof/Word.lean ====
section
/-! DEFINITION. The words the part handles as bits: bytes of a frame, node tags, object addresses,
frame kinds and readings of the millisecond clock. -/

namespace Sys2Proof

/-- One byte of a frame (10, "Bytes and frames"). -/
abbrev Byte := BitVec 8

/-- A node tag: 0 the part, 1 to 62 field nodes, 63 all nodes (00, "Units"). -/
abbrev Tag := BitVec 6

/-- A 16-bit object address (00, "How the host reaches the part"). -/
abbrev ObjAddr := BitVec 16

/-- The three kind bits of a lead byte (10, "Bytes and frames"). -/
abbrev Kind := BitVec 3

/-- A reading of the millisecond counter, which wraps modulo 2^32 (R197). -/
abbrev Ms := BitVec 32

end Sys2Proof
end

