-- ==== Sys2Proof/Syntax.lean ====
section
/-! DEFINITION. The commands of the part: one constructor of `Instr` for each row of
spec/opcode_table.json, with the operands its event carries. -/

namespace Sys2Proof

/-- The two half-duplex lines (00): the host's and the field nodes'. -/
inductive Line where
  | upstream | field
  deriving DecidableEq, Repr

/-- The loading arms, numbered 1 to 4 (00, "Naming conventions"). -/
inductive ArmId where
  | a1 | a2 | a3 | a4
  deriving DecidableEq, Repr

/-- The injector slots of an arm (00, "Naming conventions"). -/
inductive Slot where
  | s1 | s2
  deriving DecidableEq, Repr

/-- The table banks (08). -/
inductive Bank where
  | a | b
  deriving DecidableEq, Repr

/-- The direction bit of a lead byte: 1 command, 0 response (10, "Bytes and frames"). -/
inductive Dir where
  | command | response
  deriving DecidableEq, Repr

/-- A frame received whole with a good CRC, or a frame the part sends (10, "Bytes and frames"). The CRC
is computed from these fields (`frameWire`). -/
structure Frame where
  dir     : Dir
  kind    : Kind
  tag     : Tag
  addr    : ObjAddr
  payload : List Byte
  deriving DecidableEq, Repr

/-- The steps of the part, one constructor for each row of spec/opcode_table.json. A `payload` is the
payload of the host frame; `bytes` are received bytes of a frame that does not end well. -/
inductive Instr where
  | powerOnReset
  | resetInput
  | lineBreak (line : Line) (bytes : List Byte)
  | frameAbandoned (line : Line) (bytes : List Byte)
  | receiveGapTimeout (line : Line) (bytes : List Byte) (after : Option Byte)
  | huntSilence (line : Line)
  | upstreamCrcError (bytes : List Byte)
  | upstreamFrameDiscarded (frame : Frame)
  | badKind (frame : Frame)
  | relayIntake (frame : Frame)
  | rollIntake (addr : ObjAddr) (payload : List Byte)
  | setService
  | setRun
  | clearStatusFlags (payload : List Byte)
  | queryStatusFlags (payload : List Byte)
  | clockSet (payload : List Byte)
  | terminalSecondTick
  | swap
  | restart (argument : Byte)
  | sessionAbort (argument : Byte)
  | armStop (argument : Byte)
  | armResume (argument : Byte)
  | armClear (argument : Byte)
  | turnaroundGapSet (payload : List Byte)
  | armConfigurationSet (arm : ArmId) (payload : List Byte)
  | acceptanceEntrySet (index : Fin 24) (payload : List Byte)
  | scanEntrySet (index : Fin 32) (payload : List Byte)
  | productSet (bank : Bank) (index : Fin 16) (payload : List Byte)
  | curveSet (bank : Bank) (index : Fin 17) (payload : List Byte)
  | recipeSet (bank : Bank) (index : Fin 9) (payload : List Byte)
  | permitInsert (payload : List Byte)
  | permitRemove (payload : List Byte)
  | lookupKeySet (payload : List Byte)
  | orderInsert (payload : List Byte)
  | orderRemove (payload : List Byte)
  | noteRelease (payload : List Byte)
  | slotHeaderQuery (slot : Fin 16) (payload : List Byte)
  | otherObjectSet (addr : ObjAddr) (payload : List Byte)
  | responseTransmit
  | responseSent
  | hostLost
  | arbiterTake
  | scanDue (index : Fin 32)
  | valveRefreshDue (arm : ArmId)
  | slowPollDue (tag : Tag)
  | fieldGoodResponse (frame : Frame)
  | fieldDamagedResponse (bytes : List Byte)
  | fieldTimeout
  | fieldFrameDiscarded (frame : Frame)
  | rollChainedResponse (frame : Frame)
  | rollDamagedResponse (bytes : List Byte)
  | rollEnd
  | codeEntryTimeout
  | armedTimeout (arm : ArmId)
  | sessionIdleTimeout
  | settleTimeout (arm : ArmId)
  | haltTimeout (arm : ArmId)
  | tempStale (arm : ArmId)
  | shotTimeout (arm : ArmId) (slot : Slot)
  | reportAgeExpiry
  | deadmanWarning
  | deadmanExpiry
  | notePageWrite
  | objectQuery (addr : ObjAddr) (payload : List Byte)
  | byteIgnoredWhileTransmitting
  | lineBreakEnd (line : Line)
  deriving DecidableEq, Repr

end Sys2Proof
end

