-- ==== Sys2Proof/Decode.lean ====
section
/-! DEFINITION. What a frame is taken as: the sizes a frame has and the row R186 sends a host frame to. Words
of the opcode table: no row of spec/opcode_table.json has bits (its "fields" are
empty and it has no "fixed"), so no word spells a command. The frames and layouts that the lines carry
are in Machine/Frames.lean and Machine/Operands.lean. -/

namespace Sys2Proof

/-- A frame carries at most 48 payload bytes (10, "Bytes and frames"). -/
def payloadFits (payload : List Byte) : Bool := decide (payload.length ≤ 48)

/-- Received bytes of one frame: at most 55 (10, "Bytes and frames"). -/
def bytesFit (bytes : List Byte) : Bool := decide (bytes.length ≤ 55)

/-- Tags 1 to 62 name field nodes (00, "Units"). -/
def isNodeTag (tag : Tag) : Bool := tag != 0 && tag != 63

/-- R186 case 1: a response, or a command of kind 4 to 7 to a tag from 1 to 63. -/
def Frame.isDiscardedUpstream (f : Frame) : Bool :=
  f.dir == .response || (decide (4 ≤ f.kind.toNat) && f.tag != 0)

/-- R186 cases 2 to 4: a command whose kind does not suit its tag. -/
def Frame.isBadKind (f : Frame) : Bool :=
  f.dir == .command &&
    (if f.tag = 0 then decide (2 ≤ f.kind.toNat)
     else if f.tag = 63 then decide (f.kind.toNat ≤ 2)
     else f.kind == 3)

/-- R186 case 3: a QUERY, SET or DRIVE to a field node. -/
def Frame.isRelayed (f : Frame) : Bool :=
  f.dir == .command && decide (f.kind.toNat ≤ 2) && isNodeTag f.tag

/-- The command that `nbits` bits spell by the table's bits: none, since no row gives any (log 30). -/
def decodeTableWord (_nbits _w : Nat) : Option Instr := none

end Sys2Proof
end

