-- ==== Sys2Proof/Config.lean ====
section
/-! DEFINITION. The free values: what the spec leaves open, as constants with no body. Nothing can be
proved of them but what holds whatever they are. -/

namespace Sys2Proof

/-- Which place an event takes among the events that come due at the same moment. The spec: "Two events
that fall together may be taken in either order" (00). Applied to the counter `freeCount` (log 2). -/
opaque Config.freeOrder : Nat → Nat

/-- How many microseconds after the previous step of the compile the next page is written, as long as it
is at most 10,000 (R130 gives only the bound). Applied to the page's serial and number (log 19). -/
opaque Config.pageDelay : Nat → Nat → Nat

/-- The meter factor of a compartment whose curve is missing. R77 says the curve always exists, so this
bears only on states no run reaches (log 17). -/
opaque Config.missingMeterFactor : Nat

/-- The expansion coefficient of a compartment whose product is missing from its captured bank, which
R77 rules out (log 17). -/
opaque Config.missingBeta : Nat

/-- What the place of an absent card number reads as in the session record summary, whose layout gives no
code for an absent field (10, "Tag-0 objects"; log 16). -/
opaque Config.absentSummaryCard : Nat

/-- What the place of an absent order reference reads as in the session record summary (log 16). -/
opaque Config.absentSummaryOrder : Nat

end Sys2Proof
end

