-- ==== Sys2Proof/Machine/State.lean ====
section
/-! DEFINITION. The state of the part as plain data: every register, table, queue, buffer, counter, mode
and output the spec names, each under its owner (00, "Block overview"), and the queue of commands.
Deadlines are readings of the millisecond counter, `none` when stopped. -/

namespace Sys2Proof.Machine

/-- No command of the spec stops the part: frames it does not take are refused or discarded, faults of a
meter or a valve are states of an arm (R63 to R66). So a step raises no fault. -/
inductive Fault : Type
  deriving DecidableEq, Repr

/-- Why an instruction has no meaning here. -/
inductive Refusal where
  /-- Raised by `exec` for a row of the table that has no meaning yet; safe, since the model stops. -/
  | notModelled (mnemonic : String)
  deriving DecidableEq, Repr

/-- One value for each of the four arms. -/
structure PerArm (α : Type) where
  a1 : α
  a2 : α
  a3 : α
  a4 : α
  deriving DecidableEq, Repr

/-- One value for each injector slot of an arm. -/
structure PerSlot (α : Type) where
  s1 : α
  s2 : α
  deriving DecidableEq, Repr

/-! ### Status and time (11) -/

/-- The nine sticky status flags, in the bit order of the flag layout (R194, 10 "Encodings"). -/
structure StatusFlags where
  noteReady      : Bool := false
  nodeLost       : Bool := false
  unassignedFlow : Bool := false
  lockout        : Bool := false
  additiveFault  : Bool := false
  valveFault     : Bool := false
  meterFault     : Bool := false
  hostLost       : Bool := false
  linkErrors     : Bool := false
  deriving DecidableEq, Repr

/-- The eight counters, each 0 to 65535 and saturating (R196). -/
structure Counters where
  upstreamCrc     : Nat := 0
  upstreamFraming : Nat := 0
  ignored         : Nat := 0
  fieldTimeouts   : Nat := 0
  fieldCrc        : Nat := 0
  implausible     : Nat := 0
  injector        : Nat := 0
  lateScans       : Nat := 0
  deriving DecidableEq, Repr

/-- Sticky flags, counters and the host silence monitor (R194, R196, R198). -/
structure Status where
  flags           : StatusFlags := {}
  counters        : Counters := {}
  hostLost        : Bool := false
  silenceDeadline : Option Ms := none
  declared        : Bool := false
  deriving DecidableEq, Repr

/-- The clock (R197): the millisecond counter with the microseconds of the running millisecond, the set
mark, terminal day and second, and the counter reading at which the running second began. That the running
millisecond has just begun at reset is the model's choice (DESIGN CHOICE, log 20). -/
structure Clock where
  ms         : Ms := 0
  us         : Nat := 0
  isSet      : Bool := false
  day        : Nat := 0
  second     : Nat := 0
  secondBase : Ms := 0
  deriving DecidableEq, Repr

/-- The modes (R160). -/
inductive Mode where
  | service | servicePending | run
  deriving DecidableEq, Repr

/-! ### Compartment records and the session (01) -/

/-- Compartment states (01, table of the compartment record). -/
inductive CompState where
  | pending | armed | active | done | short | notLoaded
  deriving DecidableEq, Repr

/-- The twelve compartment flags, in bit order (10, "Encodings"). -/
structure CompFlags where
  short       : Bool := false
  underPreset : Bool := false
  overrun     : Bool := false
  tempHeld    : Bool := false
  addUnder    : Bool := false
  addOver     : Bool := false
  addHalt     : Bool := false
  overrange   : Bool := false
  valveFault  : Bool := false
  meterFault  : Bool := false
  halted      : Bool := false
  permissive  : Bool := false
  deriving DecidableEq, Repr

/-- Additive owed, commanded and dispensed for one injector slot, in µL (01, R2). -/
structure Additive where
  owed      : Nat := 0
  commanded : Nat := 0
  dispensed : Nat := 0
  deriving DecidableEq, Repr

/-- A compartment record (01, R2). Volumes in mL; the temperature-weighted sum is signed. -/
structure Comp where
  number      : Nat
  product     : Nat
  preset      : Nat
  state       : CompState := .pending
  arm         : Option ArmId := none
  bank        : Option Bank := none
  gross       : Nat := 0
  standard    : Nat := 0
  grossRes    : Nat := 0
  standardRes : Nat := 0
  tempSum     : Int := 0
  opening     : Option Nat := none
  closing     : Option Nat := none
  additive    : PerSlot (Option Additive) := ⟨none, none⟩
  flags       : CompFlags := {}
  deriving DecidableEq, Repr

/-- Session states (R1). -/
inductive SessionState where
  | vacant | codeEntry | opened | ending
  deriving DecidableEq, Repr

/-- The session record and the session timers (R1, R7, R17). -/
structure Session where
  state          : SessionState := .vacant
  card           : Option Nat := none
  carrier        : Option Nat := none
  orderRef       : Option Nat := none
  vehicle        : Option Nat := none
  openTime       : Option (Nat × Nat) := none
  closeTime      : Option (Nat × Nat) := none
  hostAbort      : Bool := false
  hostLostDuring : Bool := false
  digits         : List Nat := []
  readerTag      : Option Tag := none
  lastKey        : Option Ms := none
  comps          : List Comp := []
  codeDeadline   : Option Ms := none
  /-- the latest of the three moments of R17 -/
  idleBase       : Option Ms := none
  deriving DecidableEq, Repr

/-! ### Permits and orders (02) -/

inductive PermitStatus where
  | active | suspended | locked
  deriving DecidableEq, Repr

/-- A permit record (R23). Card numbers are the numbers their ten digits spell. -/
structure Permit where
  card     : Nat
  code     : Option (List Nat)
  carrier  : Nat
  expiry   : Nat
  classes  : BitVec 16
  maxLoad  : Nat
  status   : PermitStatus
  attempts : Nat
  deriving DecidableEq, Repr

/-- An entry of an order's compartment list; preset in litres (02, order table). -/
structure OrderEntry where
  number  : Nat
  product : Nat
  preset  : Nat
  deriving DecidableEq, Repr

/-- An order record (R30). -/
structure Order where
  card    : Nat
  ref     : Nat
  vehicle : Option Nat
  entries : List OrderEntry
  deriving DecidableEq, Repr

/-- The permit store: permits by ascending card, the lookup key, orders by age (R24, R27, R31). -/
structure PermitStore where
  permits : List Permit := []
  key     : Option Nat := none
  orders  : List Order := []
  deriving DecidableEq, Repr

/-! ### Table banks (08, 05) -/

/-- A present product record (08, "Products"). -/
structure Product where
  cls    : Nat
  beta   : Nat
  recipe : Nat
  curve  : PerArm Nat
  deriving DecidableEq, Repr

/-- A point of a meter-factor curve: rate in L/min and meter factor in units of 10^-5 (08). -/
structure CurvePoint where
  rate   : Nat
  factor : Nat
  deriving DecidableEq, Repr

/-- One slot of a recipe that names an additive (R92). -/
structure RecipeSlot where
  code      : Nat
  ratio     : Nat
  shot      : Nat
  tolerance : Nat
  deriving DecidableEq, Repr

abbrev Recipe := PerSlot (Option RecipeSlot)

/-- The records of one bank: products 1 to 15, curves 1 to 16, recipes 1 to 8, each list from index 1.
An absent record is `none`; a present curve is its points used. -/
structure BankTables where
  products : List (Option Product) := List.replicate 15 none
  curves   : List (Option (List CurvePoint)) := List.replicate 16 none
  recipes  : List Recipe := List.replicate 8 ⟨none, none⟩
  deriving DecidableEq, Repr

/-- Both banks, the active-bank flag and the capture counts (R151). -/
structure Banks where
  a      : BankTables := {}
  b      : BankTables := {}
  active : Bank := .a
  countA : Nat := 0
  countB : Nat := 0
  deriving DecidableEq, Repr

/-! ### Arm controllers (03) -/

/-- An arm configuration record (03, "Configuration"). -/
structure ArmConfig where
  meter        : Option Tag := none
  temp         : Option Tag := none
  valve        : Option Tag := none
  injector     : PerSlot (Option Tag) := ⟨none, none⟩
  kFactor      : Nat := 0
  maxFlow      : Nat := 0
  startVolume  : Nat := 0
  trimVolume   : Nat := 0
  initialAnt   : Nat := 0
  overrunLimit : Nat := 0
  deriving DecidableEq, Repr

inductive ArmState where
  | idle | armed | starting | flowing | trimming | closing | halted | blocked
  deriving DecidableEq, Repr

/-- The halt causes (R44). -/
inductive Cause where
  | driverStop | permissive | deadman | tempStale | additive | injectorLost | hostStop
  deriving DecidableEq, Repr

/-- The halt-cause set as one mark per cause, in bit order (R44, 10 "Encodings"). -/
structure Causes where
  driverStop   : Bool := false
  permissive   : Bool := false
  deadman      : Bool := false
  tempStale    : Bool := false
  additive     : Bool := false
  injectorLost : Bool := false
  hostStop     : Bool := false
  deriving DecidableEq, Repr

inductive BlockCause where
  | meter | valve
  deriving DecidableEq, Repr

/-- The positions the part commands (R44). -/
inductive Position where
  | closed | low | full
  deriving DecidableEq, Repr

/-- The positions a valve reports (R48). -/
inductive ReportedPosition where
  | closed | low | full | moving
  deriving DecidableEq, Repr

/-- A valve status report: position and whether the coupler is connected (R48). -/
structure ValveReport where
  position : ReportedPosition
  coupler  : Bool
  deriving DecidableEq, Repr

/-- An arm record (R44) with the arm's three deadlines (R13, R53, R58). -/
structure Arm where
  state          : ArmState := .idle
  held           : Option Nat := none
  causes         : Causes := {}
  blockCause     : Option BlockCause := none
  commanded      : Position := .closed
  closeTime      : Option Ms := none
  closedSeen     : Bool := false
  zeroRun        : Nat := 0
  settled        : Bool := false
  gStart         : Nat := 0
  haltEntry      : Option Ms := none
  lastValve      : Option ValveReport := none
  trip           : Bool := false
  anticipation   : Nat := 0
  totalizer      : Nat := 0
  unassigned     : Nat := 0
  unassignedRes  : Nat := 0
  armedDeadline  : Option Ms := none
  settleDeadline : Option Ms := none
  haltDeadline   : Option Ms := none
  deriving DecidableEq, Repr

/-! ### Metering and dosing engines (04, 05) -/

/-- A metering record (R70). Temperatures in centidegrees. -/
structure Metering where
  baseline      : Option (Nat × Ms) := none
  run           : Nat := 0
  heldTemp      : Option (Int × Ms) := none
  invalidMark   : Bool := false
  staleDeadline : Option Ms := none
  staleMark     : Bool := false
  deriving DecidableEq, Repr

/-- A shot commanded and not yet complete: number 0 to 255 and size in µL (R94). -/
structure Shot where
  number : Nat
  size   : Nat
  deriving DecidableEq, Repr

/-- A dosing record (R94). -/
structure Dosing where
  baseline    : Option Nat := none
  nextShot    : Nat := 0
  outstanding : Option Shot := none
  deadline    : Option Ms := none
  deriving DecidableEq, Repr

/-! ### Permissive unit (06) -/

inductive DeadmanState where
  | stopped | live | warned | expired
  deriving DecidableEq, Repr

/-- The last permissive report with its arrival time (R110). -/
structure PermissiveReport where
  ground  : Bool
  dry     : Bool
  hose    : Bool
  estop   : Bool
  arrival : Ms
  deriving DecidableEq, Repr

/-- The permissive record and the output BAY PERMIT (R110). `estop` true means released. -/
structure Permissive where
  tag         : Option Tag := none
  last        : Option PermissiveReport := none
  ageDeadline : Option Ms := none
  healthy     : Bool := false
  deadmanBase : Option Nat := none
  deadman     : DeadmanState := .stopped
  warnAt      : Option Ms := none
  expireAt    : Option Ms := none
  bayPermit   : Bool := false
  deriving DecidableEq, Repr

/-! ### Note store (07) -/

inductive SlotState where
  | free | reserved | updating | filled
  deriving DecidableEq, Repr

/-- The header page of a note (R133). -/
structure HeaderPage where
  serial         : Nat
  card           : Nat
  carrier        : Nat
  orderRef       : Nat
  vehicle        : Option Nat
  openTime       : Nat × Nat
  closeTime      : Nat × Nat
  hostAbort      : Bool
  hostLostDuring : Bool
  count          : Nat
  deriving DecidableEq, Repr

/-- A compartment page of a note (R134): volumes in litres, additive as (code, mL), average temperature
in tenths of a degree. -/
structure CompPage where
  number    : Nat
  product   : Nat
  state     : CompState
  arm       : Option ArmId
  bank      : Option Bank
  preset    : Nat
  gross     : Nat
  standard  : Nat
  average   : Option Int
  totalizer : Option (Nat × Nat)
  additive  : PerSlot (Option (Nat × Nat))
  flags     : CompFlags
  deriving DecidableEq, Repr

/-- A note slot (R126). A page not written is zero: `header` absent, or `pages` shorter. -/
structure NoteSlot where
  state   : SlotState := .free
  serial  : Option Nat := none
  isNew   : Bool := false
  written : Nat := 0
  header  : Option HeaderPage := none
  pages   : List CompPage := []
  deriving DecidableEq, Repr

/-- The sixteen slots, the next serial, the slot the session holds (R126, R128), and the microseconds
since the last step of a compile, at most 10,000 (R130). -/
structure NoteStore where
  slots      : List NoteSlot := List.replicate 16 {}
  nextSerial : Nat := 0
  held       : Option Nat := none
  pageTimer  : Nat := 0
  deriving DecidableEq, Repr

/-! ### Field line controller (09) -/

inductive NodeState where
  | ok | degraded | lost
  deriving DecidableEq, Repr

/-- What the field line controller holds for one tag: fault score and node state (R177, R178), the start
of the last DRIVE to a valve at the tag and its refresh (R171), and the slow poll (R179). The two marks
latch "stays due" (log 10). -/
structure Node where
  score       : Nat := 0
  state       : NodeState := .ok
  lastDrive   : Option Ms := none
  refreshMark : Bool := false
  slowDue     : Option Ms := none
  slowMark    : Bool := false
  deriving DecidableEq, Repr

/-- The class of a scan entry; `empty` only in an empty entry (R165). -/
inductive ScanClass where
  | empty | fast | normal
  deriving DecidableEq, Repr

/-- A scan entry (R165); `lastStart` is `none` for never; `dueMark` latches "stays due" (R166, log 10). -/
structure ScanEntry where
  tag       : Tag := 0
  addr      : ObjAddr := 0
  period    : Nat := 0
  cls       : ScanClass := .empty
  enabled   : Bool := false
  lastStart : Option Ms := none
  late      : Nat := 0
  dueMark   : Bool := false
  deriving DecidableEq, Repr

inductive MatchDir where
  | response | command | either
  deriving DecidableEq, Repr

/-- The nine actions of an acceptance entry (R174). -/
inductive Action where
  | meterCount | temperature | valveStatus | injectorReport | permissive | reader | actuator | block | pass
  deriving DecidableEq, Repr

/-- The class of a frame: an action with its arm and slot (R175). -/
structure FrameClass where
  action : Action := .pass
  arm    : Option ArmId := none
  slot   : Option Slot := none
  deriving DecidableEq, Repr

/-- An acceptance entry (R174); it is unused when its kind set is empty. -/
structure AcceptanceEntry where
  dir     : MatchDir := .response
  kinds   : BitVec 4 := 0
  tagVal  : Tag := 0
  tagMask : Tag := 0
  objVal  : ObjAddr := 0
  objMask : ObjAddr := 0
  cls     : FrameClass := {}
  deriving DecidableEq, Repr

/-- An entry of the command queue (09, "The command queue"). -/
inductive Cmd where
  | valve (arm : ArmId) (tag : Tag) (position : Position) (retries : Nat)
  | shot (arm : ArmId) (slot : Slot) (tag : Tag) (number : Nat) (size : Nat)
  | display (tag : Tag) (code : Nat)
  deriving DecidableEq, Repr

/-- A host frame in the relay queue with the class found at intake (R172). -/
structure Relayed where
  frame : Frame
  cls   : FrameClass
  deriving DecidableEq, Repr

/-- The source of an exchange (09, "Exchanges"); a ROLL carries its two counts (R191). -/
inductive Source where
  | command (c : Cmd)
  | refresh (arm : ArmId)
  | scan (index : Nat)
  | relay
  | roll (relayed damaged : Nat)
  | slowPoll (tag : Tag)
  deriving DecidableEq, Repr

/-- The exchange record (09, "Exchanges"). `toSend` counts the microseconds left until the last command byte has
been sent; `waitFrom` is the clock reading at that moment, for a ROLL at the last byte sent or received (R167, R191,
R197), and is read once nothing is left to send. `muted` marks an exchange that yields nothing upstream after a
LINE BREAK (R184); `dropped` one whose outcome RESTART discards (R199). -/
structure Exchange where
  source   : Source
  frame    : Frame
  tag      : Tag
  toSend   : Nat
  waitFrom : Ms := 0
  muted    : Bool := false
  dropped  : Bool := false
  deriving DecidableEq, Repr

/-- A line's receiver with the bytes of the frame taken so far (R182). -/
inductive Receiver where
  | idle
  | receiving (bytes : List Byte)
  | hunt
  deriving DecidableEq, Repr

/-- A byte on its way to the part on a line: how many microseconds after the byte before it (or from now,
for the first) its last bit has been received. Such bytes are the model's own, an input that the senders
write (log 4); a byte is one event, at its last bit (DESIGN CHOICE, log 48). -/
structure WireByte where
  wait : Nat
  byte : Byte
  deriving DecidableEq, Repr

/-- The field line: receiver, LINE BREAK present, time since the last byte received in µs (at most 2,001), for the
turnaround gap (R185), the clock reading at that byte, for the 2 ms of R182 (R197), the exchange in progress, and the
bytes on their way to the part (log 4). At reset no LINE BREAK is present (DESIGN CHOICE, log 53) and the line has
long been silent (DESIGN CHOICE, log 20). -/
structure FieldLine where
  rx        : Receiver := .idle
  inBreak   : Bool := false
  sinceByte : Nat := 2001
  lastByte  : Ms := 0
  exchange  : Option Exchange := none
  wire      : List WireByte := []
  deriving DecidableEq, Repr

/-- The reader extraction state (R180). The two sequences are set and unset together. -/
structure Extraction where
  tag  : Option Tag := none
  seqs : Option (Nat × Nat) := none
  deriving DecidableEq, Repr

/-! ### Upstream port (10) -/

/-- A response of the outgoing list; `header` names the slot and serial whose NEW mark is cleared once
the response has been sent (R140). -/
structure Outgoing where
  frame  : Frame
  header : Option (Nat × Nat) := none
  deriving DecidableEq, Repr

/-- A response being transmitted and the microseconds it still takes (R185). -/
structure Sending where
  response : Outgoing
  left     : Nat
  deriving DecidableEq, Repr

/-- The upstream port: receiver, LINE BREAK present, turnaround timer in µs since the last byte received
(at most 2,001), the clock reading at that byte (R182, R197), turnaround gap in µs, outgoing list, the response
being transmitted, whether a byte was discarded during its transmission (R182, R184, R185), and the bytes on their
way to the part (log 4). At reset no LINE BREAK is present (DESIGN CHOICE, log 53) and the line has long been silent
(DESIGN CHOICE, log 20). -/
structure Upstream where
  rx        : Receiver := .idle
  inBreak   : Bool := false
  sinceByte : Nat := 2001
  lastByte  : Ms := 0
  gap       : Nat := 500
  outgoing  : List Outgoing := []
  sending   : Option Sending := none
  ignored   : Bool := false
  wire      : List WireByte := []
  deriving DecidableEq, Repr

/-- The whole part, and the queue of commands waiting. `freeCount` is the model's own: it makes every
free choice a fresh one (log 28). -/
structure State where
  clock      : Clock := {}
  mode       : Mode := .service
  status     : Status := {}
  session    : Session := {}
  store      : PermitStore := {}
  banks      : Banks := {}
  configs    : PerArm ArmConfig := ⟨{}, {}, {}, {}⟩
  arms       : PerArm Arm := ⟨{}, {}, {}, {}⟩
  metering   : PerArm Metering := ⟨{}, {}, {}, {}⟩
  dosing     : PerArm (PerSlot Dosing) := ⟨⟨{}, {}⟩, ⟨{}, {}⟩, ⟨{}, {}⟩, ⟨{}, {}⟩⟩
  permissive : Permissive := {}
  notes      : NoteStore := {}
  nodes      : List Node := List.replicate 64 {}
  scans      : List ScanEntry := List.replicate 32 {}
  acceptance : List AcceptanceEntry := List.replicate 24 {}
  cmdQueue   : List Cmd := []
  relayQueue : List Relayed := []
  field      : FieldLine := {}
  reader     : Extraction := {}
  up         : Upstream := {}
  freeCount  : Nat := 0
  pending    : List Instr := []
  deriving DecidableEq, Repr

/-- The part right after power-on reset or the reset input (R200 and its table): the silence deadline is
30 s ahead of a millisecond counter of 0 (R198), every other field is at its field default, which is the
value its rule gives, or the model's choice where no rule gives one (log 20, 53). -/
def State.reset : State :=
  { status := { silenceDeadline := some 30000 } }

end Sys2Proof.Machine
end

