-- ==== Sys2Proof/WellFormed.lean ====
section
/-! DEFINITION. Which terms of `Instr` describe an event of their row: payloads that a frame can carry,
frames that R186 sends to the row, byte runs that a frame can have, tags of field nodes. A term that
fails here changes nothing when it is run (log 3). -/

namespace Sys2Proof

/-- The operand checks of every command. -/
def Instr.wf : Instr → Bool
  | .powerOnReset => true
  | .resetInput => true
  | .lineBreak _ bytes => bytesFit bytes
  | .frameAbandoned _ bytes => bytesFit bytes
  | .receiveGapTimeout _ bytes _ => bytesFit bytes
  | .huntSilence _ => true
  | .upstreamCrcError bytes => bytesFit bytes
  | .upstreamFrameDiscarded f => payloadFits f.payload && f.isDiscardedUpstream
  | .badKind f => payloadFits f.payload && f.isBadKind
  | .relayIntake f => payloadFits f.payload && f.isRelayed
  | .rollIntake _ payload => payloadFits payload
  | .setService => true
  | .setRun => true
  | .clearStatusFlags payload => payloadFits payload
  | .queryStatusFlags payload => payloadFits payload
  | .clockSet payload => payloadFits payload
  | .terminalSecondTick => true
  | .swap => true
  | .restart _ => true
  | .sessionAbort _ => true
  | .armStop _ => true
  | .armResume _ => true
  | .armClear _ => true
  | .turnaroundGapSet payload => payloadFits payload
  | .armConfigurationSet _ payload => payloadFits payload
  | .acceptanceEntrySet _ payload => payloadFits payload
  | .scanEntrySet _ payload => payloadFits payload
  | .productSet _ _ payload => payloadFits payload
  | .curveSet _ _ payload => payloadFits payload
  | .recipeSet _ _ payload => payloadFits payload
  | .permitInsert payload => payloadFits payload
  | .permitRemove payload => payloadFits payload
  | .lookupKeySet payload => payloadFits payload
  | .orderInsert payload => payloadFits payload
  | .orderRemove payload => payloadFits payload
  | .noteRelease payload => payloadFits payload
  | .slotHeaderQuery _ payload => payloadFits payload
  | .otherObjectSet _ payload => payloadFits payload
  | .responseTransmit => true
  | .responseSent => true
  | .hostLost => true
  | .arbiterTake => true
  | .scanDue _ => true
  | .valveRefreshDue _ => true
  | .slowPollDue tag => isNodeTag tag
  | .fieldGoodResponse f => payloadFits f.payload && f.dir == .response
  | .fieldDamagedResponse bytes => bytesFit bytes
  | .fieldTimeout => true
  | .fieldFrameDiscarded f => payloadFits f.payload
  | .rollChainedResponse f => payloadFits f.payload && f.dir == .response
  | .rollDamagedResponse bytes => bytesFit bytes
  | .rollEnd => true
  | .codeEntryTimeout => true
  | .armedTimeout _ => true
  | .sessionIdleTimeout => true
  | .settleTimeout _ => true
  | .haltTimeout _ => true
  | .tempStale _ => true
  | .shotTimeout _ _ => true
  | .reportAgeExpiry => true
  | .deadmanWarning => true
  | .deadmanExpiry => true
  | .notePageWrite => true
  | .objectQuery _ payload => payloadFits payload
  | .byteIgnoredWhileTransmitting => true
  | .lineBreakEnd _ => true

end Sys2Proof
end

