-- ==== Sys2Proof/Machine/Access.lean ====
section
/-! DEFINITION. Reading and updating one part of the state. Every other file writes the state through the
updates here; Laws/State.lean says of each what it leaves alone. -/

namespace Sys2Proof.Machine

/-! ### Arms and slots -/

/-- The arms in the order the rules take them (00, "Naming conventions"). -/
def armIds : List ArmId := [.a1, .a2, .a3, .a4]

def slotIds : List Slot := [.s1, .s2]

/-- The number of an arm, 1 to 4. -/
def armNumber : ArmId → Nat
  | .a1 => 1
  | .a2 => 2
  | .a3 => 3
  | .a4 => 4

/-- The arm an arm number names; none outside 1 to 4. -/
def armOfNumber : Nat → Option ArmId
  | 1 => some .a1
  | 2 => some .a2
  | 3 => some .a3
  | 4 => some .a4
  | _ => none

def slotOfNumber : Nat → Option Slot
  | 1 => some .s1
  | 2 => some .s2
  | _ => none

def slotNumber : Slot → Nat
  | .s1 => 1
  | .s2 => 2

def PerArm.get {α : Type} (p : PerArm α) : ArmId → α
  | .a1 => p.a1
  | .a2 => p.a2
  | .a3 => p.a3
  | .a4 => p.a4

def PerArm.set {α : Type} (p : PerArm α) (n : ArmId) (x : α) : PerArm α :=
  match n with
  | .a1 => { p with a1 := x }
  | .a2 => { p with a2 := x }
  | .a3 => { p with a3 := x }
  | .a4 => { p with a4 := x }

def PerSlot.get {α : Type} (p : PerSlot α) : Slot → α
  | .s1 => p.s1
  | .s2 => p.s2

def PerSlot.set {α : Type} (p : PerSlot α) (k : Slot) (x : α) : PerSlot α :=
  match k with
  | .s1 => { p with s1 := x }
  | .s2 => { p with s2 := x }

/-! ### Reading -/

def State.arm (s : State) (n : ArmId) : Arm := s.arms.get n

def State.config (s : State) (n : ArmId) : ArmConfig := s.configs.get n

def State.meter (s : State) (n : ArmId) : Metering := s.metering.get n

def State.dose (s : State) (n : ArmId) (k : Slot) : Dosing := (s.dosing.get n).get k

/-- The node record of a tag. -/
def State.node (s : State) (t : Tag) : Node := s.nodes.getD t.toNat {}

def State.nodeLost (s : State) (t : Tag) : Bool := (s.node t).state == .lost

def State.nodeOk (s : State) (t : Tag) : Bool := (s.node t).state == .ok

/-- The compartment an arm holds (R44). -/
def State.heldComp (s : State) (n : ArmId) : Option Comp :=
  (s.arm n).held.bind fun k => s.session.comps.find? fun c => c.number == k

def Banks.tables (b : Banks) : Bank → BankTables
  | .a => b.a
  | .b => b.b

def Banks.count (b : Banks) : Bank → Nat
  | .a => b.countA
  | .b => b.countB

/-- The bank that is not the given one. -/
def otherBank : Bank → Bank
  | .a => .b
  | .b => .a

/-- The product record of a code, 1 to 15, in a bank. -/
def BankTables.product? (t : BankTables) (code : Nat) : Option Product :=
  if code = 0 then none else (t.products[code - 1]?).join

/-- The curve of an index, 1 to 16, in a bank. -/
def BankTables.curve? (t : BankTables) (index : Nat) : Option (List CurvePoint) :=
  if index = 0 then none else (t.curves[index - 1]?).join

/-- The recipe of an index; index 0 and a recipe with both slots absent carry no additive. -/
def BankTables.recipeOf (t : BankTables) (index : Nat) : Recipe :=
  if index = 0 then ⟨none, none⟩ else t.recipes.getD (index - 1) ⟨none, none⟩

/-- The recipe slot that a product prescribes for an injector slot in a bank (R92, R95). -/
def Banks.prescription (b : Banks) (bank : Bank) (product : Nat) (k : Slot) : Option RecipeSlot :=
  match (b.tables bank).product? product with
  | none => none
  | some p => ((b.tables bank).recipeOf p.recipe).get k

/-! ### Updates -/

def State.modClock (s : State) (f : Clock → Clock) : State := { s with clock := f s.clock }

def State.setMode (s : State) (m : Mode) : State := { s with mode := m }

def State.modStatus (s : State) (f : Status → Status) : State := { s with status := f s.status }

def State.modSession (s : State) (f : Session → Session) : State := { s with session := f s.session }

def State.modStore (s : State) (f : PermitStore → PermitStore) : State := { s with store := f s.store }

def State.modBanks (s : State) (f : Banks → Banks) : State := { s with banks := f s.banks }

def State.setConfig (s : State) (n : ArmId) (c : ArmConfig) : State :=
  { s with configs := s.configs.set n c }

def State.modArm (s : State) (n : ArmId) (f : Arm → Arm) : State :=
  { s with arms := s.arms.set n (f (s.arms.get n)) }

def State.modMeter (s : State) (n : ArmId) (f : Metering → Metering) : State :=
  { s with metering := s.metering.set n (f (s.metering.get n)) }

def State.modDose (s : State) (n : ArmId) (k : Slot) (f : Dosing → Dosing) : State :=
  { s with dosing := s.dosing.set n ((s.dosing.get n).set k (f ((s.dosing.get n).get k))) }

def State.modPermissive (s : State) (f : Permissive → Permissive) : State :=
  { s with permissive := f s.permissive }

def State.modNotes (s : State) (f : NoteStore → NoteStore) : State := { s with notes := f s.notes }

/-- Update the record of a field node; tags 0 and 63 name none. -/
def State.modNode (s : State) (t : Tag) (f : Node → Node) : State :=
  { s with nodes := if isNodeTag t then s.nodes.set t.toNat (f (s.nodes.getD t.toNat {})) else s.nodes }

def State.setNodes (s : State) (q : List Node) : State := { s with nodes := q }

def State.modScans (s : State) (f : List ScanEntry → List ScanEntry) : State :=
  { s with scans := f s.scans }

def State.modAcceptance (s : State) (f : List AcceptanceEntry → List AcceptanceEntry) : State :=
  { s with acceptance := f s.acceptance }

def State.setCmdQueue (s : State) (q : List Cmd) : State := { s with cmdQueue := q }

def State.setRelayQueue (s : State) (q : List Relayed) : State := { s with relayQueue := q }

def State.modField (s : State) (f : FieldLine → FieldLine) : State := { s with field := f s.field }

def State.setReader (s : State) (r : Extraction) : State := { s with reader := r }

def State.modUp (s : State) (f : Upstream → Upstream) : State := { s with up := f s.up }

/-- Update the compartment record of a number. -/
def State.modComp (s : State) (number : Nat) (f : Comp → Comp) : State :=
  s.modSession fun x => { x with comps := x.comps.map fun c => if c.number = number then f c else c }

/-- Update the compartment an arm holds, if it holds one. -/
def State.modHeld (s : State) (n : ArmId) (f : Comp → Comp) : State :=
  match (s.arm n).held with
  | none => s
  | some k => s.modComp k f

/-! ### Time (R197: every interval is a difference modulo 2^32) -/

def State.now (s : State) : Ms := s.clock.ms

/-- The clock reading `ms` milliseconds ahead. -/
def State.ahead (s : State) (ms : Nat) : Ms := s.clock.ms + BitVec.ofNat 32 ms

/-- Milliseconds since a reading. -/
def State.elapsed (s : State) (t : Ms) : Nat := (s.clock.ms - t).toNat

/-- More than 2 ms lie between a reading of the clock and a later one (R182). Every interval is a difference of
readings (R197), so that this one is 3 or more (DEDUCED, log 52). -/
def pastGap (now last : Ms) : Bool := decide (2 < (now - last).toNat)

/-- The last reading that lies more than 2 ms before another (log 52). -/
def beforeGap (now : Ms) : Ms := now - 3

/-- A running deadline has been reached: the counter has not more than half its range to it (log 25). -/
def State.reached (s : State) (deadline : Option Ms) : Bool :=
  match deadline with
  | none => false
  | some d => decide ((s.clock.ms - d).toNat < 2147483648)

/-- Terminal time as a day number and a second of day (R197). -/
def State.terminalTime (s : State) : Nat × Nat := (s.clock.day, s.clock.second)

end Sys2Proof.Machine
end

