-- ==== Sys2Proof/Machine/Flags.lean ====
section
/-! DEFINITION. The flag computations: sticky status flags and counters (R194 to R196), halt-cause sets
(R44), and the attention summary (R188). -/

namespace Sys2Proof.Machine

/-! ### Sticky status flags -/

/-- The nine flags by name (R194). -/
inductive StatusFlag where
  | noteReady | nodeLost | unassignedFlow | lockout | additiveFault | valveFault | meterFault | hostLost
  | linkErrors
  deriving DecidableEq, Repr

def StatusFlags.set (f : StatusFlags) (name : StatusFlag) (v : Bool) : StatusFlags :=
  match name with
  | .noteReady => { f with noteReady := v }
  | .nodeLost => { f with nodeLost := v }
  | .unassignedFlow => { f with unassignedFlow := v }
  | .lockout => { f with lockout := v }
  | .additiveFault => { f with additiveFault := v }
  | .valveFault => { f with valveFault := v }
  | .meterFault => { f with meterFault := v }
  | .hostLost => { f with hostLost := v }
  | .linkErrors => { f with linkErrors := v }

/-- Set a sticky flag at its event (R194). -/
def State.raiseFlag (s : State) (name : StatusFlag) : State :=
  s.modStatus fun x => { x with flags := x.flags.set name true }

/-- At least one note slot is FILLED with its NEW mark set (R142). -/
def State.unreadNote (s : State) : Bool :=
  s.notes.slots.any fun x => x.state == .filled && x.isNew

/-- The standing conditions of the flags that have one (11, "Sticky status flags"). -/
def State.standing (s : State) : StatusFlags :=
  { noteReady := s.unreadNote
    nodeLost := s.nodes.any fun x => x.state == .lost
    valveFault := armIds.any fun n => (s.arm n).trip
    meterFault := armIds.any fun n => (s.arm n).state == .blocked && (s.arm n).blockCause == some .meter
    hostLost := s.status.hostLost }

/-- One flag under R195: kept when its bit is 0, else set only if its standing condition holds. -/
def clearedFlag (bit flag standing : Bool) : Bool := if bit then standing else flag

/-- The flags after a SET that clears those whose bit of `mask` is 1 (R195); bits 9 to 15 are ignored. -/
def StatusFlags.cleared (f st : StatusFlags) (mask : BitVec 16) : StatusFlags :=
  { noteReady := clearedFlag (mask.getLsbD 0) f.noteReady st.noteReady
    nodeLost := clearedFlag (mask.getLsbD 1) f.nodeLost st.nodeLost
    unassignedFlow := clearedFlag (mask.getLsbD 2) f.unassignedFlow st.unassignedFlow
    lockout := clearedFlag (mask.getLsbD 3) f.lockout st.lockout
    additiveFault := clearedFlag (mask.getLsbD 4) f.additiveFault st.additiveFault
    valveFault := clearedFlag (mask.getLsbD 5) f.valveFault st.valveFault
    meterFault := clearedFlag (mask.getLsbD 6) f.meterFault st.meterFault
    hostLost := clearedFlag (mask.getLsbD 7) f.hostLost st.hostLost
    linkErrors := clearedFlag (mask.getLsbD 8) f.linkErrors st.linkErrors }

/-- Bits to a number, bit 0 first. -/
def bitsValue : List Bool → Nat
  | [] => 0
  | b :: bs => b.toNat + 2 * bitsValue bs

/-- The two flag bytes as a number, in the bit order of the flag layout (10, "Encodings"). -/
def StatusFlags.value (f : StatusFlags) : Nat :=
  bitsValue [f.noteReady, f.nodeLost, f.unassignedFlow, f.lockout, f.additiveFault, f.valveFault,
    f.meterFault, f.hostLost, f.linkErrors]

/-- The two flag bytes of a compartment page (10, "Encodings"). -/
def CompFlags.value (f : CompFlags) : Nat :=
  bitsValue [f.short, f.underPreset, f.overrun, f.tempHeld, f.addUnder, f.addOver, f.addHalt,
    f.overrange, f.valveFault, f.meterFault, f.halted, f.permissive]

/-! ### Counters -/

/-- The counters by name, in the order of the counters object (R196). -/
inductive CounterId where
  | upstreamCrc | upstreamFraming | ignored | fieldTimeouts | fieldCrc | implausible | injector | lateScans
  deriving DecidableEq, Repr

/-- The link counters, whose events also set LINK ERRORS (R196). -/
def CounterId.isLink : CounterId → Bool
  | .upstreamCrc => true
  | .upstreamFraming => true
  | .ignored => true
  | .fieldTimeouts => true
  | .fieldCrc => true
  | .implausible => false
  | .injector => false
  | .lateScans => false

/-- Raise by `k`, staying at 65535 (R196). -/
def saturate16 (x k : Nat) : Nat := min (x + k) 65535

def Counters.raise (c : Counters) (name : CounterId) (k : Nat) : Counters :=
  match name with
  | .upstreamCrc => { c with upstreamCrc := saturate16 c.upstreamCrc k }
  | .upstreamFraming => { c with upstreamFraming := saturate16 c.upstreamFraming k }
  | .ignored => { c with ignored := saturate16 c.ignored k }
  | .fieldTimeouts => { c with fieldTimeouts := saturate16 c.fieldTimeouts k }
  | .fieldCrc => { c with fieldCrc := saturate16 c.fieldCrc k }
  | .implausible => { c with implausible := saturate16 c.implausible k }
  | .injector => { c with injector := saturate16 c.injector k }
  | .lateScans => { c with lateScans := saturate16 c.lateScans k }

/-- Count `k` events of one counter, and LINK ERRORS for a link counter (R196). -/
def State.countBy (s : State) (name : CounterId) (k : Nat) : State :=
  s.modStatus fun x =>
    { x with
      counters := x.counters.raise name k
      flags := if name.isLink then x.flags.set .linkErrors true else x.flags }

/-- Count one event. -/
def State.count (s : State) (name : CounterId) : State := s.countBy name 1

/-! ### Halt-cause sets -/

def Causes.mem (c : Causes) : Cause → Bool
  | .driverStop => c.driverStop
  | .permissive => c.permissive
  | .deadman => c.deadman
  | .tempStale => c.tempStale
  | .additive => c.additive
  | .injectorLost => c.injectorLost
  | .hostStop => c.hostStop

def Causes.put (c : Causes) (name : Cause) (v : Bool) : Causes :=
  match name with
  | .driverStop => { c with driverStop := v }
  | .permissive => { c with permissive := v }
  | .deadman => { c with deadman := v }
  | .tempStale => { c with tempStale := v }
  | .additive => { c with additive := v }
  | .injectorLost => { c with injectorLost := v }
  | .hostStop => { c with hostStop := v }

def Causes.isEmpty (c : Causes) : Bool := c == {}

/-- The halt-cause byte (10, "Encodings"). -/
def Causes.value (c : Causes) : Nat :=
  bitsValue [c.driverStop, c.permissive, c.deadman, c.tempStale, c.additive, c.injectorLost, c.hostStop]

/-! ### The attention summary -/

/-- The attention summary of a response formed in this state (R188). -/
def State.attention (s : State) : Byte :=
  BitVec.ofNat 8 (bitsValue
    [s.unreadNote, s.status.flags != {}, s.status.declared, s.mode != .run])

end Sys2Proof.Machine
end

