-- ==== Sys2Proof/Machine/Frames.lean ====
section
/-! DEFINITION. Frames as bytes on a line: the CRC of R183, the wire form of a frame, and what R182 makes
of the bytes of one frame. -/

namespace Sys2Proof.Machine

/-- One bit of the CRC: polynomial 0x1021 (R183). -/
def crcBit (c : BitVec 16) : BitVec 16 := if c.msb then (c <<< 1) ^^^ 0x1021#16 else c <<< 1

/-- One byte of the CRC, most significant bit first (R183). -/
def crcByte (c : BitVec 16) (b : Byte) : BitVec 16 :=
  crcBit (crcBit (crcBit (crcBit (crcBit (crcBit (crcBit (crcBit (c ^^^ (b.setWidth 16 <<< 8)))))))))

/-- The CRC of a run of bytes, from 0xFFFF, with no final inversion (R183). -/
def crc16 (bytes : List Byte) : BitVec 16 := bytes.foldl crcByte 0xFFFF#16

/-- `n` bytes of a number, high byte first (10, "Record layouts"). -/
def beBytes : Nat → Nat → List Byte
  | 0, _ => []
  | n + 1, v => beBytes n (v / 256) ++ [BitVec.ofNat 8 v]

/-- The number that bytes carry, high byte first. -/
def beNat (bytes : List Byte) : Nat := bytes.foldl (fun acc b => acc * 256 + b.toNat) 0

/-- The lead byte: direction in bit 7, kind in bits 6 to 4 (10, "Bytes and frames"). -/
def leadByte (dir : Dir) (kind : Kind) : Byte :=
  (if dir = .command then 0x80#8 else 0x00#8) ||| (kind.setWidth 8 <<< 4)

/-- A frame's bytes without the CRC. -/
def frameBody (f : Frame) : List Byte :=
  [leadByte f.dir f.kind, BitVec.ofNat 8 f.payload.length, f.tag.setWidth 8] ++
    beBytes 2 f.addr.toNat ++ f.payload

/-- A frame's bytes on the line (10, "Bytes and frames"). -/
def frameWire (f : Frame) : List Byte := frameBody f ++ beBytes 2 (crc16 (frameBody f)).toNat

/-- How many bytes a frame takes. -/
def frameLength (f : Frame) : Nat := 7 + f.payload.length

/-- One byte takes 80 µs (10, "Bytes and frames"). -/
def frameTime (f : Frame) : Nat := 80 * frameLength f

/-- What the bytes of one frame, from its lead byte on, amount to (R182, R183). -/
inductive RxStatus where
  | incomplete
  | abandoned
  | whole (good : Bool)
  | overlong
  deriving DecidableEq, Repr

/-- A lead byte with any of bits 3 to 0 set, a length above 48, a tag above 63 (R182). -/
def badByte (bytes : List Byte) : Bool :=
  (match bytes[0]? with | some b => (b &&& 0x0F#8) != 0 | none => false) ||
  (match bytes[1]? with | some b => decide (48 < b.toNat) | none => false) ||
  (match bytes[2]? with | some b => decide (63 < b.toNat) | none => false)

/-- The bytes of one frame received so far (R182): abandoned at a bad byte, whole at the second CRC byte,
good when the CRC bytes equal the remainder (R183). -/
def rxStatus (bytes : List Byte) : RxStatus :=
  if badByte bytes then .abandoned
  else
    match bytes[1]? with
    | none => .incomplete
    | some len =>
      if bytes.length < 7 + len.toNat then .incomplete
      else if bytes.length = 7 + len.toNat then
        .whole (bytes.drop (5 + len.toNat) == beBytes 2 (crc16 (bytes.take (5 + len.toNat))).toNat)
      else .overlong

/-- The direction bit of received bytes is the command direction. -/
def commandBit (bytes : List Byte) : Bool :=
  match bytes[0]? with
  | some b => b.msb
  | none => false

/-- The bytes a receiver holds of a frame in progress. -/
def Receiver.bytes : Receiver → List Byte
  | .idle => []
  | .receiving bs => bs
  | .hunt => []

/-- Whether a receiver is within a frame. -/
def Receiver.isReceiving : Receiver → Bool
  | .idle => false
  | .receiving _ => true
  | .hunt => false

/-- A receiver in IDLE takes a byte as byte 0 of a frame (R182). -/
def firstByte (b : Byte) : Receiver := if badByte [b] then .hunt else .receiving [b]

/-- A byte received: byte 0 of a frame, or the next byte of one; HUNT discards it (R182). -/
def Receiver.take (r : Receiver) (b : Byte) : Receiver :=
  match r with
  | .idle => .receiving [b]
  | .receiving bs => .receiving (bs ++ [b])
  | .hunt => .hunt

/-- A receiver that more than 2 ms of silence bring to IDLE: it holds the first bytes of a frame, or stands in
HUNT (R182). -/
def Receiver.endsAtGap (r : Receiver) : Bool :=
  match r with
  | .idle => false
  | .receiving bs => rxStatus bs == .incomplete
  | .hunt => true

/-- The frame that the bytes of a whole good frame carry (10, "Bytes and frames"). -/
def frameOf (bytes : List Byte) : Frame :=
  { dir := if commandBit bytes then .command else .response
    kind := ((bytes.getD 0 0) >>> 4).setWidth 3
    tag := (bytes.getD 2 0).setWidth 6
    addr := BitVec.ofNat 16 (beNat ((bytes.drop 3).take 2))
    payload := (bytes.drop 5).take (bytes.getD 1 0).toNat }

/-! ### Bytes on their way (log 4) -/

/-- The byte that is received within the next microsecond. -/
def wireByte (w : List WireByte) : Option Byte :=
  match w with
  | [] => none
  | x :: _ => if x.wait ≤ 1 then some x.byte else none

/-- The bytes on their way a microsecond later. -/
def wireRest (w : List WireByte) : List WireByte :=
  match w with
  | [] => []
  | x :: rest => if x.wait ≤ 1 then rest else { x with wait := x.wait - 1 } :: rest

/-- The turnaround timers stand at 2,001 µs once every gap has passed (R185). -/
def silenceMax : Nat := 2001

end Sys2Proof.Machine
end

