-- ==== Sys2Proof/Machine/Operands.lean ====
section
/-! DEFINITION. Every operand form: the byte layouts of 10 ("Record layouts", "Field node formats"), read
into records with the checks their rules give, and written back as bytes. -/

namespace Sys2Proof.Machine

/-- The refusal reasons (R187). -/
inductive Reason where
  | badKind | badLength | noObject | readOnly | outOfRange | notInService | bankActive | bankInUse
  | tableFull | duplicate | notFound | busy | interlocked | bayActive | noResponse | wrongState
  deriving DecidableEq, Repr

/-- The reason codes (R187). -/
def Reason.code : Reason → Byte
  | .badKind => 1
  | .badLength => 2
  | .noObject => 3
  | .readOnly => 4
  | .outOfRange => 5
  | .notInService => 6
  | .bankActive => 7
  | .bankInUse => 8
  | .tableFull => 9
  | .duplicate => 10
  | .notFound => 11
  | .busy => 12
  | .interlocked => 13
  | .bayActive => 14
  | .noResponse => 15
  | .wrongState => 16

/-! ### Fields of a payload -/

/-- The number in `len` bytes at offset `off`, high byte first. -/
def fieldNat (bytes : List Byte) (off len : Nat) : Nat := beNat ((bytes.drop off).take len)

/-- The two half-bytes of each byte, high half first. -/
def halfBytes (bytes : List Byte) : List Nat := bytes.flatMap fun b => [b.toNat / 16, b.toNat % 16]

def inRange (x lo hi : Nat) : Bool := decide (lo ≤ x) && decide (x ≤ hi)

/-- The number a list of decimal digits spells, first digit first. -/
def digitsValue (digits : List Nat) : Nat := digits.foldl (fun acc d => acc * 10 + d) 0

/-- A card number from 5 bytes of packed decimal; none when a half-byte is above 9. -/
def cardOfBytes (bytes : List Byte) : Option Nat :=
  if (halfBytes bytes).all (fun d => decide (d ≤ 9)) then some (digitsValue (halfBytes bytes)) else none

/-- The last `n` decimal digits of a number, first digit first. -/
def decimalDigits : Nat → Nat → List Nat
  | 0, _ => []
  | n + 1, v => decimalDigits n (v / 10) ++ [v % 10]

/-- Half-bytes packed two to a byte. -/
def packHalfBytes : List Nat → List Byte
  | [] => []
  | [h] => [BitVec.ofNat 8 (h * 16)]
  | h :: l :: rest => BitVec.ofNat 8 (h * 16 + l) :: packHalfBytes rest

/-- A card number as 5 bytes of packed decimal. -/
def cardBytes (card : Nat) : List Byte := packHalfBytes (decimalDigits 10 card)

def boolByte (b : Bool) : Byte := if b then 1 else 0

/-- A byte of a small number. -/
def byteOf (n : Nat) : Byte := BitVec.ofNat 8 n

/-- A payload that is a card number alone (R26): the length first, then the digits. -/
def readCard (payload : List Byte) : Except Reason Nat :=
  if payload.length ≠ 5 then .error .badLength
  else
    match cardOfBytes payload with
    | none => .error .outOfRange
    | some card => .ok card

/-! ### Codes of the named values (10, "Encodings") -/

def modeCode : Mode → Nat
  | .service => 0
  | .servicePending => 1
  | .run => 2

def sessionCode : SessionState → Nat
  | .vacant => 0
  | .codeEntry => 1
  | .opened => 2
  | .ending => 3

def compCode : CompState → Nat
  | .pending => 0
  | .armed => 1
  | .active => 2
  | .done => 3
  | .short => 4
  | .notLoaded => 5

def armStateCode : ArmState → Nat
  | .idle => 0
  | .armed => 1
  | .starting => 2
  | .flowing => 3
  | .trimming => 4
  | .closing => 5
  | .halted => 6
  | .blocked => 7

def blockCode : Option BlockCause → Nat
  | none => 0
  | some .meter => 1
  | some .valve => 2

def positionCode : Position → Nat
  | .closed => 0
  | .low => 1
  | .full => 2

def reportedCode : ReportedPosition → Nat
  | .closed => 0
  | .low => 1
  | .full => 2
  | .moving => 3

def bankCode : Option Bank → Nat
  | none => 0
  | some .a => 1
  | some .b => 2

def slotStateCode : SlotState → Nat
  | .free => 0
  | .reserved => 1
  | .updating => 2
  | .filled => 3

def permitStatusCode : PermitStatus → Nat
  | .active => 0
  | .suspended => 1
  | .locked => 2

def permitStatusOf : Nat → Option PermitStatus
  | 0 => some .active
  | 1 => some .suspended
  | 2 => some .locked
  | _ => none

def deadmanCode : DeadmanState → Nat
  | .stopped => 0
  | .live => 1
  | .warned => 2
  | .expired => 3

def nodeStateCode : NodeState → Nat
  | .ok => 0
  | .degraded => 1
  | .lost => 2

def scanClassCode : ScanClass → Nat
  | .empty => 0
  | .fast => 1
  | .normal => 2

def matchDirCode : MatchDir → Nat
  | .response => 0
  | .command => 1
  | .either => 2

def matchDirOf : Nat → Option MatchDir
  | 0 => some .response
  | 1 => some .command
  | 2 => some .either
  | _ => none

def actionCode : Action → Nat
  | .meterCount => 0
  | .temperature => 1
  | .valveStatus => 2
  | .injectorReport => 3
  | .permissive => 4
  | .reader => 5
  | .actuator => 6
  | .block => 7
  | .pass => 8

def actionOf : Nat → Option Action
  | 0 => some .meterCount
  | 1 => some .temperature
  | 2 => some .valveStatus
  | 3 => some .injectorReport
  | 4 => some .permissive
  | 5 => some .reader
  | 6 => some .actuator
  | 7 => some .block
  | 8 => some .pass
  | _ => none

def optTagCode (t : Option Tag) : Byte :=
  match t with
  | none => 0
  | some t => t.setWidth 8

/-- A node tag of a configuration field: 0 absent, 1 to 62 a tag, else refused (R45). -/
def optTagOf (v : Nat) : Option (Option Tag) :=
  if v = 0 then some none else if v ≤ 62 then some (some (BitVec.ofNat 6 v)) else none

/-! ### Permit and order records -/

/-- Whether a permit record passes the field checks of R23. -/
def Permit.ok (p : Permit) : Bool :=
  (match p.code with
    | none => true
    | some ds => inRange ds.length 4 6 && ds.all fun d => decide (d ≤ 9)) &&
  inRange p.carrier 1 9999 && inRange p.maxLoad 1 99999 && decide (p.attempts ≤ 3) &&
  (p.attempts != 3 || p.status == .locked)

/-- A permit record from its 21 bytes, checked by R23. Unused half-bytes of the driver code are not
examined (log 15). -/
def readPermit (payload : List Byte) : Except Reason Permit :=
  if payload.length ≠ 21 then .error .badLength
  else
    match cardOfBytes (payload.take 5), permitStatusOf (fieldNat payload 19 1) with
    | some card, some status =>
      let len := fieldNat payload 5 1
      let p : Permit :=
        { card := card
          code := if len = 0 then none else some ((halfBytes ((payload.drop 6).take 3)).take len)
          carrier := fieldNat payload 9 2
          expiry := fieldNat payload 11 2
          classes := BitVec.ofNat 16 (fieldNat payload 13 2)
          maxLoad := fieldNat payload 15 4
          status := status
          attempts := fieldNat payload 20 1 }
      if p.ok && decide (len ≤ 6) then .ok p else .error .outOfRange
    | _, _ => .error .outOfRange

/-- The permit record layout (10, "Permit record"). -/
def permitBytes (p : Permit) : List Byte :=
  cardBytes p.card ++
  [byteOf ((p.code.getD []).length)] ++
  (packHalfBytes ((p.code.getD []) ++ List.replicate (6 - (p.code.getD []).length) 0)).take 3 ++
  beBytes 2 p.carrier ++ beBytes 2 p.expiry ++ beBytes 2 p.classes.toNat ++ beBytes 4 p.maxLoad ++
  [byteOf (permitStatusCode p.status), byteOf p.attempts]

/-- The entries of an order record, from byte 12 on. -/
def orderEntries : Nat → List Byte → List OrderEntry
  | 0, _ => []
  | n + 1, bytes =>
    { number := fieldNat bytes 0 1, product := fieldNat bytes 1 1, preset := fieldNat bytes 2 2 } ::
      orderEntries n (bytes.drop 4)

/-- No two entries of an order carry the same compartment number (R30). -/
def numbersDiffer : List OrderEntry → Bool
  | [] => true
  | e :: rest => rest.all (fun x => x.number != e.number) && numbersDiffer rest

/-- The field checks of R30 on the compartment list. -/
def entriesOk (entries : List OrderEntry) : Bool :=
  inRange entries.length 1 8 && numbersDiffer entries &&
  entries.all fun e => inRange e.number 1 8 && inRange e.product 1 15 && inRange e.preset 1 60000

/-- An order record from its 12 + 4n bytes, checked by R30. -/
def readOrder (payload : List Byte) : Except Reason Order :=
  if payload.length < 12 ∨ payload.length ≠ 12 + 4 * fieldNat payload 11 1 then .error .badLength
  else
    match cardOfBytes (payload.take 5) with
    | none => .error .outOfRange
    | some card =>
      let entries := orderEntries (fieldNat payload 11 1) (payload.drop 12)
      if entriesOk entries then
        .ok { card := card
              ref := fieldNat payload 5 4
              vehicle := if fieldNat payload 9 2 = 0 then none else some (fieldNat payload 9 2)
              entries := entries }
      else .error .outOfRange

/-- The order record layout (10, "Order record"). -/
def orderBytes (o : Order) : List Byte :=
  cardBytes o.card ++ beBytes 4 o.ref ++ beBytes 2 (o.vehicle.getD 0) ++ [byteOf o.entries.length] ++
  o.entries.flatMap fun e => [byteOf e.number, byteOf e.product] ++ beBytes 2 e.preset

/-! ### Configuration records -/

/-- The tags present all differ (R45). -/
def tagsDiffer (tags : List (Option Tag)) : Bool := decide (tags.filterMap id).Nodup

/-- The numeric ranges of an arm configuration record (03, "Configuration"). -/
def ArmConfig.ok (c : ArmConfig) : Bool :=
  tagsDiffer [c.meter, c.temp, c.valve, c.injector.s1, c.injector.s2] &&
  inRange c.kFactor 1000 500000 && inRange c.maxFlow 100 5000 && inRange c.startVolume 50 500 &&
  inRange c.trimVolume 50 1000 && decide (c.initialAnt ≤ 50) && inRange c.overrunLimit 5 200

/-- An arm configuration record from its 17 bytes, checked by R45. -/
def readConfig (r : List Byte) : Option ArmConfig :=
  match optTagOf (fieldNat r 0 1), optTagOf (fieldNat r 1 1), optTagOf (fieldNat r 2 1),
      optTagOf (fieldNat r 3 1), optTagOf (fieldNat r 4 1) with
  | some m, some t, some v, some i1, some i2 =>
    let c : ArmConfig :=
      { meter := m, temp := t, valve := v, injector := ⟨i1, i2⟩
        kFactor := fieldNat r 5 4
        maxFlow := fieldNat r 9 2
        startVolume := fieldNat r 11 2
        trimVolume := fieldNat r 13 2
        initialAnt := fieldNat r 15 1
        overrunLimit := fieldNat r 16 1 }
    if c.ok then some c else none
  | _, _, _, _, _ => none

def configBytes (c : ArmConfig) : List Byte :=
  [optTagCode c.meter, optTagCode c.temp, optTagCode c.valve, optTagCode c.injector.s1,
    optTagCode c.injector.s2] ++
  beBytes 4 c.kFactor ++ beBytes 2 c.maxFlow ++ beBytes 2 c.startVolume ++ beBytes 2 c.trimVolume ++
  [byteOf c.initialAnt, byteOf c.overrunLimit]

/-- Whether an action takes an arm (R174). -/
def Action.takesArm : Action → Bool
  | .meterCount => true
  | .temperature => true
  | .valveStatus => true
  | .injectorReport => true
  | .permissive => false
  | .reader => false
  | .actuator => true
  | .block => false
  | .pass => false

/-- Whether an action takes an injector slot (R174). -/
def Action.takesSlot : Action → Bool
  | .meterCount => false
  | .temperature => false
  | .valveStatus => false
  | .injectorReport => true
  | .permissive => false
  | .reader => false
  | .actuator => false
  | .block => false
  | .pass => false

/-- The class an acceptance record names, checked by R174: arm and slot are present exactly where the
action takes them. -/
def readClass (action arm slot : Nat) : Option FrameClass :=
  match actionOf action with
  | none => none
  | some a =>
    if (if a.takesArm then (armOfNumber arm).isSome else decide (arm = 0)) &&
        (if a.takesSlot then (slotOfNumber slot).isSome else decide (slot = 0)) then
      some { action := a, arm := armOfNumber arm, slot := slotOfNumber slot }
    else none

/-- An acceptance entry from its 11 bytes, checked by R174. -/
def readAcceptance (r : List Byte) : Option AcceptanceEntry :=
  if fieldNat r 1 1 = 0 then
    if fieldNat r 0 1 = 0 ∧ fieldNat r 2 6 = 0 ∧ fieldNat r 8 1 = 8 ∧ fieldNat r 9 2 = 0 then some {}
    else none
  else
    match matchDirOf (fieldNat r 0 1), readClass (fieldNat r 8 1) (fieldNat r 9 1) (fieldNat r 10 1) with
    | some dir, some cls =>
      let tagVal := BitVec.ofNat 6 (fieldNat r 2 1)
      let tagMask := BitVec.ofNat 6 (fieldNat r 3 1)
      let objVal := BitVec.ofNat 16 (fieldNat r 4 2)
      let objMask := BitVec.ofNat 16 (fieldNat r 6 2)
      if fieldNat r 1 1 ≤ 15 ∧ fieldNat r 2 1 ≤ 63 ∧ fieldNat r 3 1 ≤ 63 ∧
          tagVal &&& ~~~tagMask = 0 ∧ objVal &&& ~~~objMask = 0 then
        some { dir := dir, kinds := BitVec.ofNat 4 (fieldNat r 1 1), tagVal := tagVal
               tagMask := tagMask, objVal := objVal, objMask := objMask, cls := cls }
      else none
    | _, _ => none

def acceptanceBytes (e : AcceptanceEntry) : List Byte :=
  [byteOf (matchDirCode e.dir), e.kinds.setWidth 8, e.tagVal.setWidth 8, e.tagMask.setWidth 8] ++
  beBytes 2 e.objVal.toNat ++ beBytes 2 e.objMask.toNat ++
  [byteOf (actionCode e.cls.action),
    byteOf (match e.cls.arm with | none => 0 | some n => armNumber n),
    byteOf (match e.cls.slot with | none => 0 | some k => slotNumber k)]

/-- A scan entry from its 7 bytes, checked by R165; last start never and late count 0. -/
def readScan (r : List Byte) : Option ScanEntry :=
  let tag := fieldNat r 0 1
  let period := fieldNat r 3 2
  let cls := fieldNat r 5 1
  let enabled := fieldNat r 6 1
  if tag = 0 ∧ enabled = 0 then
    if fieldNat r 1 2 = 0 ∧ period = 0 ∧ cls = 0 then some {} else none
  else if inRange tag 1 62 && inRange period 50 5000 && inRange cls 1 2 && decide (enabled ≤ 1) then
    some { tag := BitVec.ofNat 6 tag
           addr := BitVec.ofNat 16 (fieldNat r 1 2)
           period := period
           cls := if cls = 1 then .fast else .normal
           enabled := decide (enabled = 1) }
  else none

/-- A scan entry as a QUERY returns it, with the node of its tag; an empty entry shows score 0 and OK
(R165), which is what the record of tag 0 holds. -/
def scanBytes (e : ScanEntry) (n : Node) : List Byte :=
  [e.tag.setWidth 8] ++ beBytes 2 e.addr.toNat ++ beBytes 2 e.period ++
  [byteOf (scanClassCode e.cls), boolByte e.enabled] ++ beBytes 2 e.late ++
  [byteOf n.score, byteOf (nodeStateCode n.state)]

/-! ### Bank records -/

/-- Every non-zero curve index names a curve present in the bank (R147). -/
def curveNamed (t : BankTables) (index : Nat) : Bool :=
  decide (index ≤ 16) && (index == 0 || (t.curve? index).isSome)

/-- A product record for code `code` of a bank, checked by R147: the outer none is a refusal, the inner
one an absent product. -/
def readProduct (t : BankTables) (code : Nat) (r : List Byte) : Option (Option Product) :=
  let p : Product :=
    { cls := fieldNat r 2 1
      beta := fieldNat r 3 2
      recipe := fieldNat r 5 1
      curve := ⟨fieldNat r 6 1, fieldNat r 7 1, fieldNat r 8 1, fieldNat r 9 1⟩ }
  if fieldNat r 0 1 ≠ code then none
  else if fieldNat r 1 1 = 0 then (if fieldNat r 2 8 = 0 then some none else none)
  else if fieldNat r 1 1 = 1 ∧ p.cls ≤ 15 ∧ p.beta ≤ 1500 ∧ p.recipe ≤ 8 ∧ curveNamed t p.curve.a1 ∧
      curveNamed t p.curve.a2 ∧ curveNamed t p.curve.a3 ∧ curveNamed t p.curve.a4 then some (some p)
  else none

/-- A product as a QUERY returns it; an absent one with its code and zeros (R148). -/
def productBytes (code : Nat) (p : Option Product) : List Byte :=
  match p with
  | none => byteOf code :: List.replicate 9 0
  | some p =>
    [byteOf code, 1, byteOf p.cls] ++ beBytes 2 p.beta ++
    [byteOf p.recipe, byteOf p.curve.a1, byteOf p.curve.a2, byteOf p.curve.a3, byteOf p.curve.a4]

/-- The points of a curve record, from byte 1 on: rate, then MF less 90,000. -/
def curvePoints : Nat → List Byte → List CurvePoint
  | 0, _ => []
  | n + 1, bytes =>
    { rate := fieldNat bytes 0 2, factor := 90000 + fieldNat bytes 2 2 } :: curvePoints n (bytes.drop 4)

/-- Rates rise strictly from point to point (R149). -/
def ratesRise : List CurvePoint → Bool
  | [] => true
  | [_] => true
  | p :: q :: rest => decide (p.rate < q.rate) && ratesRise (q :: rest)

/-- Some present product of the bank names this curve for an arm (R149). -/
def curveUsed (t : BankTables) (index : Nat) : Bool :=
  t.products.any fun p =>
    match p with
    | none => false
    | some p => armIds.any fun n => p.curve.get n == index

/-- A curve record for curve `index` of a bank, checked by R149. -/
def readCurve (t : BankTables) (index : Nat) (r : List Byte) : Option (Option (List CurvePoint)) :=
  let k := fieldNat r 0 1
  let pts := curvePoints k (r.drop 1)
  if k = 0 then (if curveUsed t index then none else some none)
  else if inRange k 2 6 && pts.all (fun p => decide (p.rate ≤ 9999) && decide (p.factor ≤ 110000)) &&
      ratesRise pts then some (some pts)
  else none

/-- A curve as a QUERY returns it, points beyond the count zero (R149, R150). -/
def curveBytes (c : Option (List CurvePoint)) : List Byte :=
  let pts := c.getD []
  byteOf pts.length :: (pts.flatMap fun p => beBytes 2 p.rate ++ beBytes 2 (p.factor - 90000)) ++
    List.replicate (24 - 4 * pts.length) 0

/-- One slot of a recipe record, checked by R92. -/
def readRecipeSlot (r : List Byte) : Option (Option RecipeSlot) :=
  let p : RecipeSlot :=
    { code := fieldNat r 0 1, ratio := fieldNat r 1 2, shot := fieldNat r 3 3, tolerance := fieldNat r 6 1 }
  if p.code = 0 then (if p.ratio = 0 ∧ p.shot = 0 ∧ p.tolerance = 0 then some none else none)
  else if inRange p.ratio 1 5000 && inRange p.shot 5000 100000 && inRange p.tolerance 1 20 then some (some p)
  else none

/-- A recipe record from its 14 bytes, checked slot by slot (R92). -/
def readRecipe (r : List Byte) : Option Recipe :=
  match readRecipeSlot (r.take 7), readRecipeSlot (r.drop 7) with
  | some x, some y => some ⟨x, y⟩
  | _, _ => none

def recipeSlotBytes (p : Option RecipeSlot) : List Byte :=
  match p with
  | none => List.replicate 7 0
  | some p => [byteOf p.code] ++ beBytes 2 p.ratio ++ beBytes 3 p.shot ++ [byteOf p.tolerance]

def recipeBytes (r : Recipe) : List Byte := recipeSlotBytes r.s1 ++ recipeSlotBytes r.s2

/-! ### Notes -/

/-- The header page layout, 29 bytes (10, "Note slot header and pages"). -/
def headerBytes (h : HeaderPage) : List Byte :=
  beBytes 4 h.serial ++ cardBytes h.card ++ beBytes 2 h.carrier ++ beBytes 4 h.orderRef ++
  beBytes 2 (h.vehicle.getD 0) ++ beBytes 2 h.openTime.1 ++ beBytes 3 h.openTime.2 ++
  beBytes 2 h.closeTime.1 ++ beBytes 3 h.closeTime.2 ++
  [byteOf (bitsValue [h.hostAbort, h.hostLostDuring]), byteOf h.count]

/-- A signed 16-bit field. -/
def signedBytes (x : Int) : List Byte := beBytes 2 (BitVec.ofInt 16 x).toNat

def additivePageBytes (a : Option (Nat × Nat)) : List Byte :=
  [byteOf (a.getD (0, 0)).1] ++ beBytes 3 (a.getD (0, 0)).2

/-- The compartment page layout, 34 bytes; fields marked absent read 0 (10). -/
def pageBytes (p : CompPage) : List Byte :=
  [byteOf p.number, byteOf p.product, byteOf (compCode p.state),
    byteOf (match p.arm with | none => 0 | some n => armNumber n), byteOf (bankCode p.bank)] ++
  beBytes 2 p.preset ++ beBytes 3 p.gross ++ beBytes 3 p.standard ++
  [byteOf (bitsValue
    [p.average.isSome, p.totalizer.isSome, p.additive.s1.isSome, p.additive.s2.isSome])] ++
  signedBytes (p.average.getD 0) ++
  beBytes 4 (p.totalizer.getD (0, 0)).1 ++ beBytes 4 (p.totalizer.getD (0, 0)).2 ++
  additivePageBytes p.additive.s1 ++ additivePageBytes p.additive.s2 ++ beBytes 2 p.flags.value

/-- A slot header, 7 bytes; an absent serial reads 0 (10). -/
def slotHeaderBytes (x : NoteSlot) : List Byte :=
  [byteOf (slotStateCode x.state), boolByte x.isNew, byteOf x.written] ++ beBytes 4 (x.serial.getD 0)

/-- Page `p` of a slot; a page not written is zeros (R141). -/
def notePageBytes (x : NoteSlot) (p : Nat) : List Byte :=
  if p = 0 then
    match x.header with
    | none => List.replicate 29 0
    | some h => headerBytes h
  else
    match x.pages[p - 1]? with
    | none => List.replicate 34 0
    | some c => pageBytes c

/-! ### Field reports (R193) -/

/-- METER COUNT: the count and whether the status is OK. -/
def readMeterCount (r : List Byte) : Option (Nat × Bool) :=
  if r.length = 3 ∧ fieldNat r 2 1 ≤ 1 then some (fieldNat r 0 2, decide (fieldNat r 2 1 = 0)) else none

/-- TEMPERATURE: centidegrees and validity. -/
def readTemperature (r : List Byte) : Option (Int × Bool) :=
  if r.length = 3 ∧ fieldNat r 2 1 ≤ 1 then
    some ((BitVec.ofNat 16 (fieldNat r 0 2)).toInt, decide (fieldNat r 2 1 = 1))
  else none

def reportedOf : Nat → Option ReportedPosition
  | 0 => some .closed
  | 1 => some .low
  | 2 => some .full
  | 3 => some .moving
  | _ => none

/-- VALVE STATUS: position and coupler. -/
def readValveStatus (r : List Byte) : Option ValveReport :=
  if r.length = 2 ∧ fieldNat r 1 1 ≤ 1 then
    match reportedOf (fieldNat r 0 1) with
    | none => none
    | some p => some { position := p, coupler := decide (fieldNat r 1 1 = 1) }
  else none

/-- INJECTOR REPORT: cumulative dispensed µL and last completed shot number. -/
def readInjector (r : List Byte) : Option (Nat × Nat) :=
  if r.length = 5 then some (fieldNat r 0 4, fieldNat r 4 1) else none

/-- PERMISSIVE: the four booleans (the arrival time is added at delivery) and the deadman counter. -/
def readPermissive (r : List Byte) (arrival : Ms) : Option (PermissiveReport × Nat) :=
  if r.length = 2 ∧ fieldNat r 0 1 < 16 then
    let b := BitVec.ofNat 4 (fieldNat r 0 1)
    some ({ ground := b.getLsbD 0, dry := b.getLsbD 1, hose := b.getLsbD 2, estop := b.getLsbD 3
            arrival := arrival }, fieldNat r 1 1)
  else none

/-- A reader report: card sequence, card number, key sequence and eight key codes, oldest first. -/
structure ReaderReport where
  cardSeq : Nat
  card    : Nat
  keySeq  : Nat
  keys    : List Nat
  deriving DecidableEq, Repr

def readReader (r : List Byte) : Option ReaderReport :=
  if r.length = 15 then
    match cardOfBytes ((r.drop 1).take 5) with
    | none => none
    | some card =>
      some { cardSeq := fieldNat r 0 1, card := card, keySeq := fieldNat r 6 1
             keys := (r.drop 7).map fun b => b.toNat }
  else none

end Sys2Proof.Machine
end

