-- ==== Sys2Proof/Machine/Ops.lean ====
section
/-! DEFINITION. The shared operations: the command queue (R169), display requests (R22), commanding a
valve (R47), halts (R57 to R60), BAY PERMIT (R121), responses upstream (R185, R187) and the rounding words of 00. -/

namespace Sys2Proof.Machine

/-! ### Rounding (00, "Rounding and integer division") -/

/-- Nearest, halves to even: floor quotient and non-negative remainder of a positive denominator. -/
def roundHalfEven (num : Int) (den : Nat) : Int :=
  let q := num / (den : Int)
  let r := num % (den : Int)
  if 2 * r < den then q else if (den : Int) < 2 * r then q + 1 else if q % 2 = 0 then q else q + 1

/-- Nearest, halves away from zero. -/
def roundHalfAway (num : Int) (den : Nat) : Int :=
  if 0 ≤ num then (((2 * num.natAbs + den) / (2 * den) : Nat) : Int)
  else -(((2 * num.natAbs + den) / (2 * den) : Nat) : Int)

/-! ### Arm states -/

/-- STARTING, FLOWING or TRIMMING: product moves under the arm's control. -/
def ArmState.isMoving : ArmState → Bool
  | .starting => true
  | .flowing => true
  | .trimming => true
  | .idle => false
  | .armed => false
  | .closing => false
  | .halted => false
  | .blocked => false

/-- STARTING, FLOWING, TRIMMING or CLOSING: the states a halt moves to HALTED (R57). -/
def ArmState.isActive : ArmState → Bool
  | .starting => true
  | .flowing => true
  | .trimming => true
  | .closing => true
  | .idle => false
  | .armed => false
  | .halted => false
  | .blocked => false

/-- The states in which increments go to the held compartment (R51). -/
def ArmState.isLoading : ArmState → Bool
  | .starting => true
  | .flowing => true
  | .trimming => true
  | .closing => true
  | .halted => true
  | .idle => false
  | .armed => false
  | .blocked => false

/-- An arm held by the session (01, "OPEN: selecting compartments"). -/
def ArmState.isHeld : ArmState → Bool
  | .armed => true
  | .starting => true
  | .flowing => true
  | .trimming => true
  | .closing => true
  | .halted => true
  | .idle => false
  | .blocked => false

def State.armState (s : State) (n : ArmId) : ArmState := (s.arm n).state

/-- No arm is held by the session. -/
def State.noArmHeld (s : State) : Bool := armIds.all fun n => !(s.armState n).isHeld

/-- Some arm is STARTING, FLOWING, TRIMMING or CLOSING (R191, R173). -/
def State.bayActive (s : State) : Bool := armIds.any fun n => (s.armState n).isActive

/-- Some arm is STARTING, FLOWING or TRIMMING (R118). -/
def State.someMoving (s : State) : Bool := armIds.any fun n => (s.armState n).isMoving

/-- Take a step for each arm in the order 1 to 4. -/
def forArms (f : ArmId → State → State) (s : State) : State := f .a4 (f .a3 (f .a2 (f .a1 s)))

/-! ### The command queue (R169) -/

/-- The valve DRIVE of an arm. -/
def Cmd.isValveOf (c : Cmd) (n : ArmId) : Bool :=
  match c with
  | .valve m _ _ _ => m == n
  | .shot _ _ _ _ _ => false
  | .display _ _ => false

def Cmd.isDisplay : Cmd → Bool
  | .valve _ _ _ _ => false
  | .shot _ _ _ _ _ => false
  | .display _ _ => true

/-- The node a queue entry is addressed to. -/
def Cmd.tag : Cmd → Tag
  | .valve _ t _ _ => t
  | .shot _ _ t _ _ => t
  | .display t _ => t

/-- The queue holds a valve DRIVE for the arm. -/
def State.valveQueued (s : State) (n : ArmId) : Bool := s.cmdQueue.any fun c => c.isValveOf n

/-- The places held back for valves: arms that name a valve node and have no valve DRIVE queued. -/
def State.valveReserve (s : State) : Nat :=
  (armIds.filter fun n => (s.config n).valve.isSome && !s.valveQueued n).length

/-- The queue has room for a shot or a display SET (R169). -/
def State.hasRoom (s : State) : Bool := decide (s.valveReserve < 8 - s.cmdQueue.length)

/-- A new position takes the place of the one queued for the same arm, its retry count 0 (R169). The entry keeps
the valve tag it was queued with, whatever the arm's configuration names since (DESIGN CHOICE, log 47). -/
def Cmd.superseded (c : Cmd) (n : ArmId) (p : Position) : Cmd :=
  match c with
  | .valve m t q r => if m = n then .valve m t p 0 else .valve m t q r
  | .shot m k t i z => .shot m k t i z
  | .display t i => .display t i

/-- Offer a valve DRIVE for an arm. A valve always finds its entry or a free place (R169), so the last
case bears only on states no run reaches (log 23). -/
def queueValve (n : ArmId) (p : Position) (s : State) : State :=
  match (s.config n).valve with
  | none => s
  | some t =>
    if s.nodeLost t then s
    else if s.valveQueued n then s.setCmdQueue (s.cmdQueue.map fun c => c.superseded n p)
    else if s.cmdQueue.length < 8 then s.setCmdQueue (s.cmdQueue ++ [.valve n t p 0])
    else s

/-- A queued display SET takes the new message code in place, addressed to the reader tag as it now stands
(R169, R22, log 7). -/
def Cmd.reworded (c : Cmd) (tag : Tag) (code : Nat) : Cmd :=
  match c with
  | .valve m t q r => .valve m t q r
  | .shot m k t i z => .shot m k t i z
  | .display _ _ => .display tag code

/-- Request a display message (R22, R169): discarded without a reader tag, to a LOST reader, or without
room; else it replaces the queued display SET or joins the tail. -/
def display (code : Nat) (s : State) : State :=
  match s.session.readerTag with
  | none => s
  | some t =>
    if s.nodeLost t then s
    else if s.cmdQueue.any Cmd.isDisplay then s.setCmdQueue (s.cmdQueue.map fun c => c.reworded t code)
    else if s.hasRoom then s.setCmdQueue (s.cmdQueue ++ [.display t code])
    else s

/-! ### Commanding a valve (R47) -/

/-- The arm's part of a command: CLOSED from STARTING, FLOWING or TRIMMING starts the settle. The settle
deadline is 15 s after the close time (R53). -/
def Arm.commandPosition (a : Arm) (p : Position) (now settleAt : Ms) : Arm :=
  if p = .closed ∧ a.state.isMoving then
    { a with commanded := p, closeTime := some now, closedSeen := false, settled := false, zeroRun := 0
             settleDeadline := some settleAt }
  else { a with commanded := p }

/-- The arm commands a position (R47). -/
def commandValve (n : ArmId) (p : Position) (s : State) : State :=
  queueValve n p (s.modArm n fun a => a.commandPosition p s.now (s.ahead 15000))

/-! ### Halts -/

/-- R58: close if needed, HALTED with its 600 s timeout, flag HALTED. -/
def haltArm (n : ArmId) (s : State) : State :=
  let s1 := if (s.armState n).isMoving then commandValve n .closed s else s
  let s2 := s1.modArm n fun a =>
    { a with state := .halted, haltEntry := some s1.now, haltDeadline := some (s1.ahead 600000) }
  s2.modHeld n fun c => { c with flags := { c.flags with halted := true } }

/-- Put a cause in the set; PERMISSIVE also flags the compartment (R57). -/
def addCause (n : ArmId) (cause : Cause) (s : State) : State :=
  let s1 := s.modArm n fun a => { a with causes := a.causes.put cause true }
  if cause = .permissive then
    s1.modHeld n fun c => { c with flags := { c.flags with permissive := true } }
  else s1

/-- A halt cause offered to an arm (R57). -/
def offerCause (n : ArmId) (cause : Cause) (s : State) : State :=
  if (s.armState n).isActive then haltArm n (addCause n cause s)
  else if s.armState n = .halted then addCause n cause s
  else s

/-- Take a cause out of an arm's set (R59). -/
def dropCause (n : ArmId) (cause : Cause) (s : State) : State :=
  s.modArm n fun a => { a with causes := a.causes.put cause false }

/-- Offer a cause to each STARTING, FLOWING or TRIMMING arm, 1 to 4 (R119, R122). R15, R69 and R161 give their
offers no order: arms 1 to 4 there too (DESIGN CHOICE, log 40). -/
def offerMoving (cause : Cause) (s : State) : State :=
  forArms (fun n t => if (t.armState n).isMoving then offerCause n cause t else t) s

/-- Offer a cause to each STARTING, FLOWING, TRIMMING or CLOSING arm, 1 to 4 (R113). -/
def offerActive (cause : Cause) (s : State) : State :=
  forArms (fun n t => if (t.armState n).isActive then offerCause n cause t else t) s

/-! ### BAY PERMIT (R121) -/

/-- The permissive tag is present and its node is not LOST. -/
def State.permissiveNodeUp (s : State) : Bool :=
  match s.permissive.tag with
  | none => false
  | some t => !s.nodeLost t

/-- What BAY PERMIT is when it is decided (R121). -/
def State.bayPermitHolds (s : State) : Bool :=
  s.mode == .run && s.permissiveNodeUp &&
  (match s.permissive.last with | none => false | some r => r.estop) &&
  armIds.all fun n => !(s.arm n).trip

/-- BAY PERMIT is decided anew (R121). -/
def decideBayPermit (s : State) : State := s.modPermissive fun p => { p with bayPermit := s.bayPermitHolds }

/-! ### The turnaround gap on the field line (R185) -/

/-- A command that has not begun waits until the turnaround gap has passed since the last byte received on the
field line, `since` microseconds ago. -/
def Exchange.awaitGap (e : Exchange) (gap since : Nat) : Exchange :=
  { e with toSend := if frameTime e.frame < e.toSend then (gap - since) + frameTime e.frame else e.toSend }

/-- The turnaround gap has passed and the command is being sent, or has been sent (R185). -/
def Exchange.begun (e : Exchange) : Bool := decide (e.toSend ≤ frameTime e.frame)

/-- The exchange that awaits a response: the one in progress, once its command has begun. A frame that ends before is
discarded, good or damaged, uncounted and unscored (R167, R182, R183); one that ends while the command is being
sent is taken as a response (DESIGN CHOICE, log 18). -/
def FieldLine.awaiting (x : FieldLine) : Option Exchange :=
  match x.exchange with
  | none => none
  | some e => if e.begun then some e else none

/-! ### Responses -/

/-- A response joins the outgoing list, or, when 8 stand in it, is dropped and counted (R185). -/
def pushResponse (r : Outgoing) (s : State) : State :=
  if s.up.outgoing.length < 8 then s.modUp fun u => { u with outgoing := u.outgoing ++ [r] }
  else s.count .ignored

/-- An answer of the part itself to a host frame. -/
inductive Reply where
  | done
  | data (bytes : List Byte)
  | refused (reason : Reason)
  /-- refused by R158 or R159, with the count of records written -/
  | refusedAfter (reason : Reason) (written : Nat)
  deriving DecidableEq, Repr

/-- The response kind (10, "Encodings"). -/
def Reply.kind : Reply → Kind
  | .done => 1
  | .data _ => 0
  | .refused _ => 2
  | .refusedAfter _ _ => 2

/-- The payload of a reply formed with an attention summary (R187). -/
def Reply.payload (r : Reply) (attention : Byte) : List Byte :=
  match r with
  | .done => [attention]
  | .data bytes => attention :: bytes
  | .refused reason => [reason.code, attention]
  | .refusedAfter reason written => [reason.code, attention, byteOf written]

/-- The response frame: direction 0, with the tag and address it is given, those of the frame it answers but for a
REFUSED that answers a ROLL and for a ROLL's closing response (R187, R191, R192). -/
def replyFrame (tag : Tag) (addr : ObjAddr) (r : Reply) (s : State) : Frame :=
  { dir := .response, kind := r.kind, tag := tag, addr := addr, payload := r.payload s.attention }

/-- Form a response in this state and place it in the outgoing list (R185, R187, R188). -/
def respond (tag : Tag) (addr : ObjAddr) (r : Reply) (s : State) : State :=
  pushResponse { frame := replyFrame tag addr r s } s

end Sys2Proof.Machine
end

