-- ==== Sys2Proof/Machine/Banks.lean ====
section
/-! DEFINITION. Bank capture (R152), the write tests of a bank (R153), and one record of each bank table
written (R147, R149, R92). -/

namespace Sys2Proof.Machine

/-- An arming captures a bank: its count rises by 1 (R152). -/
def captureBank (bank : Bank) (s : State) : State :=
  s.modBanks fun x =>
    match bank with
    | .a => { x with countA := x.countA + 1 }
    | .b => { x with countB := x.countB + 1 }

/-- A captured compartment stops being ARMED or ACTIVE: its bank's count falls by 1 (R152). -/
def uncaptureBank (bank : Option Bank) (s : State) : State :=
  match bank with
  | none => s
  | some .a => s.modBanks fun x => { x with countA := x.countA - 1 }
  | some .b => s.modBanks fun x => { x with countB := x.countB - 1 }

/-- Whether a bank holds a product (R151). -/
def BankTables.holdsProduct (t : BankTables) : Bool := t.products.any Option.isSome

/-- The number of present products (R154). -/
def BankTables.presentProducts (t : BankTables) : Nat := (t.products.filter Option.isSome).length

/-- The tests of the bank as a whole (R153). -/
def bankRefusal (bank : Bank) (s : State) : Option Reason :=
  if s.banks.active = bank then some .bankActive
  else if 0 < s.banks.count bank then some .bankInUse
  else none

def Banks.setTables (x : Banks) (bank : Bank) (t : BankTables) : Banks :=
  match bank with
  | .a => { x with a := t }
  | .b => { x with b := t }

def setTables (bank : Bank) (t : BankTables) (s : State) : State := s.modBanks fun x => x.setTables bank t

/-- Write one product record, or refuse it (R147). -/
def writeProduct (bank : Bank) (code : Nat) (r : List Byte) (s : State) : Option State :=
  match readProduct (s.banks.tables bank) code r with
  | none => none
  | some p =>
    some (setTables bank { s.banks.tables bank with products := (s.banks.tables bank).products.set (code - 1) p } s)

/-- Write one curve record, or refuse it (R149). -/
def writeCurve (bank : Bank) (index : Nat) (r : List Byte) (s : State) : Option State :=
  match readCurve (s.banks.tables bank) index r with
  | none => none
  | some c =>
    some (setTables bank { s.banks.tables bank with curves := (s.banks.tables bank).curves.set (index - 1) c } s)

/-- Write one recipe record, or refuse it (R92). -/
def writeRecipe (bank : Bank) (index : Nat) (r : List Byte) (s : State) : Option State :=
  match readRecipe r with
  | none => none
  | some x =>
    some (setTables bank { s.banks.tables bank with recipes := (s.banks.tables bank).recipes.set (index - 1) x } s)

/-- SWAP (R155): refused when the inactive bank holds no product. -/
def swapBanks (s : State) : State × Reply :=
  if (s.banks.tables (otherBank s.banks.active)).holdsProduct then
    (s.modBanks fun x => { x with active := otherBank x.active }, .done)
  else (s, .refused .outOfRange)

end Sys2Proof.Machine
end

