-- ==== Sys2Proof/Machine/Notes.lean ====
section
/-! DEFINITION. The note store: reservation (R128), the compile (R129, R130), the pages (R133 to R139) and
release (R143). -/

namespace Sys2Proof.Machine

/-- The count of FREE slots (R127). -/
def State.freeSlots (s : State) : Nat := (s.notes.slots.filter fun x => x.state == .free).length

/-- The lowest-numbered FREE slot becomes RESERVED and is the session's (R128). -/
def reserveSlot (s : State) : State :=
  match s.notes.slots.findIdx? fun x => x.state == .free with
  | none => s
  | some i =>
    s.modNotes fun x =>
      { x with
        slots := x.slots.modify i fun y => { y with state := .reserved }
        held := some i }

/-- The compile begins: UPDATING, the next serial, no page written (R129). -/
def beginCompile (s : State) : State :=
  match s.notes.held with
  | none => s
  | some i =>
    s.modNotes fun x =>
      { x with
        slots := x.slots.modify i fun y =>
          { y with state := .updating, serial := some x.nextSerial, written := 0, header := none, pages := [] }
        nextSerial := (x.nextSerial + 1) % 4294967296
        pageTimer := 0 }

/-- The header page, from the session record (R133). -/
def headerOf (serial : Nat) (x : Session) : HeaderPage :=
  { serial := serial
    card := x.card.getD 0
    carrier := x.carrier.getD 0
    orderRef := x.orderRef.getD 0
    vehicle := x.vehicle
    openTime := x.openTime.getD (0, 0)
    closeTime := x.closeTime.getD (0, 0)
    hostAbort := x.hostAbort
    hostLostDuring := x.hostLostDuring
    count := x.comps.length }

/-- mL to litres, or µL to mL, as the note shows them: nearest, halves to even (R135, R137). -/
def noteThousands (v : Nat) : Nat := (roundHalfEven (v : Int) 1000).toNat

/-- The average temperature in tenths of a degree: the quotient to the nearest 10 centidegrees, halves
away from zero; absent at gross 0 (R136). -/
def averageTemp (c : Comp) : Option Int :=
  if c.gross = 0 then none else some (roundHalfAway c.tempSum (10 * c.gross))

/-- An injector slot of the page: the code from the compartment's bank at this moment and the dispensed
mL, present when the record's fields are (R137). A code no longer in the bank reads 0, absent. -/
def additivePage (s : State) (c : Comp) (k : Slot) : Option (Nat × Nat) :=
  match c.additive.get k with
  | none => none
  | some a =>
    let p := c.bank.bind fun bank => s.banks.prescription bank c.product k
    some ((match p with | none => 0 | some x => x.code), noteThousands a.dispensed)

/-- The compartment page (R134 to R139). -/
def compPageOf (s : State) (c : Comp) : CompPage :=
  { number := c.number
    product := c.product
    state := c.state
    arm := c.arm
    bank := c.bank
    preset := c.preset / 1000
    gross := noteThousands c.gross
    standard := noteThousands c.standard
    average := averageTemp c
    totalizer :=
      match c.opening, c.closing with
      | some o, some e => some (o / 1000, e / 1000)
      | _, _ => none
    additive := ⟨additivePage s c .s1, additivePage s c .s2⟩
    flags := c.flags }

/-- The slot being compiled, with its index. -/
def State.compiling (s : State) : Option (Nat × NoteSlot) :=
  match s.notes.held with
  | none => none
  | some i =>
    match s.notes.slots[i]? with
    | none => none
    | some x => if x.state = .updating then some (i, x) else none

/-- A slot after its next page is written: page 0 the header, page i the i-th compartment (R130). -/
def writePage (s : State) (x : NoteSlot) : NoteSlot :=
  if x.written = 0 then { x with header := some (headerOf (x.serial.getD 0) s.session), written := 1 }
  else
    match s.session.comps[x.written - 1]? with
    | none => { x with written := x.written + 1 }
    | some c => { x with pages := x.pages ++ [compPageOf s c], written := x.written + 1 }

/-- The compile is completed: FILLED, NEW set (R131 steps 1 and 2). -/
def fillSlot (x : NoteSlot) : NoteSlot := { x with state := .filled, isNew := true }

/-- Release of a note by its serial (R143): the lowest-numbered FILLED slot that holds it. -/
def releaseNote (serial : Nat) (s : State) : State × Reply :=
  match s.notes.slots.findIdx? fun x => x.state == .filled && x.serial == some serial with
  | some i => (s.modNotes fun x => { x with slots := x.slots.set i {} }, .done)
  | none =>
    if s.notes.slots.any fun x => x.state == .updating && x.serial == some serial then
      (s, .refused .wrongState)
    else (s, .refused .notFound)

/-- The NEW mark of a slot is cleared once its header response has been sent, if the slot is still FILLED
with that serial (R140). -/
def clearNewMark (header : Option (Nat × Nat)) (s : State) : State :=
  match header with
  | none => s
  | some (i, serial) =>
    s.modNotes fun x =>
      { x with
        slots := x.slots.modify i fun y =>
          if y.state = .filled ∧ y.serial = some serial then { y with isNew := false } else y }

end Sys2Proof.Machine
end

