-- ==== Sys2Proof/Machine/Bay.lean ====
section
/-! DEFINITION. The session's own steps that other blocks call: the message codes (R22), return to VACANT
(R1, R163), entry to ENDING (R21), and the automatic end rule (R18). -/

namespace Sys2Proof.Machine

/-! ### Message codes (R22) -/

def msgWelcome : Nat := 1
def msgEnterCode : Nat := 2
def msgCodeWrong : Nat := 3
def msgLocked : Nat := 4
def msgPermitInvalid : Nat := 5
def msgExpired : Nat := 6
def msgNoOrder : Nat := 7
def msgProductNotPermitted : Nat := 8
def msgOverMaxLoad : Nat := 9
def msgNotesFull : Nat := 10
def msgBayBusy : Nat := 11
def msgSystemOffline : Nat := 12
def msgSelectCompartment : Nat := 13
def msgNoArm : Nat := 14
def msgPressStart : Nat := 15
def msgLoading : Nat := 16
def msgStopped : Nat := 17
def msgDeadmanWarning : Nat := 18
def msgPermitWithdrawn : Nat := 19
def msgArmsActive : Nat := 20
def msgLoadComplete : Nat := 21

/-! ### Return to VACANT -/

/-- A session record with every field cleared but the reader tag (R1). -/
def Session.vacated (x : Session) : Session := { readerTag := x.readerTag }

/-- The session returns to VACANT (R1); in SERVICE PENDING the mode becomes SERVICE (R163). -/
def returnVacant (s : State) : State :=
  let s1 := (s.modSession Session.vacated).modNotes fun x => { x with held := none }
  if s.mode = .servicePending then decideBayPermit (s1.setMode .service) else s1

/-! ### Ending -/

/-- The last held arm of an OPEN session has stopped being held: the idle limit is measured anew (R17). -/
def markIdle (s : State) : State :=
  if s.session.state = .opened ∧ s.noArmHeld then s.modSession fun x => { x with idleBase := some s.now }
  else s

/-- Entry to ENDING (R21). -/
def enterEnding (s : State) : State :=
  beginCompile (s.modSession fun x =>
    { x with state := .ending, closeTime := some s.terminalTime, idleBase := none })

/-- DONE, SHORT or NOT LOADED. -/
def CompState.isFinished : CompState → Bool
  | .pending => false
  | .armed => false
  | .active => false
  | .done => true
  | .short => true
  | .notLoaded => true

/-- Every compartment is DONE, SHORT or NOT LOADED. -/
def State.allFinished (s : State) : Bool := s.session.comps.all fun c => c.state.isFinished

/-- At least one compartment is PENDING. -/
def State.somePending (s : State) : Bool := s.session.comps.any fun c => c.state == .pending

/-- No arm is ARMED, STARTING, FLOWING, TRIMMING or CLOSING. -/
def State.onlyHaltedHeld (s : State) : Bool :=
  armIds.all fun n => !(s.armState n).isActive && s.armState n != .armed

/-- The automatic end rule (R18). -/
def examine (s : State) : State :=
  if s.session.state = .opened then
    if s.allFinished ∧ s.noArmHeld then enterEnding s
    else if ¬s.session.hostAbort ∧ s.somePending ∧ s.onlyHaltedHeld then display msgSelectCompartment s
    else s
  else s

/-- PENDING compartments become NOT LOADED (R16, R17, R20). -/
def pendingNotLoaded (s : State) : State :=
  s.modSession fun x =>
    { x with comps := x.comps.map fun c => if c.state = .pending then { c with state := .notLoaded } else c }

end Sys2Proof.Machine
end

