-- ==== Sys2Proof/Machine/Dosing.lean ====
section
/-! DEFINITION. The dosing engine (05): setting up a compartment, owed additive, pacing shots, their
outcomes, injector reports, the running and end checks, node loss and recovery. -/

namespace Sys2Proof.Machine

/-- The recipe slot a compartment doses by: its product's recipe in its captured bank (R93). -/
def State.recipeFor (s : State) (c : Comp) (k : Slot) : Option RecipeSlot :=
  c.bank.bind fun bank => s.banks.prescription bank c.product k

/-- Change the additive fields of one slot where they are present. -/
def Comp.modAdditive (c : Comp) (k : Slot) (f : Additive → Additive) : Comp :=
  { c with additive := c.additive.set k ((c.additive.get k).map f) }

/-- The additive fields at arming: 0 for each slot whose recipe names an additive, else absent (R95). -/
def additiveSetup (x : Banks) (bank : Bank) (product : Nat) : PerSlot (Option Additive) :=
  ⟨(x.prescription bank product .s1).map fun _ => {}, (x.prescription bank product .s2).map fun _ => {}⟩

/-- The held compartment has additive fields for the slot. -/
def State.dosesSlot (s : State) (n : ArmId) (k : Slot) : Bool :=
  match s.heldComp n with
  | none => false
  | some c => (c.additive.get k).isSome

/-! ### Owed additive and shots -/

/-- owed = ceil(gross × R / 1,000) (R96). -/
def owedFor (gross ratio : Nat) : Nat := (gross * ratio + 999) / 1000

/-- Recompute the owed additive of one slot of the held compartment (R96). -/
def recomputeOwed (n : ArmId) (k : Slot) (s : State) : State :=
  match s.heldComp n with
  | none => s
  | some c =>
    match s.recipeFor c k with
    | none => s
    | some p => s.modHeld n fun c => c.modAdditive k fun a => { a with owed := owedFor c.gross p.ratio }

/-- The conditions of R97 for a shot of size `size`, with the injector's tag when they hold. -/
def shotTag (n : ArmId) (k : Slot) (a : Additive) (size : Nat) (s : State) : Option Tag :=
  match (s.config n).injector.get k with
  | none => none
  | some t =>
    if decide (a.commanded + size ≤ a.owed) && (s.dose n k).outstanding.isNone && (s.armState n).isMoving &&
        s.nodeOk t && (s.dose n k).baseline.isSome then some t
    else none

/-- The queue takes a shot DRIVE: outstanding, next number, commanded and deadline (R98). -/
def commandShot (n : ArmId) (k : Slot) (t : Tag) (size : Nat) (s : State) : State :=
  let number := (s.dose n k).nextShot
  let s1 := s.setCmdQueue (s.cmdQueue ++ [.shot n k t number size])
  let s2 := s1.modDose n k fun d =>
    { d with outstanding := some { number := number, size := size }, nextShot := (number + 1) % 256
             deadline := some (s.ahead 3000) }
  s2.modHeld n fun c => c.modAdditive k fun a => { a with commanded := a.commanded + size }

/-- The shot test of one slot (R97, R98): without room in the queue nothing changes. -/
def paceSlot (n : ArmId) (k : Slot) (s : State) : State :=
  match s.heldComp n with
  | none => s
  | some c =>
    match c.additive.get k, s.recipeFor c k with
    | some a, some p =>
      match shotTag n k a p.shot s with
      | none => s
      | some t => if s.hasRoom then commandShot n k t p.shot s else s
    | _, _ => s

/-- Dosing at a credited increment: owed of both slots, then the shot test of each (R96, R97). Which slot is
tested first, and so takes the last place of the queue, is not said: slot 1 (DESIGN CHOICE, log 44). -/
def doseIncrement (n : ArmId) (s : State) : State :=
  paceSlot n .s2 (paceSlot n .s1 (recomputeOwed n .s2 (recomputeOwed n .s1 s)))

/-- Write off the outstanding shot (R99, R105): commanded falls by its size. -/
def writeOffShot (n : ArmId) (k : Slot) (s : State) : State :=
  match (s.dose n k).outstanding with
  | none => s
  | some x =>
    (s.modHeld n fun c => c.modAdditive k fun a => { a with commanded := a.commanded - x.size }).modDose n k
      fun d => { d with outstanding := none, deadline := none }

/-- The outcome REFUSED of a shot DRIVE writes the shot off if it is still outstanding; every other
outcome changes nothing (R99). -/
def shotOutcome (n : ArmId) (k : Slot) (number : Nat) (refused : Bool) (s : State) : State :=
  match (s.dose n k).outstanding with
  | none => s
  | some x => if refused ∧ x.number = number then writeOffShot n k s else s

/-! ### Injector reports -/

/-- Credit a dispensed delta to the loading compartment, saturating (R101). -/
def creditDispensed (n : ArmId) (k : Slot) (delta : Nat) (s : State) : State :=
  if (s.armState n).isLoading then
    s.modHeld n fun c => c.modAdditive k fun a => { a with dispensed := min (a.dispensed + delta) 4294967295 }
  else s

/-- The running check fails (R104): made once commanded has reached 4 shots, each division truncated. -/
def runningCheckFails (a : Additive) (p : RecipeSlot) : Bool :=
  decide (4 * p.shot ≤ a.commanded) &&
  decide (a.commanded * p.tolerance / 100 + p.shot / 2 < max a.dispensed a.commanded - min a.dispensed a.commanded)

/-- The running check at a completed shot (R104). -/
def runningCheck (n : ArmId) (k : Slot) (s : State) : State :=
  if (s.armState n).isLoading then
    match s.heldComp n with
    | none => s
    | some c =>
      match c.additive.get k, s.recipeFor c k with
      | some a, some p =>
        if runningCheckFails a p then
          offerCause n .additive
            ((s.modHeld n fun c => { c with flags := { c.flags with addHalt := true } }).raiseFlag .additiveFault)
        else s
      | _, _ => s
  else s

/-- A report whose last completed number has reached the outstanding shot completes it (R102). -/
def completeShot (n : ArmId) (k : Slot) (last : Nat) (s : State) : State :=
  match (s.dose n k).outstanding with
  | none => s
  | some x =>
    if (last + 256 - x.number) % 256 < 128 then
      runningCheck n k (s.modDose n k fun d => { d with outstanding := none, deadline := none })
    else s

/-- An INJECTOR REPORT (R100 to R102). -/
def injectorReport (n : ArmId) (k : Slot) (tag : Tag) (d last : Nat) (s : State) : State :=
  if (s.config n).injector.get k = some tag ∧ ¬s.nodeLost tag then
    match (s.dose n k).baseline with
    | none => s.modDose n k fun x => { x with baseline := some d, nextShot := (last + 1) % 256 }
    | some base =>
      completeShot n k last
        (creditDispensed n k ((d + 4294967296 - base) % 4294967296)
          (s.modDose n k fun x => { x with baseline := some d }))
  else s

/-! ### Overdue shots, node loss -/

/-- A shot is outstanding and its deadline has been reached (R103). -/
def State.shotOverdue (s : State) (n : ArmId) (k : Slot) : Bool :=
  (s.dose n k).outstanding.isSome && s.reached (s.dose n k).deadline

/-- A shot outstanding too long (R103). -/
def shotExpiry (n : ArmId) (k : Slot) (s : State) : State :=
  offerCause n .additive
    (((s.modDose n k fun d => { d with deadline := none }).count .injector).raiseFlag .additiveFault)

/-- The injector node of a slot becomes LOST (R105). -/
def injectorLost (n : ArmId) (k : Slot) (s : State) : State :=
  let s1 := (writeOffShot n k s).modDose n k fun d => { d with baseline := none }
  if s1.dosesSlot n k then offerCause n .injectorLost s1 else s1

/-- The injector node of a slot is LOST and the held compartment has fields for the slot (R106). -/
def State.slotLost (s : State) (n : ArmId) (k : Slot) : Bool :=
  s.dosesSlot n k && (match (s.config n).injector.get k with | none => false | some t => s.nodeLost t)

/-- INJECTOR LOST leaves the set when no injector node that serves a slot in use is LOST (R59). -/
def injectorRecovered (n : ArmId) (s : State) : State :=
  if s.slotLost n .s1 || s.slotLost n .s2 then s else dropCause n .injectorLost s

/-! ### The end check (R108) -/

/-- ADD UNDER and ADD OVER of one slot: an unserved slot is under; else outside the band. -/
def endVerdict (injector : Option Tag) (a : Additive) (p : Option RecipeSlot) : Bool × Bool :=
  match injector, p with
  | none, _ => (true, false)
  | some _, none => (false, false)
  | some _, some p =>
    let band := a.owed * p.tolerance / 100 + p.shot
    (decide (a.dispensed + band < a.owed), decide (a.owed + band < a.dispensed))

/-- The end check of one slot of the held compartment. -/
def endCheckSlot (n : ArmId) (k : Slot) (s : State) : State :=
  match s.heldComp n with
  | none => s
  | some c =>
    match c.additive.get k with
    | none => s
    | some a =>
      let v := endVerdict ((s.config n).injector.get k) a (s.recipeFor c k)
      let s1 := s.modHeld n fun c =>
        { c with flags := { c.flags with addUnder := c.flags.addUnder || v.1, addOver := c.flags.addOver || v.2 } }
      if v.1 || v.2 then s1.raiseFlag .additiveFault else s1

/-- A slot abandons its outstanding shot (R108). -/
def abandonShot (n : ArmId) (k : Slot) (s : State) : State :=
  s.modDose n k fun d => { d with outstanding := none, deadline := none }

/-- The end check of a compartment at its release (R108). -/
def endCheck (n : ArmId) (s : State) : State :=
  abandonShot n .s2 (abandonShot n .s1 (endCheckSlot n .s2 (endCheckSlot n .s1 s)))

end Sys2Proof.Machine
end

