-- ==== Sys2Proof/Machine/Arms.lean ====
section
/-! DEFINITION. The arm controllers (03): arming and disarming, start, staging, settle, completion, release,
resume, faults, valve reports and the host's commands to an arm. -/

namespace Sys2Proof.Machine

/-! ### Arming (R12, R49) -/

/-- The arm record at entry to ARMED. -/
def Arm.takeComp (a : Arm) (number : Nat) (deadline : Ms) : Arm :=
  { a with
    state := .armed, held := some number, causes := {}, closedSeen := false, settled := false
    zeroRun := 0, closeTime := none, haltEntry := none, armedDeadline := some deadline }

/-- An arm is taken for a compartment (R12 steps 1 to 5). -/
def takeArm (n : ArmId) (c : Comp) (s : State) : State :=
  let bank := s.banks.active
  let s1 := s.modArm n fun a => a.takeComp c.number (s.ahead 120000)
  let s2 := s1.modComp c.number fun c => { c with state := .armed, arm := some n, bank := some bank }
  let s3 := captureBank bank s2
  s3.modComp c.number fun c => { c with additive := additiveSetup s3.banks bank c.product }

/-- The compartment of an ARMED arm returns to PENDING and loses its capture (R2, R13, R15, R63). -/
def returnToPending (n : ArmId) (s : State) : State :=
  match s.heldComp n with
  | none => s
  | some c =>
    uncaptureBank c.bank (s.modHeld n fun c =>
      { c with state := .pending, arm := none, bank := none, additive := ⟨none, none⟩ })

/-- An ARMED arm gives its compartment back and enters IDLE, or BLOCKED with a cause (R49, R63, R64). -/
def disarm (n : ArmId) (blk : Option BlockCause) (s : State) : State :=
  markIdle ((returnToPending n s).modArm n fun a =>
    { a with
      state := if blk.isSome then .blocked else .idle
      held := none
      blockCause := if blk.isSome then blk else a.blockCause
      armedDeadline := none })

/-- Every ARMED arm returns to IDLE, 1 to 4 (R15, R16, R20). -/
def disarmAll (s : State) : State :=
  forArms (fun n t => if t.armState n = .armed then disarm n none t else t) s

/-- The ARMED deadline of an ARMED arm has been reached (R13). -/
def State.armedOverdue (s : State) (n : ArmId) : Bool :=
  s.armState n == .armed && s.reached (s.arm n).armedDeadline

/-- The ARMED limit (R13). -/
def armedExpiry (n : ArmId) (s : State) : State := display msgSelectCompartment (disarm n none s)

/-! ### Start and resume (R50, R60) -/

/-- The compartment at START (R50 steps 1, 2 and 4). -/
def Comp.started (c : Comp) (totalizer : Nat) : Comp :=
  { c with
    opening := some totalizer, gross := 0, standard := 0, grossRes := 0, standardRes := 0, tempSum := 0
    state := .active }

/-- START offered to an ARMED arm (R50). -/
def startArm (n : ArmId) (s : State) : State :=
  let s1 := s.modHeld n fun c => c.started (s.arm n).totalizer
  let s2 := commandValve n .low (s1.modArm n fun a => { a with gStart := 0 })
  s2.modArm n fun a => { a with state := .starting, armedDeadline := none }

/-- The causes START removes leave the set (R59). -/
def Causes.afterStart (c : Causes) : Causes :=
  { c with driverStop := false, deadman := false, additive := false }

/-- A HALTED arm resumes once START has removed its causes: settled, and none left (R60). -/
def Arm.canResume (a : Arm) : Bool := a.settled && a.causes.afterStart.isEmpty

/-- START offered to a HALTED arm (R60). -/
def resumeArm (n : ArmId) (s : State) : State :=
  let s1 := s.modArm n fun a => { a with causes := a.causes.afterStart }
  if (s.arm n).canResume then
    let g := match s.heldComp n with | none => 0 | some c => c.gross
    (commandValve n .low (s1.modArm n fun a => { a with gStart := g })).modArm n fun a =>
      { a with state := .starting, haltEntry := none, haltDeadline := none }
  else s1

/-! ### Release (R56) -/

/-- The closing totalizer is taken if absent, and a SHORT compartment is flagged SHORT (R56 step 1). -/
def Comp.closed (c : Comp) (totalizer : Nat) : Comp :=
  { c with
    closing := some (c.closing.getD totalizer)
    flags := { c.flags with short := c.flags.short || c.state == .short } }

/-- The arm record after release into IDLE or BLOCKED (R56 steps 4 and 5). -/
def Arm.released (a : Arm) (blk : Option BlockCause) : Arm :=
  { a with
    state := if blk.isSome then .blocked else .idle
    held := none, causes := {}, blockCause := blk, closeTime := none, haltEntry := none
    settleDeadline := none, haltDeadline := none, closedSeen := false, settled := false, zeroRun := 0 }

/-- Release without the automatic end rule, as within END and SESSION ABORT (R56, R16, R20). -/
def release (n : ArmId) (blk : Option BlockCause) (s : State) : State :=
  match s.heldComp n with
  | none => s
  | some c =>
    let s1 := s.modHeld n fun c => c.closed (s.arm n).totalizer
    let s2 := endCheck n (uncaptureBank c.bank s1)
    markIdle (s2.modArm n fun a => a.released blk)

/-- Release, then the automatic end rule (R56). -/
def releaseExamine (n : ArmId) (blk : Option BlockCause) (s : State) : State := examine (release n blk s)

/-- The compartment becomes SHORT before its release (R16, R61, R62). -/
def shortHeld (n : ArmId) (s : State) : State := s.modHeld n fun c => { c with state := .short }

/-! ### Completion and settle -/

/-- The overrun error e = g − p (R54 step 2). -/
def Comp.error (c : Comp) : Int := (c.gross : Int) - (c.preset : Int)

/-- The learned anticipation: A + e/2 truncated toward zero, clamped to 0..50,000 (R54 step 3). -/
def learned (a : Nat) (e : Int) : Nat := (max 0 (min 50000 ((a : Int) + e.tdiv 2))).toNat

/-- OVERRUN and UNDER PRESET of a completed compartment (R54 steps 4 and 5). -/
def CompFlags.completed (f : CompFlags) (c : Comp) (overrunLimit : Nat) : CompFlags :=
  { f with
    overrun := f.overrun || decide ((overrunLimit : Int) * 1000 < c.error)
    underPreset := f.underPreset || decide (c.gross + 10000 < c.preset) }

/-- A CLOSING arm that has settled completes its compartment (R54). -/
def completeComp (n : ArmId) (s : State) : State :=
  match s.heldComp n with
  | none => s
  | some c =>
    let s1 := s.modArm n fun a => { a with anticipation := learned a.anticipation c.error }
    releaseExamine n none (s1.modHeld n fun c =>
      { c with
        closing := some (s.arm n).totalizer
        flags := c.flags.completed c (s.config n).overrunLimit
        state := .done })

/-- The arm is settled (R53). -/
def Arm.isSettled (a : Arm) : Bool := a.closeTime.isSome && a.closedSeen && decide (2 ≤ a.zeroRun)

/-- The settle test, with what follows the first time it passes (R53, R54, R62). -/
def settleTest (n : ArmId) (s : State) : State :=
  if (s.arm n).isSettled ∧ ¬(s.arm n).settled then
    let s1 := s.modArm n fun a => { a with settled := true, settleDeadline := none }
    match s.armState n with
    | .closing => completeComp n s1
    | .halted => if s.session.hostAbort then releaseExamine n none (shortHeld n s1) else s1
    | .idle => s1
    | .armed => s1
    | .starting => s1
    | .flowing => s1
    | .trimming => s1
    | .blocked => s1
  else s

/-- The zero-delta run at an accepted sample, kept while a close time is present (R53). -/
def Arm.countZero (a : Arm) (delta : Nat) : Arm :=
  if a.closeTime.isSome then { a with zeroRun := if delta = 0 then min (a.zeroRun + 1) 2 else 0 } else a

/-! ### Staging (R52) -/

/-- The volume remaining to the preset. -/
def Comp.remaining (c : Comp) : Nat := c.preset - c.gross

/-- An arm moves to another stage: it commands the position and enters the state. -/
def moveStage (n : ArmId) (p : Position) (st : ArmState) (s : State) : State :=
  (commandValve n p s).modArm n fun a => { a with state := st }

/-- The staging test after a credited increment (R52). -/
def stagingTest (n : ArmId) (s : State) : State :=
  match s.heldComp n with
  | none => s
  | some c =>
    if (s.armState n).isMoving then
      if c.remaining ≤ (s.arm n).anticipation then moveStage n .closed .closing s
      else if s.armState n = .flowing ∧ c.remaining ≤ (s.config n).trimVolume * 1000 then
        moveStage n .low .trimming s
      else if s.armState n = .starting ∧ (s.config n).startVolume * 1000 ≤ c.gross - (s.arm n).gStart then
        moveStage n .full .flowing s
      else s
    else s

/-! ### Valve trips (R66, R121, R122) -/

/-- The trip is raised and the sticky flag VALVE FAULT set (R66). -/
def raiseTrip (n : ArmId) (s : State) : State :=
  (s.modArm n fun a => { a with trip := true }).raiseFlag .valveFault

/-- BAY PERMIT after a raised trip: decided anew, and if it was ENERGIZED the moving arms are offered
DRIVER STOP (R122). It is taken once the arm at fault has been released (log 31). -/
def tripPermit (s : State) : State :=
  if s.permissive.bayPermit then offerMoving .driverStop (decideBayPermit s) else decideBayPermit s

/-- The trip is cleared and BAY PERMIT decided anew (R66, R121). -/
def clearTrip (n : ArmId) (s : State) : State :=
  decideBayPermit (s.modArm n fun a => { a with trip := false })

/-- The compartment fails with a valve fault and the arm goes to BLOCKED, cause VALVE (R55, R64, R65). -/
def valveFault (n : ArmId) (s : State) : State :=
  let s1 := s.modHeld n fun c =>
    { c with state := .short, flags := { c.flags with valveFault := true, short := true } }
  tripPermit (releaseExamine n (some .valve) (raiseTrip n s1))

/-! ### Deadlines of an arm -/

/-- The settle deadline of a CLOSING or HALTED arm has been reached unsettled (R55). -/
def State.settleOverdue (s : State) (n : ArmId) : Bool :=
  (s.armState n == .closing || s.armState n == .halted) && !(s.arm n).settled &&
    s.reached (s.arm n).settleDeadline

/-- Settle failure (R55). -/
def settleFailure (n : ArmId) (s : State) : State :=
  valveFault n (s.modHeld n fun c => { c with closing := some (s.arm n).totalizer })

/-- The halt timeout of a HALTED arm has been reached (R61). -/
def State.haltOverdue (s : State) (n : ArmId) : Bool :=
  s.armState n == .halted && s.reached (s.arm n).haltDeadline

/-- Halt timeout (R61). -/
def haltExpiry (n : ArmId) (s : State) : State := releaseExamine n none (shortHeld n s)

/-! ### Faults (R63, R64, R65) -/

/-- The arm commands CLOSED if LOW or FULL is commanded. -/
def closeIfOpen (n : ArmId) (s : State) : State :=
  if (s.arm n).commanded = .closed then s else commandValve n .closed s

/-- A meter fault (R63). -/
def meterFault (n : ArmId) (s : State) : State :=
  let s1 := s.raiseFlag .meterFault
  if (s.armState n).isLoading then
    releaseExamine n (some .meter) ((closeIfOpen n s1).modHeld n fun c =>
      { c with state := .short, flags := { c.flags with meterFault := true, short := true } })
  else if s.armState n = .armed then examine (disarm n (some .meter) s1)
  else s1

/-- The arm's valve node becomes LOST (R64). -/
def valveNodeLost (n : ArmId) (s : State) : State :=
  let s1 := s.modArm n fun a => { a with lastValve := none }
  if (s.armState n).isLoading then valveFault n (closeIfOpen n s1)
  else if s.armState n = .armed then tripPermit (examine (disarm n (some .valve) (raiseTrip n s1)))
  else s1

/-- A DRIVE of LOW or FULL has failed its last retry (R65). -/
def driveFailed (n : ArmId) (p : Position) (s : State) : State :=
  if (s.arm n).commanded = p ∧ p ≠ .closed ∧ (s.armState n).isMoving then
    valveFault n (commandValve n .closed s)
  else s

/-! ### Valve status reports (R48) -/

/-- The arm record with a valve report stored and the closed-seen mark kept. -/
def Arm.takeReport (a : Arm) (r : ValveReport) : Arm :=
  { a with
    lastValve := some r
    closedSeen := if a.closeTime.isSome then r.position == .closed else a.closedSeen }

/-- A valve status report classed for an arm (R48). -/
def valveReport (n : ArmId) (tag : Tag) (r : ValveReport) (s : State) : State :=
  if (s.config n).valve = some tag ∧ ¬s.nodeLost tag then
    let s1 := s.modArm n fun a => a.takeReport r
    let s2 := if (s.arm n).trip ∧ r.position = .closed ∧ s.nodeOk tag then clearTrip n s1 else s1
    settleTest n s2
  else s

/-! ### Host commands to an arm (R67, R68) -/

/-- The conditions of ARM CLEAR (R67). -/
def State.mayClear (s : State) (n : ArmId) : Bool :=
  s.armState n == .blocked &&
  (match (s.config n).valve with | none => false | some t => s.nodeOk t) &&
  (match (s.arm n).lastValve with | none => false | some r => r.position == .closed)

/-- ARM CLEAR of an arm 1 to 4 (R67). -/
def armClear (n : ArmId) (s : State) : State × Reply :=
  if s.mayClear n then
    (clearTrip n (s.modArm n fun a => { a with state := .idle, blockCause := none }), .done)
  else (s, .refused .wrongState)

/-- ARM STOP of an arm 1 to 4 (R68). -/
def armStop (n : ArmId) (s : State) : State × Reply :=
  if (s.armState n).isLoading then (offerCause n .hostStop s, .done) else (s, .refused .wrongState)

/-- ARM RESUME of an arm 1 to 4 (R68). -/
def armResume (n : ArmId) (s : State) : State × Reply :=
  if s.armState n = .halted ∧ (s.arm n).causes.hostStop then (dropCause n .hostStop s, .done)
  else (s, .refused .wrongState)

end Sys2Proof.Machine
end

