-- ==== Sys2Proof/Machine/Metering.lean ====
section
/-! DEFINITION. The metering engine (04): plausibility, meter factor, gross and standard increments,
temperature, accumulation, and the handing on of an accepted sample. -/

namespace Sys2Proof.Machine

/-! ### Delta, rate, meter factor (R73, R74, R77, R78) -/

/-- The pulse delta modulo 65536 (R73). -/
def pulseDelta (count base : Nat) : Nat := (count + 65536 - base) % 65536

/-- The interval clamped to 20..5000 ms (R73). -/
def clampInterval (ms : Nat) : Nat := max 20 (min 5000 ms)

/-- The rate in whole litres per minute (R74). -/
def flowRate (delta k interval : Nat) : Nat := delta * 60000000 / (k * interval)

/-- Interpolation within one segment, halves away from zero (R78). -/
def segmentFactor (p q : CurvePoint) (rate : Nat) : Nat :=
  ((p.factor : Int) + roundHalfAway (((q.factor : Int) - p.factor) * ((rate : Int) - p.rate)) (q.rate - p.rate)).toNat

/-- The meter factor at or after a first point that the rate has reached (R78). -/
def curveFrom (p : CurvePoint) (rate : Nat) : List CurvePoint → Nat
  | [] => p.factor
  | q :: rest => if rate < q.rate then segmentFactor p q rate else curveFrom q rate rest

/-- The meter factor of a curve at a rate (R78). -/
def curveFactor (curve : List CurvePoint) (rate : Nat) : Nat :=
  match curve with
  | [] => Config.missingMeterFactor
  | p :: rest => if rate ≤ p.rate then p.factor else curveFrom p rate rest

/-- The product record of a compartment in its captured bank (R77). -/
def State.productOf (s : State) (c : Comp) : Option Product :=
  c.bank.bind fun bank => (s.banks.tables bank).product? c.product

/-- The curve a compartment is metered with on an arm; R77 says it always exists (log 17). -/
def State.curveOf (s : State) (n : ArmId) (c : Comp) : List CurvePoint :=
  match c.bank, s.productOf c with
  | some bank, some p => ((s.banks.tables bank).curve? (p.curve.get n)).getD []
  | _, _ => []

/-- The meter factor of a sample worked for a compartment: the rate clamped to 9,999 (R77, R78). -/
def State.meterFactor (s : State) (n : ArmId) (c : Comp) (rate : Nat) : Nat :=
  curveFactor (s.curveOf n c) (min rate 9999)

/-! ### Gross and standard increments (R79, R83, R84) -/

/-- Gross increment and new residue (R79). -/
def grossStep (delta factor k residue : Nat) : Nat × Nat :=
  let num := delta * 1000000 * factor + residue
  let den := k * 100000
  (num / den, num % den)

/-- The volume correction factor in ppm (R83). -/
def vcf (beta : Nat) (t : Int) : Int := 1000000 - roundHalfEven ((beta : Int) * (t - 1500)) 100

/-- Standard increment and new residue (R84). -/
def standardStep (incG : Nat) (factor : Int) (residue : Nat) : Nat × Nat :=
  let num := ((incG : Int) * factor + residue).toNat
  (num / 1000000, num % 1000000)

/-- The product's expansion coefficient; R77 says the product always exists (log 17). -/
def State.betaOf (s : State) (c : Comp) : Nat :=
  match s.productOf c with
  | none => Config.missingBeta
  | some p => p.beta

/-! ### Temperature (R80 to R82) -/

/-- The temperature used for an increment (R82). -/
def Metering.temperature (m : Metering) : Int :=
  match m.heldTemp with
  | none => 1500
  | some (t, _) => t

/-- TEMP HELD is to be set for an increment (R82). -/
def State.tempIsHeld (s : State) (n : ArmId) : Bool :=
  (s.meter n).invalidMark || (s.meter n).staleMark ||
  (match (s.meter n).heldTemp with
    | none => true
    | some (_, arrival) => decide (2000 < s.elapsed arrival))

/-- A temperature sample is valid (R80). -/
def tempValid (t : Int) (valid : Bool) : Bool := valid && decide (-4000 ≤ t) && decide (t ≤ 6000)

/-- A TEMPERATURE report (R80). -/
def temperatureReport (n : ArmId) (tag : Tag) (t : Int) (valid : Bool) (s : State) : State :=
  if (s.config n).temp = some tag ∧ ¬s.nodeLost tag then
    if tempValid t valid then
      dropCause n .tempStale (s.modMeter n fun m =>
        { m with
          heldTemp := some (t, s.now), invalidMark := false, staleMark := false
          staleDeadline := some (s.ahead 10000) })
    else s.modMeter n fun m => { m with invalidMark := true }
  else s

/-- The stale deadline of an arm has been reached (R81). -/
def State.tempOverdue (s : State) (n : ArmId) : Bool := s.reached (s.meter n).staleDeadline

/-- No valid temperature for 10 s (R81). -/
def tempExpiry (n : ArmId) (s : State) : State :=
  offerCause n .tempStale (s.modMeter n fun m => { m with staleMark := true, staleDeadline := none })

/-- A metering record after RESTART or a configuration write (R70). -/
def resetMetering (n : ArmId) (s : State) : State :=
  s.modMeter n fun _ =>
    { staleDeadline := if (s.config n).temp.isSome then some (s.ahead 10000) else none }

/-! ### Accumulation (R85, R86) -/

/-- The limit of the accumulators (R85). -/
def volumeLimit : Nat := 99999999

/-- Totalizers count modulo 10^12 mL (R51). -/
def totalizerModulus : Nat := 1000000000000

/-- The amount by which an accumulator rises (R85). -/
def addable (acc inc : Nat) : Nat := min inc (volumeLimit - acc)

/-- One sample accumulated into a compartment (R85 steps 1 to 3). -/
def Comp.accumulate (c : Comp) (g st : Nat × Nat) (t : Int) : Comp :=
  { c with
    gross := c.gross + addable c.gross g.1
    standard := c.standard + addable c.standard st.1
    grossRes := g.2
    standardRes := st.2
    tempSum := c.tempSum + (addable c.gross g.1 : Int) * t }

/-- An accumulator stands at its limit (R86). -/
def Comp.atLimit (c : Comp) : Bool := c.gross == volumeLimit || c.standard == volumeLimit

/-- The flags of an increment (R87 step 1). -/
def Comp.sampleFlags (c : Comp) (held sat : Bool) : Comp :=
  { c with
    flags := { c.flags with tempHeld := c.flags.tempHeld || held, overrange := c.flags.overrange || sat } }

/-- The halt offers of an increment (R87 step 2). -/
def sampleOffers (n : ArmId) (sat : Bool) (s : State) : State :=
  let s1 := if sat then offerCause n .driverStop s else s
  let s2 := if (s1.meter n).staleMark then offerCause n .tempStale s1 else s1
  if s2.slotLost n .s1 || s2.slotLost n .s2 then offerCause n .injectorLost s2 else s2

/-- The settle step of an arm that was CLOSING or HALTED when the sample was taken (R87 step 5). -/
def settleStep (n : ArmId) (delta : Nat) (s : State) : State :=
  settleTest n (s.modArm n fun a => a.countZero delta)

/-- Steps 3 to 5 of R87. -/
def handOn (n : ArmId) (delta : Nat) (wasClosed : Bool) (s : State) : State :=
  let s1 := doseIncrement n (stagingTest n s)
  if wasClosed then settleStep n delta s1 else s1

/-- CLOSING or HALTED. -/
def ArmState.isClosed : ArmState → Bool
  | .closing => true
  | .halted => true
  | .idle => false
  | .armed => false
  | .starting => false
  | .flowing => false
  | .trimming => false
  | .blocked => false

/-- The increments of a sample join the held compartment and the arm totalizer, with the flags (R85, R87
step 1). -/
def accumulateSample (n : ArmId) (g st : Nat × Nat) (t : Int) (held sat : Bool) (s : State) : State :=
  (s.modHeld n fun c => (c.accumulate g st t).sampleFlags held sat).modArm n fun a =>
    { a with totalizer := (a.totalizer + g.1) % totalizerModulus }

/-- The accumulators are tested after an increment above 0 (R86). -/
def Comp.saturates (c : Comp) (g st : Nat × Nat) (t : Int) : Bool :=
  decide (0 < g.1) && (c.accumulate g st t).atLimit

/-- The gross increment and residue of a sample for a compartment (R77 to R79). -/
def State.compGross (s : State) (n : ArmId) (delta rate : Nat) (c : Comp) : Nat × Nat :=
  grossStep delta (s.meterFactor n c rate) (s.config n).kFactor c.grossRes

/-- The standard increment and residue that follow from a gross increment (R83, R84). -/
def State.compStandard (s : State) (n : ArmId) (incG : Nat) (c : Comp) : Nat × Nat :=
  standardStep incG (vcf (s.betaOf c) (s.meter n).temperature) c.standardRes

/-- A sample's increments accumulated, then handed on (R85 to R87). -/
def takeIncrements (n : ArmId) (delta : Nat) (g st : Nat × Nat) (t : Int) (c : Comp) (s : State) : State :=
  handOn n delta (s.armState n).isClosed
    (sampleOffers n (c.saturates g st t) (accumulateSample n g st t (s.tempIsHeld n) (c.saturates g st t) s))

/-- An accepted sample worked for the held compartment (R77 to R87). -/
def creditSample (n : ArmId) (delta rate : Nat) (c : Comp) (s : State) : State :=
  takeIncrements n delta (s.compGross n delta rate c)
    (s.compStandard n (s.compGross n delta rate c).1 c) (s.meter n).temperature c s

/-- A gross increment on an arm holding no compartment (R88). -/
def takeUnassigned (n : ArmId) (g : Nat × Nat) (s : State) : State :=
  let s1 := s.modArm n fun a =>
    { a with
      totalizer := (a.totalizer + g.1) % totalizerModulus
      unassigned := (a.unassigned + g.1) % totalizerModulus
      unassignedRes := g.2 }
  if 0 < g.1 then s1.raiseFlag .unassignedFlow else s1

/-- An accepted sample on an arm holding no compartment (R88). -/
def unassignedSample (n : ArmId) (delta : Nat) (s : State) : State :=
  takeUnassigned n (grossStep delta 100000 (s.config n).kFactor (s.arm n).unassignedRes) s

/-! ### Meter reports (R71, R72, R75, R76) -/

/-- An implausible sample (R75). -/
def implausibleSample (n : ArmId) (s : State) : State :=
  let s1 := s.count .implausible
  if (s.meter n).run < 2 then s1.modMeter n fun m => { m with run := m.run + 1 }
  else meterFault n (s1.modMeter n fun m => { m with run := 0, baseline := none })

/-- A plausible sample moves the baseline and is worked on (R76). -/
def acceptedSample (n : ArmId) (count delta rate : Nat) (s : State) : State :=
  let s1 := s.modMeter n fun m => { m with baseline := some (count, s.now), run := 0 }
  if (s.armState n).isLoading then
    match s.heldComp n with
    | none => s1
    | some c => creditSample n delta rate c s1
  else unassignedSample n delta s1

/-- A METER COUNT report (R71 to R76). -/
def meterReport (n : ArmId) (tag : Tag) (count : Nat) (ok : Bool) (s : State) : State :=
  if (s.config n).meter = some tag ∧ ¬s.nodeLost tag then
    if ¬ok then implausibleSample n s
    else
      match (s.meter n).baseline with
      | none => s.modMeter n fun m => { m with baseline := some (count, s.now), run := 0 }
      | some (c0, t0) =>
        let delta := pulseDelta count c0
        let rate := flowRate delta (s.config n).kFactor (clampInterval (s.elapsed t0))
        if 2 * (s.config n).maxFlow < rate then implausibleSample n s
        else acceptedSample n count delta rate s
  else s

/-- The meter node of an arm becomes LOST (R90, R63). -/
def meterNodeLost (n : ArmId) (s : State) : State :=
  meterFault n (s.modMeter n fun m => { m with baseline := none, run := 0 })

end Sys2Proof.Machine
end

