-- ==== Sys2Proof/Machine/Permissive.lean ====
section
/-! DEFINITION. The permissive unit (06): health, the deadman, reports, node loss, and the gate of host
actuator frames. -/

namespace Sys2Proof.Machine

/-! ### Health (R112 to R114) -/

/-- All four booleans of a report are true. -/
def PermissiveReport.allTrue (r : PermissiveReport) : Bool := r.ground && r.dry && r.hose && r.estop

/-- What the health is when it is decided (R112). The age deadline runs as long as it has not expired
since the last report. -/
def State.healthHolds (s : State) : Bool :=
  (match s.permissive.last with | none => false | some r => r.allTrue) && s.permissiveNodeUp &&
    s.permissive.ageDeadline.isSome

/-- PERMISSIVE leaves every set (R114). -/
def returnOfHealth (s : State) : State := forArms (fun n t => dropCause n .permissive t) s

/-- The health is decided anew, with a loss (R113) or a return (R114). -/
def decideHealth (s : State) : State :=
  let s1 := s.modPermissive fun p => { p with healthy := s.healthHolds }
  if s.permissive.healthy && !s.healthHolds then offerActive .permissive s1
  else if !s.permissive.healthy && s.healthHolds then returnOfHealth s1
  else s1

/-! ### The deadman (R117 to R119) -/

/-- A renewal (R117). -/
def renewDeadman (s : State) : State :=
  s.modPermissive fun p =>
    { p with deadman := .live, warnAt := some (s.ahead 75000), expireAt := some (s.ahead 90000) }

/-- The deadman counter of a report (R117). -/
def takeDeadman (count : Nat) (s : State) : State :=
  let s1 := s.modPermissive fun p => { p with deadmanBase := some count }
  match s.permissive.deadmanBase with
  | none => s1
  | some base => if base = count then s1 else renewDeadman s1

/-- The warning time has been reached with the deadman LIVE (R118). -/
def State.warningDue (s : State) : Bool := s.permissive.deadman == .live && s.reached s.permissive.warnAt

/-- The deadman warning (R118). -/
def warnDeadman (s : State) : State :=
  let s1 := s.modPermissive fun p => { p with deadman := .warned, warnAt := none }
  if s.someMoving then display msgDeadmanWarning s1 else s1

/-- The deadman deadline has been reached with the deadman LIVE or WARNED (R119). -/
def State.deadmanOverdue (s : State) : Bool :=
  (s.permissive.deadman == .live || s.permissive.deadman == .warned) && s.reached s.permissive.expireAt

/-- The deadman expiry (R119). -/
def expireDeadman (s : State) : State :=
  offerMoving .deadman (s.modPermissive fun p =>
    { p with deadman := .expired, warnAt := none, expireAt := none })

/-! ### Reports and node changes (R111, R115, R116) -/

/-- A PERMISSIVE report from a node that is not LOST (R111). A chained response of tag 0 or 63, which R110 gives
no permissive tag, is taken like any other, and such a tag is never LOST (DESIGN CHOICE, log 43). -/
def permissiveReport (tag : Tag) (r : PermissiveReport) (count : Nat) (s : State) : State :=
  if s.nodeLost tag then s
  else
    let s1 := s.modPermissive fun p =>
      if p.tag = some tag then p else { p with tag := some tag, deadmanBase := none }
    let s2 := s1.modPermissive fun p => { p with last := some r, ageDeadline := some (s.ahead 2000) }
    decideBayPermit (decideHealth (takeDeadman count s2))

/-- The report age deadline has been reached (R115). -/
def State.reportOverdue (s : State) : Bool := s.reached s.permissive.ageDeadline

/-- The expiry of the report age deadline (R115): the last report stays, BAY PERMIT is not decided. -/
def reportExpiry (s : State) : State :=
  decideHealth (s.modPermissive fun p => { p with ageDeadline := none })

/-- The permissive node becomes LOST (R116). -/
def permissiveNodeLost (s : State) : State :=
  decideBayPermit (decideHealth (s.modPermissive fun p =>
    { p with last := none, ageDeadline := none, deadmanBase := none }))

/-- Another change of the permissive node's state: leaving LOST decides the health again (R116), and every
change decides BAY PERMIT (R121). -/
def permissiveNodeRecovered (s : State) : State := decideBayPermit (decideHealth s)

/-- The permissive record after RESTART (R110). -/
def resetPermissive (s : State) : State := decideBayPermit (s.modPermissive fun p => { bayPermit := p.bayPermit })

/-! ### The gate of host frames (R123, R124) -/

/-- Whether a host command of this class passes the gate. An ACTUATOR class always names an arm (R174). -/
def State.gatePasses (s : State) (c : FrameClass) : Bool :=
  match c.action, c.arm with
  | .actuator, some n => (s.armState n == .idle || s.armState n == .blocked) && s.permissive.healthy
  | .actuator, none => false
  | .block, _ => s.mode == .service
  | _, _ => true

end Sys2Proof.Machine
end

