-- ==== Sys2Proof/Machine/Permits.lean ====
section
/-! DEFINITION. The permit store (02): permits kept ascending by card, orders kept by age, the admission
checks, the driver-code check and the re-check at arming. -/

namespace Sys2Proof.Machine

/-! ### The permit table (R24 to R28) -/

/-- The permit of a card. -/
def findPermit (permits : List Permit) (card : Nat) : Option Permit := permits.find? fun p => p.card == card

/-- The rank of a card: the count of records with a smaller card number (R24). -/
def permitRank (permits : List Permit) (card : Nat) : Nat :=
  (permits.filter fun p => decide (p.card < card)).length

/-- Place a record by ascending card, in place of a record of the same card (R24, R25). -/
def putPermit (p : Permit) : List Permit → List Permit
  | [] => [p]
  | q :: rest =>
    if p.card < q.card then p :: q :: rest
    else if p.card = q.card then p :: rest
    else q :: putPermit p rest

/-- Insert or replace (R25): only an insert is refused by a full table. -/
def insertPermit (p : Permit) (s : State) : State × Reply :=
  if (findPermit s.store.permits p.card).isNone ∧ 512 ≤ s.store.permits.length then
    (s, .refused .tableFull)
  else (s.modStore fun x => { x with permits := putPermit p x.permits }, .done)

/-- Remove (R26). -/
def removePermit (card : Nat) (s : State) : State × Reply :=
  match findPermit s.store.permits card with
  | none => (s, .refused .notFound)
  | some _ => (s.modStore fun x => { x with permits := x.permits.filter fun p => p.card != card }, .done)

/-- The record a lookup returns, followed by its rank (R27). -/
def lookupResult (x : PermitStore) : Option (Permit × Nat) :=
  match x.key with
  | none => none
  | some card => (findPermit x.permits card).map fun p => (p, permitRank x.permits card)

/-- The code check writes the failed attempts and the status of one permit (R39, R40). -/
def writeAttempts (card attempts : Nat) (status : PermitStatus) (permits : List Permit) : List Permit :=
  permits.map fun p => if p.card = card then { p with attempts := attempts, status := status } else p

/-! ### The order table (R31 to R35) -/

def findOrder (orders : List Order) (card : Nat) : Option Order := orders.find? fun o => o.card == card

/-- Insert at the newest end (R32 tests 3 and 4). -/
def insertOrder (o : Order) (s : State) : State × Reply :=
  if (findOrder s.store.orders o.card).isSome then (s, .refused .duplicate)
  else if 32 ≤ s.store.orders.length then (s, .refused .tableFull)
  else (s.modStore fun x => { x with orders := x.orders ++ [o] }, .done)

/-- An order leaves the table and the later ones close up (R33, R35). -/
def dropOrder (card : Nat) (s : State) : State :=
  s.modStore fun x => { x with orders := x.orders.filter fun o => o.card != card }

/-- Remove (R33). -/
def removeOrder (card : Nat) (s : State) : State × Reply :=
  match findOrder s.store.orders card with
  | none => (s, .refused .notFound)
  | some _ => (dropOrder card s, .done)

/-! ### Admission (R36, R38) -/

/-- Check 7: every entry names a product of the active bank whose class the permit permits. -/
def productsPermitted (p : Permit) (o : Order) (s : State) : Bool :=
  o.entries.all fun e =>
    match (s.banks.tables s.banks.active).product? e.product with
    | none => false
    | some r => p.classes.getLsbD r.cls

/-- Check 8: the sum of the presets is at most the maximum load. -/
def withinMaxLoad (p : Permit) (o : Order) : Bool := decide ((o.entries.map fun e => e.preset).sum ≤ p.maxLoad)

/-- Checks 6, 7 and 8 against the order present, with the message of the first that fails (R36, R38). -/
def orderChecks (p : Permit) (s : State) : Option Nat :=
  match findOrder s.store.orders p.card with
  | none => some msgNoOrder
  | some o =>
    if !productsPermitted p o s then some msgProductNotPermitted
    else if !withinMaxLoad p o then some msgOverMaxLoad
    else none

/-- Checks 4 and 5: the message of a permit that is not ACTIVE, or is expired. -/
def permitChecks (p : Permit) (today : Nat) : Option Nat :=
  match p.status with
  | .locked => some msgLocked
  | .suspended => some msgPermitInvalid
  | .active => if today ≤ p.expiry then none else some msgExpired

/-- The nine admission checks (R36): the permit, or the message of the first check that fails. -/
def admission (card : Nat) (s : State) : Except Nat Permit :=
  if s.mode ≠ .run then .error msgSystemOffline
  else if s.status.hostLost then .error msgSystemOffline
  else
    match findPermit s.store.permits card with
    | none => .error msgPermitInvalid
    | some p =>
      match permitChecks p s.clock.day with
      | some m => .error m
      | none =>
        match orderChecks p s with
        | some m => .error m
        | none => if s.freeSlots = 0 then .error msgNotesFull else .ok p

/-- Checks 2, 6, 7 and 8 repeated at a correct code (R38). Its permit is present, as R39 has just found. -/
def repeatedChecks (card : Nat) (s : State) : Option Nat :=
  if s.status.hostLost then some msgSystemOffline
  else
    match findPermit s.store.permits card with
    | none => some msgPermitInvalid
    | some p => orderChecks p s

/-! ### The driver code (R39, R40) -/

inductive CodeOutcome where
  | correct
  | wrong
  | lockedOut
  | withdrawn (message : Nat)
  deriving DecidableEq, Repr

/-- A submitted code: digits, or `none` for an over-long entry, which never matches. -/
def codeMatches (driver : List Nat) (code : Option (List Nat)) : Bool :=
  match code with
  | none => false
  | some digits => digits == driver

/-- A code that does not match is charged to the permit (R40). -/
def chargeAttempt (p : Permit) (s : State) : State × CodeOutcome :=
  if p.attempts + 1 < 3 then
    (s.modStore fun x => { x with permits := writeAttempts p.card (p.attempts + 1) p.status x.permits }, .wrong)
  else
    ((s.modStore fun x => { x with permits := writeAttempts p.card 3 .locked x.permits }).raiseFlag .lockout,
      .lockedOut)

/-- The driver-code check of a card (R39). -/
def codeCheck (card : Nat) (code : Option (List Nat)) (s : State) : State × CodeOutcome :=
  match findPermit s.store.permits card with
  | none => (s, .withdrawn msgPermitInvalid)
  | some p =>
    match p.status with
    | .suspended => (s, .withdrawn msgPermitInvalid)
    | .locked => (s, .withdrawn msgLocked)
    | .active =>
      if (match p.code with | none => true | some driver => codeMatches driver code) then
        (s.modStore fun x => { x with permits := writeAttempts p.card 0 .active x.permits }, .correct)
      else chargeAttempt p s

/-! ### The re-check at arming (R42) -/

/-- The class of a compartment's product, as the active bank gives it, is permitted; met without a record. -/
def classPermitted (p : Permit) (product : Nat) (s : State) : Bool :=
  match (s.banks.tables s.banks.active).product? product with
  | none => true
  | some r => p.classes.getLsbD r.cls

/-- The re-check of the session's permit for a product. -/
def recheck (card product : Nat) (s : State) : Bool :=
  match findPermit s.store.permits card with
  | none => false
  | some p => p.status == .active && decide (s.clock.day ≤ p.expiry) && classPermitted p product s

end Sys2Proof.Machine
end

