-- ==== Sys2Proof/Machine/Session.lean ====
section
/-! DEFINITION. The session controller (01): card, key and overrun events, code entry, entry to OPEN,
selection, START, STOP, END, SESSION ABORT, the session's timers and the end of the compile. -/

namespace Sys2Proof.Machine

/-- A key event (01, "Card and key events"). -/
inductive Key where
  | digit (d : Nat)
  | enter
  | start
  | stop
  | finish
  deriving DecidableEq, Repr

/-- The key codes (10, "Encodings"); a code above 13 names no key. -/
def keyOfCode (code : Nat) : Option Key :=
  if code ≤ 9 then some (.digit code)
  else if code = 10 then some .enter
  else if code = 11 then some .start
  else if code = 12 then some .stop
  else if code = 13 then some .finish
  else none

/-! ### Entry to CODE ENTRY and OPEN -/

/-- CODE ENTRY or OPEN: the states that take keys (R4). -/
def SessionState.takesKeys : SessionState → Bool
  | .vacant => false
  | .codeEntry => true
  | .opened => true
  | .ending => false

/-- The compartment record of an order entry (R2). -/
def compOfEntry (e : OrderEntry) : Comp :=
  { number := e.number, product := e.product, preset := e.preset * 1000 }

/-- Entry to OPEN (R9). -/
def enterOpen (s : State) : State :=
  match s.session.card.bind fun card => findOrder s.store.orders card with
  | none => s
  | some o =>
    reserveSlot ((dropOrder o.card s).modSession fun x =>
      { x with
        state := .opened, orderRef := some o.ref, vehicle := o.vehicle
        comps := o.entries.map compOfEntry, openTime := some s.terminalTime
        hostAbort := false, hostLostDuring := false, digits := []
        lastKey := some s.now, idleBase := some s.now, codeDeadline := none })

/-- A card that passed admission (R5). -/
def admitCard (card : Nat) (p : Permit) (s : State) : State :=
  let s1 := s.modSession fun x => { x with card := some card, carrier := some p.carrier }
  match p.code with
  | none => display msgWelcome (enterOpen s1)
  | some _ =>
    display msgEnterCode (s1.modSession fun x =>
      { x with state := .codeEntry, digits := [], codeDeadline := some (s.ahead 30000) })

/-- A card event (R5, R6). -/
def cardEvent (card : Nat) (s : State) : State :=
  match s.session.state with
  | .vacant =>
    match admission card s with
    | .error m => display m s
    | .ok p => admitCard card p s
  | .codeEntry => if s.session.card = some card then s else display msgBayBusy s
  | .opened => if s.session.card = some card then s else display msgBayBusy s
  | .ending => if s.session.card = some card then s else display msgBayBusy s

/-! ### CODE ENTRY (R7, R8) -/

/-- The outcome of a submitted code (R8). -/
def takeOutcome (o : CodeOutcome) (s : State) : State :=
  match o with
  | .correct =>
    match repeatedChecks (s.session.card.getD 0) s with
    | some m => returnVacant (display m s)
    | none => display msgWelcome (enterOpen s)
  | .wrong => display msgCodeWrong s
  | .lockedOut => returnVacant (display msgLocked s)
  | .withdrawn m => returnVacant (display m s)

/-- A code is submitted: the entry is emptied and the deadline set anew (R7). -/
def submitCode (code : Option (List Nat)) (s : State) : State :=
  let s1 := s.modSession fun x => { x with digits := [], codeDeadline := some (s.ahead 30000) }
  let r := codeCheck (s.session.card.getD 0) code s1
  takeOutcome r.2 r.1

/-- A digit is appended to the entry. -/
def appendDigit (d : Nat) (s : State) : State := s.modSession fun x => { x with digits := x.digits ++ [d] }

/-- The digit entry is emptied. -/
def emptyDigits (s : State) : State := s.modSession fun x => { x with digits := [] }

/-- A key in CODE ENTRY (R7). -/
def codeKey (k : Key) (s : State) : State :=
  match k with
  | .digit d => if s.session.digits.length < 6 then appendDigit d s else submitCode none s
  | .enter => if s.session.digits = [] then s else submitCode (some s.session.digits) s
  | .start => s
  | .stop => s
  | .finish => s

/-! ### Selection (R11, R12) -/

/-- The curve index of a product for an arm in the active bank is not 0. -/
def State.hasCurve (s : State) (product : Nat) (n : ArmId) : Bool :=
  match (s.banks.tables s.banks.active).product? product with
  | none => false
  | some p => p.curve.get n != 0

/-- A configured node that is OK. -/
def State.tagOk (s : State) (t : Option Tag) : Bool :=
  match t with
  | none => false
  | some t => s.nodeOk t

/-- The coupler was connected in the last valve report. -/
def State.couplerConnected (s : State) (n : ArmId) : Bool :=
  match (s.arm n).lastValve with
  | none => false
  | some r => r.coupler

/-- The conditions of arm choice (R12). -/
def State.armSuits (s : State) (product : Nat) (n : ArmId) : Bool :=
  s.armState n == .idle && s.couplerConnected n && s.tagOk (s.config n).meter && s.tagOk (s.config n).valve &&
    s.hasCurve product n

/-- Selection of the compartment numbered `number` (R11). -/
def selectComp (number : Nat) (s : State) : State :=
  if s.session.hostAbort then s
  else
    match s.session.comps.find? fun c => c.number == number && c.state == .pending with
    | none => display msgSelectCompartment s
    | some c =>
      if !recheck (s.session.card.getD 0) c.product s then display msgPermitWithdrawn s
      else if ((s.banks.tables s.banks.active).product? c.product).isNone then display msgProductNotPermitted s
      else if s.status.hostLost then display msgSystemOffline s
      else
        match armIds.find? fun n => s.armSuits c.product n with
        | none => display msgNoArm s
        | some n => display msgPressStart (takeArm n c s)

/-! ### START, STOP, END (R14 to R16) -/

/-- START starts or resumes this arm (R14). -/
def State.startMoves (s : State) (n : ArmId) : Bool :=
  s.armState n == .armed || (s.armState n == .halted && (s.arm n).canResume)

/-- START offered to one arm (R14). -/
def startOne (n : ArmId) (s : State) : State :=
  if s.armState n = .armed then startArm n s
  else if s.armState n = .halted then resumeArm n s
  else s

/-- The key START in OPEN (R14, R120). -/
def startKey (s : State) : State :=
  if s.session.hostAbort then s
  else
    let s1 := emptyDigits s
    if s.mode ≠ .run then display msgSystemOffline s1
    else if !s.permissive.healthy then display msgStopped s1
    else
      let s2 := forArms startOne (renewDeadman s1)
      if armIds.any fun n => s.startMoves n then display msgLoading s2 else s2

/-- The key STOP in OPEN (R15). R15 gives the arms no order: the moving arms are halted first and the ARMED
ones disarmed then, each from 1 to 4, which the order of the DRIVEs queued shows (DESIGN CHOICE, log 40). -/
def stopKey (s : State) : State :=
  display msgStopped (disarmAll (offerMoving .driverStop (emptyDigits s)))

/-- A HALTED arm's compartment becomes SHORT and the arm is released, without R18 (R16 step 2). -/
def endHalted (n : ArmId) (s : State) : State :=
  if s.armState n = .halted then release n none (shortHeld n s) else s

/-- The key END in OPEN (R16): the digit entry is emptied; under HOST ABORT nothing more happens (log 21). -/
def endKey (s : State) : State :=
  let s1 := emptyDigits s
  if s.session.hostAbort then s1
  else if s.bayActive then display msgArmsActive s1
  else enterEnding (pendingNotLoaded (forArms endHalted (disarmAll s1)))

/-- A key in OPEN (R11, R14 to R16). -/
def openKey (k : Key) (s : State) : State :=
  match k with
  | .digit d =>
    if s.session.digits.length < 6 then appendDigit d s else display msgSelectCompartment (emptyDigits s)
  | .enter =>
    if s.session.digits = [] then s else selectComp (digitsValue s.session.digits) (emptyDigits s)
  | .start => startKey s
  | .stop => stopKey s
  | .finish => endKey s

/-- A key taken in CODE ENTRY or OPEN sets the last key time (R4), which the idle limit follows (R17). -/
def markKey (s : State) : State :=
  s.modSession fun x =>
    { x with
      lastKey := some s.now
      idleBase := if x.state = .opened then some s.now else x.idleBase }

/-- A key event (R4). -/
def keyEvent (k : Key) (s : State) : State :=
  match s.session.state with
  | .vacant => s
  | .codeEntry => codeKey k (markKey s)
  | .opened => openKey k (markKey s)
  | .ending => s

/-- A key-overrun event (R4). -/
def overrunEvent (s : State) : State :=
  emptyDigits (if s.session.state.takesKeys then markKey s else s)

/-- The reader tag of an event (R4). -/
def readerSeen (tag : Tag) (s : State) : State := s.modSession fun x => { x with readerTag := some tag }

/-! ### SESSION ABORT (R20) -/

/-- A settled HALTED arm is released within the abort step (R20, R62). -/
def abortHalted (n : ArmId) (s : State) : State :=
  if s.armState n = .halted ∧ (s.arm n).settled then release n none (shortHeld n s) else s

/-- SESSION ABORT of an OPEN session (R20). R20 gives the arms offered HOST STOP no order: they are taken from
1 to 4, which the order of the DRIVEs queued shows (DESIGN CHOICE, log 40). -/
def abortOpen (s : State) : State :=
  let s1 := pendingNotLoaded (disarmAll (s.modSession fun x => { x with hostAbort := true }))
  let s2 := forArms abortHalted (forArms (fun n t => offerCause n .hostStop t) s1)
  if s2.noArmHeld then enterEnding s2 else s2

/-- The command SESSION ABORT (R20). -/
def sessionAbort (s : State) : State × Reply :=
  match s.session.state with
  | .vacant => (s, .refused .wrongState)
  | .ending => (s, .refused .wrongState)
  | .codeEntry => (returnVacant s, .done)
  | .opened => if s.session.hostAbort then (s, .refused .wrongState) else (abortOpen s, .done)

/-! ### Timers of the session (R10, R17) -/

/-- The code-entry deadline has been reached (R10). -/
def State.codeOverdue (s : State) : Bool :=
  s.session.state == .codeEntry && s.reached s.session.codeDeadline

/-- The idle limit of an OPEN session that holds no arm has been reached (R17). -/
def State.idleOverdue (s : State) : Bool :=
  s.session.state == .opened && s.noArmHeld &&
    s.reached (s.session.idleBase.map fun t => t + BitVec.ofNat 32 1800000)

/-- The idle limit (R17). -/
def idleExpiry (s : State) : State := enterEnding (pendingNotLoaded s)

/-- The reader node becomes LOST during CODE ENTRY: the node at the session's reader tag (R10, log 8). -/
def readerNodeLost (tag : Tag) (s : State) : State :=
  if s.session.state = .codeEntry ∧ s.session.readerTag = some tag then returnVacant s else s

/-! ### The compile (R130, R131) -/

/-- After the last page: FILLED with NEW set, NOTE READY, LOAD COMPLETE, VACANT (R131). -/
def completeCompile (i : Nat) (s : State) : State :=
  returnVacant (display msgLoadComplete
    ((s.modNotes fun x => { x with slots := x.slots.modify i fillSlot }).raiseFlag .noteReady))

/-- One page of the compile is written (R130); the last one completes it (R131). -/
def writeNextPage (s : State) : State :=
  match s.compiling with
  | none => s
  | some (i, x) =>
    let y := writePage s x
    let s1 := s.modNotes fun z => { z with slots := z.slots.set i y, pageTimer := 0 }
    if s.session.comps.length < y.written then completeCompile i s1 else s1

end Sys2Proof.Machine
end

