-- ==== Sys2Proof/Machine/Nodes.lean ====
section
/-! DEFINITION. Node supervision (R177, R178), reader extraction (R180, R181), classification (R174, R175)
and delivery of field responses (R176). -/

namespace Sys2Proof.Machine

/-! ### Reader events (R180, R181) -/

/-- One key code of a report; a code that names no key is skipped (R180). -/
def deliverKey (tag : Tag) (s : State) (code : Nat) : State :=
  match keyOfCode code with
  | none => s
  | some k => keyEvent k (readerSeen tag s)

/-- The differences of R181, modulo 256. -/
def seqDelta (new old : Nat) : Nat := (new + 256 - old) % 256

/-- The card event of a report. -/
def deliverCard (tag : Tag) (news card : Nat) (s : State) : State :=
  if 1 ≤ news then cardEvent card (readerSeen tag s) else s

/-- The key-overrun event of a report. -/
def deliverOverrun (tag : Tag) (news : Nat) (s : State) : State :=
  if 8 < news then overrunEvent (readerSeen tag s) else s

/-- The events of a report that is not a first report (R181). -/
def deliverEvents (tag : Tag) (r : ReaderReport) (cardSeq keySeq : Nat) (s : State) : State :=
  let n := seqDelta r.keySeq keySeq
  let s1 := deliverOverrun tag n (deliverCard tag (seqDelta r.cardSeq cardSeq) r.card s)
  (r.keys.drop (r.keys.length - min n 8)).foldl (deliverKey tag) s1

/-- A READER report (R180). A chained response of tag 0 or 63, which R1 and R180 give no reader tag, is taken like
any other and becomes the reader tag; such a tag is never LOST (DESIGN CHOICE, log 43). -/
def readerReport (tag : Tag) (r : ReaderReport) (s : State) : State :=
  if s.nodeLost tag then s
  else
    let s1 :=
      match (if s.reader.tag = some tag then s.reader.seqs else none) with
      | none => s
      | some (cardSeq, keySeq) => deliverEvents tag r cardSeq keySeq s
    s1.setReader { tag := some tag, seqs := some (r.cardSeq, r.keySeq) }

/-! ### Classification (R175) -/

/-- Whether the direction of an entry takes a frame's. -/
def MatchDir.takes (m : MatchDir) (d : Dir) : Bool :=
  match m, d with
  | .either, _ => true
  | .response, .response => true
  | .command, .command => true
  | _, _ => false

/-- A frame matches an entry (R175). -/
def AcceptanceEntry.isMatch (e : AcceptanceEntry) (f : Frame) : Bool :=
  e.kinds != 0 && e.dir.takes f.dir && e.kinds.getLsbD f.kind.toNat &&
    (f.tag ^^^ e.tagVal) &&& e.tagMask == 0 && (f.addr ^^^ e.objVal) &&& e.objMask == 0

/-- The class of a frame: that of the first entry that matches, else PASS (R175). -/
def classify (table : List AcceptanceEntry) (f : Frame) : FrameClass :=
  match table.find? fun e => e.isMatch f with
  | none => {}
  | some e => e.cls

/-! ### Delivery (R176) -/

/-- A report delivered to the engines of an arm. -/
def deliverToArm (n : ArmId) (k : Option Slot) (action : Action) (tag : Tag) (payload : List Byte) (s : State) :
    State :=
  match action with
  | .meterCount =>
    match readMeterCount payload with
    | none => s
    | some (count, ok) => meterReport n tag count ok s
  | .temperature =>
    match readTemperature payload with
    | none => s
    | some (t, valid) => temperatureReport n tag t valid s
  | .valveStatus =>
    match readValveStatus payload with
    | none => s
    | some r => valveReport n tag r s
  | .injectorReport =>
    match k, readInjector payload with
    | some k, some (d, last) => injectorReport n k tag d last s
    | _, _ => s
  | .permissive => s
  | .reader => s
  | .actuator => s
  | .block => s
  | .pass => s

/-- A report for an arm goes nowhere when its class names none, which R174 rules out. -/
def deliverArmReport (c : FrameClass) (f : Frame) (s : State) : State :=
  match c.arm with
  | none => s
  | some n => deliverToArm n c.slot c.action f.tag f.payload s

/-- A PERMISSIVE report, stamped with its arrival time. -/
def deliverPermissive (f : Frame) (s : State) : State :=
  match readPermissive f.payload s.now with
  | none => s
  | some (r, count) => permissiveReport f.tag r count s

/-- A READER report. -/
def deliverReader (f : Frame) (s : State) : State :=
  match readReader f.payload with
  | none => s
  | some r => readerReport f.tag r s

/-- Deliver a DATA response to the owner its class names (R176 steps 3 and 4). -/
def deliver (c : FrameClass) (f : Frame) (s : State) : State :=
  if f.kind ≠ 0 then s
  else if c.action = .permissive then deliverPermissive f s
  else if c.action = .reader then deliverReader f s
  else deliverArmReport c f s

/-! ### Changes of node state (R178) -/

/-- The arms whose configuration names a tag in one of its fields, told in the order 1 to 4. -/
def tellArms (uses : ArmConfig → Bool) (f : ArmId → State → State) (s : State) : State :=
  forArms (fun n t => if uses (t.config n) then f n t else t) s

/-- The permissive unit is told of its node. -/
def tellPermissive (tag : Tag) (f : State → State) (s : State) : State :=
  if s.permissive.tag = some tag then f s else s

/-- The owners are told of a loss (R178 step 5, in the order of log 22). A temperature node's loss changes
nothing (R90). -/
def tellLoss (tag : Tag) (s : State) : State :=
  let s1 := tellArms (fun c => c.meter == some tag) meterNodeLost s
  let s2 := tellArms (fun c => c.valve == some tag) valveNodeLost s1
  let s3 := tellArms (fun c => c.injector.s1 == some tag) (fun n => injectorLost n .s1) s2
  let s4 := tellArms (fun c => c.injector.s2 == some tag) (fun n => injectorLost n .s2) s3
  readerNodeLost tag (tellPermissive tag permissiveNodeLost s4)

/-- The scan entries of a tag change. -/
def modScansOf (tag : Tag) (f : ScanEntry → ScanEntry) (s : State) : State :=
  s.modScans fun es => es.map fun e => if e.tag = tag then f e else e

/-- Reader extraction is reset when its node is LOST (R180). -/
def loseExtraction (tag : Tag) (s : State) : State := if s.reader.tag = some tag then s.setReader {} else s

/-- A tag becomes LOST (R178): the node record already reads LOST. -/
def becomeLost (tag : Tag) (s : State) : State :=
  let s1 := s.raiseFlag .nodeLost
  let s2 := s1.setCmdQueue (s1.cmdQueue.filter fun c => c.tag != tag)
  let s3 := modScansOf tag (fun e => { e with dueMark := false }) s2
  let s4 := s3.modNode tag fun x =>
    { x with slowDue := some (s3.ahead 5000), slowMark := false, refreshMark := false }
  tellLoss tag (loseExtraction tag s4)

/-- A LOST tag becomes OK (R178). -/
def recover (tag : Tag) (s : State) : State :=
  let s1 := s.modNode tag fun x => { x with slowDue := none, slowMark := false }
  let s2 := modScansOf tag (fun e => { e with lastStart := none, dueMark := false }) s1
  let s3 :=
    tellArms (fun c => c.injector.s1 == some tag || c.injector.s2 == some tag) injectorRecovered s2
  tellPermissive tag permissiveNodeRecovered s3

/-- The state a node takes after a change of its score (R178). -/
def nextNodeState (st : NodeState) (score : Nat) : NodeState :=
  if score < 40 then .ok
  else if 100 ≤ score then .lost
  else if st = .lost then .lost
  else .degraded

/-- The score of a tag moves and its state is decided (R177, R178). -/
def rescore (tag : Tag) (f : Nat → Nat) (s : State) : State :=
  let old := s.node tag
  let score := f old.score
  let st := nextNodeState old.state score
  let s1 := s.modNode tag fun x => { x with score := score, state := st }
  if isNodeTag tag then
    if old.state ≠ .lost ∧ st = .lost then becomeLost tag s1
    else if old.state = .lost ∧ st = .ok then recover tag s1
    else s1
  else s

/-- A good response lowers the score by 1 (R177). -/
def scoreGood (tag : Tag) (s : State) : State := rescore tag (fun x => x - 1) s

/-- A failed exchange raises the score by 4, up to 100 (R177). -/
def scoreFailed (tag : Tag) (s : State) : State := rescore tag (fun x => min (x + 4) 100) s

/-- A field response received whole with a good CRC: scored, classified, delivered (R176). -/
def takeResponse (f : Frame) (s : State) : State :=
  let s1 := scoreGood f.tag s
  deliver (classify s1.acceptance f) f s1

end Sys2Proof.Machine
end

