-- ==== Sys2Proof/Machine/Objects.lean ====
section
/-! DEFINITION. The object server of tag 0 (R189): the object map, what a QUERY returns, what a SET does,
multi-record SET (R157 to R159) and RESTART (R199). -/

namespace Sys2Proof.Machine

/-! ### The object map (10, "Object map") -/

inductive Obj where
  | mode | statusFlags | clock | nextSerial | bankControl | counters | summary
  | armStatus (n : ArmId)
  | command | gap
  | config (index : Nat)
  | acceptance (index : Nat)
  | scan (index : Nat)
  | product (bank : Bank) (index : Nat)
  | curve (bank : Bank) (index : Nat)
  | recipe (bank : Bank) (index : Nat)
  | permitInsert | permitRemove | lookupKey | lookupResult
  | permitAt (rank : Nat)
  | orderInsert | orderRemove
  | orderAt (rank : Nat)
  | slotHeader (slot : Nat)
  | noteRelease
  | notePage (slot page : Nat)
  deriving DecidableEq, Repr

/-- The objects below 0x1000. -/
def lowObject (a : Nat) : Option Obj :=
  if a = 0x1 then some .mode
  else if a = 0x2 then some .statusFlags
  else if a = 0x3 then some .clock
  else if a = 0x4 then some .nextSerial
  else if a = 0x5 then some .bankControl
  else if a = 0x6 then some .counters
  else if a = 0x8 then some .summary
  else if a = 0x10 then some (.armStatus .a1)
  else if a = 0x11 then some (.armStatus .a2)
  else if a = 0x12 then some (.armStatus .a3)
  else if a = 0x13 then some (.armStatus .a4)
  else if a = 0x18 then some .command
  else if a = 0x19 then some .gap
  else if inRange a 0x100 0x103 then some (.config (a - 0x100))
  else if inRange a 0x200 0x217 then some (.acceptance (a - 0x200))
  else if inRange a 0x300 0x31F then some (.scan (a - 0x300))
  else none

/-- The tables of one bank, by the offset from its base. -/
def bankObject (bank : Bank) (a : Nat) : Option Obj :=
  if a ≤ 0xF then some (.product bank a)
  else if inRange a 0x100 0x110 then some (.curve bank (a - 0x100))
  else if inRange a 0x200 0x208 then some (.recipe bank (a - 0x200))
  else none

/-- The permit, order and note objects. -/
def highObject (a : Nat) : Option Obj :=
  if a = 0x2000 then some .permitInsert
  else if a = 0x2001 then some .permitRemove
  else if a = 0x2002 then some .lookupKey
  else if a = 0x2003 then some .lookupResult
  else if inRange a 0x2400 0x25FF then some (.permitAt (a - 0x2400))
  else if a = 0x3000 then some .orderInsert
  else if a = 0x3001 then some .orderRemove
  else if inRange a 0x3100 0x311F then some (.orderAt (a - 0x3100))
  else if inRange a 0x4000 0x400F then some (.slotHeader (a - 0x4000))
  else if a = 0x40F0 then some .noteRelease
  else if inRange a 0x5000 0x50FF && decide ((a - 0x5000) % 16 ≤ 8) then
    some (.notePage ((a - 0x5000) / 16) ((a - 0x5000) % 16))
  else none

/-- The object an address names; none outside the object map. -/
def objectAt (addr : ObjAddr) : Option Obj :=
  if addr.toNat < 0x1000 then lowObject addr.toNat
  else if addr.toNat < 0x1800 then bankObject .a (addr.toNat - 0x1000)
  else if addr.toNat < 0x2000 then bankObject .b (addr.toNat - 0x1800)
  else highObject addr.toNat

/-- An object marked "W": a QUERY is refused NO OBJECT (R189). -/
def Obj.setOnly : Obj → Bool
  | .command => true
  | .permitInsert => true
  | .permitRemove => true
  | .orderInsert => true
  | .orderRemove => true
  | .noteRelease => true
  | _ => false

/-! ### QUERY -/

/-- The permissive booleans; false while no report is held (R110). -/
def permissiveBits (p : Permissive) : Nat :=
  match p.last with
  | none => 0
  | some r => bitsValue [r.ground, r.dry, r.hose, r.estop]

/-- The status flags object (R110, R194). -/
def statusBytes (s : State) : List Byte :=
  beBytes 2 s.status.flags.value ++
  [byteOf (permissiveBits s.permissive), boolByte s.permissive.healthy,
    byteOf (deadmanCode s.permissive.deadman), boolByte s.permissive.bayPermit]

/-- The clock object (R197). -/
def clockBytes (c : Clock) : List Byte :=
  [boolByte c.isSet] ++ beBytes 2 c.day ++ beBytes 3 c.second ++ beBytes 4 c.ms.toNat

/-- The bank control object (R154). -/
def bankControlBytes (b : Banks) : List Byte :=
  [byteOf (bankCode (some b.active)), byteOf b.countA, byteOf b.countB, byteOf b.a.presentProducts,
    byteOf b.b.presentProducts]

/-- The counters object (R196). -/
def counterBytes (c : Counters) : List Byte :=
  [c.upstreamCrc, c.upstreamFraming, c.ignored, c.fieldTimeouts, c.fieldCrc, c.implausible, c.injector,
    c.lateScans].flatMap (beBytes 2)

/-- The session record summary (R1); the places of an absent card and of an absent order reference are left
free (log 16). -/
def summaryBytes (x : Session) : List Byte :=
  [byteOf (sessionCode x.state)] ++
  (match x.card with | none => beBytes 5 Config.absentSummaryCard | some card => cardBytes card) ++
  beBytes 4 (x.orderRef.getD Config.absentSummaryOrder) ++
  [byteOf x.comps.length] ++ x.comps.flatMap fun c => [byteOf c.number, byteOf (compCode c.state)]

/-- The arm status object (R46). -/
def armStatusBytes (a : Arm) : List Byte :=
  [byteOf (armStateCode a.state), byteOf (a.held.getD 0), byteOf a.causes.value, byteOf (blockCode a.blockCause),
    boolByte a.settled, byteOf (positionCode a.commanded)] ++
  (match a.lastValve with
    | none => [0xFF, 0xFF]
    | some r => [byteOf (reportedCode r.position), boolByte r.coupler]) ++
  [boolByte a.trip] ++ beBytes 2 a.anticipation ++ beBytes 5 a.totalizer ++ beBytes 5 a.unassigned

/-- The arm of a configuration index 0 to 3. -/
def armOfIndex (index : Nat) : ArmId := (armOfNumber (index + 1)).getD .a1

/-- The lookup key, or NOT FOUND while it is absent (R27). -/
def keyData (x : PermitStore) : Except Reason (List Byte) :=
  match x.key with
  | none => .error .notFound
  | some card => .ok (cardBytes card)

/-- The record the key finds, with its rank (R27). -/
def lookupData (x : PermitStore) : Except Reason (List Byte) :=
  match lookupResult x with
  | none => .error .notFound
  | some (p, rank) => .ok (permitBytes p ++ beBytes 2 rank)

/-- The permit of a rank (R28). -/
def permitData (x : PermitStore) (rank : Nat) : Except Reason (List Byte) :=
  match x.permits[rank]? with
  | none => .error .notFound
  | some p => .ok (permitBytes p)

/-- The order of a rank (R34). -/
def orderData (x : PermitStore) (rank : Nat) : Except Reason (List Byte) :=
  match x.orders[rank]? with
  | none => .error .notFound
  | some o => .ok (orderBytes o)

/-- A page response: slot state and serial, then the page (R141). -/
def pageResponse (x : NoteSlot) (page : Nat) : List Byte :=
  [byteOf (slotStateCode x.state)] ++ beBytes 4 (x.serial.getD 0) ++ notePageBytes x page

/-- The product of a code; index 0 reads as an absent product (R148). -/
def productData (t : BankTables) (index : Nat) : List Byte := productBytes index (t.product? index)

/-- What a QUERY of an object returns (R189 test 4 on). -/
def queryData (o : Obj) (s : State) : Except Reason (List Byte) :=
  match o with
  | .mode => .ok [byteOf (modeCode s.mode)]
  | .statusFlags => .ok (statusBytes s)
  | .clock => .ok (clockBytes s.clock)
  | .nextSerial => .ok (beBytes 4 s.notes.nextSerial)
  | .bankControl => .ok (bankControlBytes s.banks)
  | .counters => .ok (counterBytes s.status.counters)
  | .summary => .ok (summaryBytes s.session)
  | .armStatus n => .ok (armStatusBytes (s.arm n))
  | .gap => .ok (beBytes 2 s.up.gap)
  | .config i => .ok (configBytes (s.config (armOfIndex i)))
  | .acceptance i => .ok (acceptanceBytes (s.acceptance.getD i {}))
  | .scan i => .ok (scanBytes (s.scans.getD i {}) (s.node (s.scans.getD i {}).tag))
  | .product bank i => .ok (productData (s.banks.tables bank) i)
  | .curve bank i => .ok (curveBytes ((s.banks.tables bank).curve? i))
  | .recipe bank i => .ok (recipeBytes ((s.banks.tables bank).recipeOf i))
  | .lookupKey => keyData s.store
  | .lookupResult => lookupData s.store
  | .permitAt rank => permitData s.store rank
  | .orderAt rank => orderData s.store rank
  | .slotHeader i => .ok (slotHeaderBytes (s.notes.slots.getD i {}))
  | .notePage i page => .ok (pageResponse (s.notes.slots.getD i {}) page)
  | .command => .error .noObject
  | .permitInsert => .error .noObject
  | .permitRemove => .error .noObject
  | .orderInsert => .error .noObject
  | .orderRemove => .error .noObject
  | .noteRelease => .error .noObject

/-- The data a QUERY of an address with an empty payload returns, or its refusal. -/
def queryAddress (addr : ObjAddr) (s : State) : Except Reason (List Byte) :=
  match objectAt addr with
  | none => .error .noObject
  | some o => queryData o s

/-- The answer to a QUERY (R189). -/
def queryReply (addr : ObjAddr) (payload : List Byte) (s : State) : Reply :=
  match objectAt addr with
  | none => .refused .noObject
  | some o =>
    if o.setOnly then .refused .noObject
    else if payload ≠ [] then .refused .badLength
    else
      match queryData o s with
      | .error reason => .refused reason
      | .ok bytes => .data bytes

/-- The slot and serial whose NEW mark a header read clears once it has been sent (R140). -/
def headerRead (addr : ObjAddr) (s : State) : Option (Nat × Nat) :=
  match objectAt addr with
  | some (.slotHeader i) =>
    let x := s.notes.slots.getD i {}
    if x.state = .filled then x.serial.map fun serial => (i, serial) else none
  | _ => none

/-- The effect of a read that has been answered with DATA: the status flags clear the declared mark once
the response is formed (R198). -/
def readEffect (addr : ObjAddr) (s : State) : State :=
  if objectAt addr = some .statusFlags then s.modStatus fun x => { x with declared := false } else s

/-- A QUERY to tag 0 (R189). -/
def serveQuery (addr : ObjAddr) (payload : List Byte) (s : State) : State :=
  let r := queryReply addr payload s
  match r with
  | .data _ =>
    readEffect addr (pushResponse { frame := replyFrame 0 addr r s, header := headerRead addr s } s)
  | .done => respond 0 addr r s
  | .refused _ => respond 0 addr r s
  | .refusedAfter _ _ => respond 0 addr r s

/-! ### SET of single objects -/

/-- The status flags are written clear (R195). -/
def clearFlags (mask : BitVec 16) (s : State) : State :=
  s.modStatus fun x => { x with flags := x.flags.cleared s.standing mask }

def setStatusFlags (payload : List Byte) (s : State) : State × Reply :=
  if payload.length ≠ 2 then (s, .refused .badLength)
  else (clearFlags (BitVec.ofNat 16 (fieldNat payload 0 2)) s, .done)

/-- The clock is set (R197). -/
def setClock (payload : List Byte) (s : State) : State × Reply :=
  if payload.length ≠ 5 then (s, .refused .badLength)
  else if 86399 < fieldNat payload 2 3 then (s, .refused .outOfRange)
  else
    (s.modClock fun c =>
      { c with isSet := true, day := fieldNat payload 0 2, second := fieldNat payload 2 3, secondBase := c.ms },
      .done)

/-- The effects of the mode leaving RUN (R161, R69, R121); DRIVER STOP is offered to arms 1 to 4 in that order,
which R69 and R161 leave open (DESIGN CHOICE, log 40). -/
def leaveRun (m : Mode) (s : State) : State := decideBayPermit (offerMoving .driverStop (s.setMode m))

/-- SERVICE is requested (R161). -/
def requestService (s : State) : State :=
  match s.mode with
  | .service => s
  | .servicePending => s
  | .run => if s.session.state = .vacant then leaveRun .service s else leaveRun .servicePending s

/-- The conditions for entering RUN from SERVICE (R162). -/
def State.mayRun (s : State) : Bool :=
  s.clock.isSet && (armIds.any fun n => (s.config n).meter.isSome && (s.config n).valve.isSome) &&
    (s.scans.any fun e => e.enabled) && (s.banks.tables s.banks.active).holdsProduct

/-- RUN is requested (R162). -/
def requestRun (s : State) : State × Reply :=
  match s.mode with
  | .service =>
    if s.mayRun then (decideBayPermit (s.setMode .run), .done) else (s, .refused .outOfRange)
  | .servicePending => (decideBayPermit (s.setMode .run), .done)
  | .run => (s, .done)

/-- A SET of the mode (R160 to R162). -/
def setModeObject (payload : List Byte) (s : State) : State × Reply :=
  if payload.length ≠ 1 then (s, .refused .badLength)
  else if fieldNat payload 0 1 = 0 then (requestService s, .done)
  else if fieldNat payload 0 1 = 2 then requestRun s
  else (s, .refused .outOfRange)

/-- A SET of the bank control object (R154). -/
def setBankControl (payload : List Byte) (s : State) : State × Reply :=
  if payload.length ≠ 1 then (s, .refused .badLength)
  else if fieldNat payload 0 1 = 1 then swapBanks s
  else (s, .refused .outOfRange)

/-- A new turnaround gap is in force at once, for a field command that has not begun as well (R185). -/
def applyGap (gap : Nat) (s : State) : State :=
  (s.modUp fun u => { u with gap := gap }).modField fun x =>
    { x with exchange := x.exchange.map fun e => e.awaitGap gap x.sinceByte }

/-- A SET of the turnaround gap (R185). -/
def setGap (payload : List Byte) (s : State) : State × Reply :=
  if payload.length ≠ 2 then (s, .refused .badLength)
  else if s.mode ≠ .service then (s, .refused .notInService)
  else if inRange (fieldNat payload 0 2) 100 2000 then
    (applyGap (fieldNat payload 0 2) s, .done)
  else (s, .refused .outOfRange)

def setPermit (payload : List Byte) (s : State) : State × Reply :=
  match readPermit payload with
  | .error reason => (s, .refused reason)
  | .ok p => insertPermit p s

/-- A SET that carries a card number (R26, R27, R33). -/
def withCard (payload : List Byte) (f : Nat → State → State × Reply) (s : State) : State × Reply :=
  match readCard payload with
  | .error reason => (s, .refused reason)
  | .ok card => f card s

/-- The lookup key is replaced (R27). -/
def setKey (card : Nat) (s : State) : State × Reply :=
  (s.modStore fun x => { x with key := some card }, .done)

def setOrder (payload : List Byte) (s : State) : State × Reply :=
  match readOrder payload with
  | .error reason => (s, .refused reason)
  | .ok o => insertOrder o s

def setRelease (payload : List Byte) (s : State) : State × Reply :=
  if payload.length ≠ 4 then (s, .refused .badLength) else releaseNote (fieldNat payload 0 4) s

/-! ### Multi-record SET (R157 to R159) -/

/-- Records taken in order from index `index`, each written by `write`; `written` have been written. -/
def writeRecords (size last : Nat) (write : Nat → List Byte → State → Option State) :
    Nat → Nat → Nat → List Byte → State → State × Reply
  | 0, _, _, _, s => (s, .done)
  | k + 1, index, written, bytes, s =>
    if last < index then (s, .refusedAfter .noObject written)
    else
      match write index (bytes.take size) s with
      | none => (s, .refusedAfter .outOfRange written)
      | some t => writeRecords size last write k (index + 1) (written + 1) (bytes.drop size) t

/-- A SET to a table (R158): index-0 address of a bank, length, mode or bank, then the records. -/
def setTable (size first last index : Nat) (guard : State → Option Reason)
    (write : Nat → List Byte → State → Option State) (payload : List Byte) (s : State) : State × Reply :=
  if index < first then (s, .refusedAfter .readOnly 0)
  else if payload = [] ∨ payload.length % size ≠ 0 then (s, .refusedAfter .badLength 0)
  else
    match guard s with
    | some reason => (s, .refusedAfter reason 0)
    | none => writeRecords size last write (payload.length / size) index 0 payload s

/-- The configuration tables are written in SERVICE only (R164). -/
def serviceGuard (s : State) : Option Reason := if s.mode = .service then none else some .notInService

/-- The dosing records of an arm as after reset (R94). -/
def resetDosing (n : ArmId) (s : State) : State := (s.modDose n .s1 fun _ => {}).modDose n .s2 fun _ => {}

/-- An accepted arm configuration with its effects (R45, R70, R94). -/
def applyConfig (n : ArmId) (c : ArmConfig) (s : State) : State :=
  let s1 := (s.setConfig n c).modArm n fun a =>
    { a with anticipation := c.initialAnt * 1000, unassignedRes := 0, lastValve := none }
  resetDosing n (resetMetering n s1)

/-- One arm configuration record, index 0 to 3. -/
def writeConfig (index : Nat) (r : List Byte) (s : State) : Option State :=
  match readConfig r with
  | none => none
  | some c => some (applyConfig (armOfIndex index) c s)

/-- One acceptance entry (R174). -/
def writeAcceptance (index : Nat) (r : List Byte) (s : State) : Option State :=
  match readAcceptance r with
  | none => none
  | some e => some (s.modAcceptance fun es => es.set index e)

/-- One scan entry (R165). -/
def writeScan (index : Nat) (r : List Byte) (s : State) : Option State :=
  match readScan r with
  | none => none
  | some e => some (s.modScans fun es => es.set index e)

def setConfigs (index : Nat) (payload : List Byte) (s : State) : State × Reply :=
  setTable 17 0 3 index serviceGuard writeConfig payload s

def setAcceptances (index : Nat) (payload : List Byte) (s : State) : State × Reply :=
  setTable 11 0 23 index serviceGuard writeAcceptance payload s

def setScans (index : Nat) (payload : List Byte) (s : State) : State × Reply :=
  setTable 7 0 31 index serviceGuard writeScan payload s

def setProducts (bank : Bank) (index : Nat) (payload : List Byte) (s : State) : State × Reply :=
  setTable 10 1 15 index (bankRefusal bank) (writeProduct bank) payload s

def setCurves (bank : Bank) (index : Nat) (payload : List Byte) (s : State) : State × Reply :=
  setTable 25 1 16 index (bankRefusal bank) (writeCurve bank) payload s

def setRecipes (bank : Bank) (index : Nat) (payload : List Byte) (s : State) : State × Reply :=
  setTable 14 1 8 index (bankRefusal bank) (writeRecipe bank) payload s

/-! ### RESTART (R199) -/

/-- The arm record after RESTART (R44). R44 does not list the start gross g_start among what RESTART sets or
leaves: it becomes 0 (DESIGN CHOICE, log 45). -/
def Arm.restarted (a : Arm) (c : ArmConfig) : Arm :=
  { anticipation := c.initialAnt * 1000, totalizer := a.totalizer, unassigned := a.unassigned }

/-- One arm, its metering record and its dosing records after RESTART (R44, R70, R94). -/
def restartArm (n : ArmId) (s : State) : State :=
  resetDosing n (resetMetering n (s.modArm n fun a => a.restarted (s.config n)))

/-- REFUSED BUSY for a host frame that RESTART takes from the relay queue or the line (R172, R199). -/
def answerBusy (s : State) (f : Frame) : State := respond f.tag f.addr (.refused .busy) s

/-- The host frame of the exchange in progress, if its answer is still owed. -/
def FieldLine.relayedFrame (x : FieldLine) : List Frame :=
  match x.exchange with
  | none => []
  | some e =>
    if e.muted || e.dropped then []
    else
      match e.source with
      | .relay => [e.frame]
      | .roll _ _ => [e.frame]
      | .command _ => []
      | .refresh _ => []
      | .scan _ => []
      | .slowPoll _ => []

/-- The sticky flags, counters and declared mark after RESTART; host lost is clear (R194, R196, R199). -/
def restartStatus (s : State) : State :=
  let s1 := s.modStatus fun x => { silenceDeadline := x.silenceDeadline }
  s1.modStatus fun x => { x with flags := s1.standing }

/-- Both lines after RESTART: receivers IDLE, the outgoing list and the queues empty, an exchange in
progress dropped (R182, R185, R199). -/
def restartLines (s : State) : State :=
  let s1 := s.modUp fun u => { u with rx := .idle, outgoing := [], sending := none, ignored := false }
  let s2 := s1.modField fun x =>
    { x with rx := .idle, exchange := x.exchange.map fun e => { e with dropped := true } }
  (s2.setCmdQueue []).setRelayQueue []

/-- What RESTART does to each table and record but the answers (R199, "State after RESTART"). -/
def restartState (s : State) : State :=
  let s1 := restartLines s
  let s2 := s1.modSession fun x => { x with readerTag := none }
  let s3 := s2.modStore fun x => { x with orders := [] }
  let s4 := s3.modBanks fun x => { x with countA := 0, countB := 0 }
  let s5 := s4.modScans fun es => es.map fun e => { e with lastStart := none, late := 0, dueMark := false }
  let s6 := forArms restartArm s5
  let s7 := (s6.setNodes (List.replicate 64 {})).setReader {}
  restartStatus (resetPermissive s7)

/-- RESTART (R199): the BUSY answers, then the DONE, which is formed by the object server. R199 says of the DONE
that its attention summary is formed after the RESTART; the model forms those of the BUSY answers then too (DESIGN
CHOICE, log 46). -/
def restart (s : State) : State × Reply :=
  if s.mode = .service ∧ s.session.state = .vacant then
    let owed := s.field.relayedFrame ++ s.relayQueue.map fun r => r.frame
    (owed.foldl answerBusy (restartState s), .done)
  else (s, .refused .wrongState)

/-! ### The command object (R190) -/

/-- A command that names an arm; outside 1 to 4 it is refused before the command's own rule. -/
def withArm (argument : Nat) (f : ArmId → State → State × Reply) (s : State) : State × Reply :=
  match armOfNumber argument with
  | none => (s, .refused .outOfRange)
  | some n => f n s

/-- A command whose argument must be 0. -/
def withZero (argument : Nat) (f : State → State × Reply) (s : State) : State × Reply :=
  if argument = 0 then f s else (s, .refused .outOfRange)

/-- A command code with its argument (R190). -/
def runCommand (code argument : Nat) (s : State) : State × Reply :=
  match code with
  | 1 => withZero argument restart s
  | 2 => withZero argument sessionAbort s
  | 3 => withArm argument armStop s
  | 4 => withArm argument armResume s
  | 5 => withArm argument armClear s
  | _ => (s, .refused .outOfRange)

/-- A SET of the command object. -/
def setCommand (payload : List Byte) (s : State) : State × Reply :=
  if payload.length ≠ 2 then (s, .refused .badLength)
  else runCommand (fieldNat payload 0 1) (fieldNat payload 1 1) s

/-! ### SET -/

/-- A SET of an object of the map (R189). -/
def setObject (o : Obj) (payload : List Byte) (s : State) : State × Reply :=
  match o with
  | .mode => setModeObject payload s
  | .statusFlags => setStatusFlags payload s
  | .clock => setClock payload s
  | .nextSerial => (s, .refused .readOnly)
  | .bankControl => setBankControl payload s
  | .counters => (s, .refused .readOnly)
  | .summary => (s, .refused .readOnly)
  | .armStatus _ => (s, .refused .readOnly)
  | .command => setCommand payload s
  | .gap => setGap payload s
  | .config i => setConfigs i payload s
  | .acceptance i => setAcceptances i payload s
  | .scan i => setScans i payload s
  | .product bank i => setProducts bank i payload s
  | .curve bank i => setCurves bank i payload s
  | .recipe bank i => setRecipes bank i payload s
  | .permitInsert => setPermit payload s
  | .permitRemove => withCard payload removePermit s
  | .lookupKey => withCard payload setKey s
  | .lookupResult => (s, .refused .readOnly)
  | .permitAt _ => (s, .refused .readOnly)
  | .orderInsert => setOrder payload s
  | .orderRemove => withCard payload removeOrder s
  | .orderAt _ => (s, .refused .readOnly)
  | .slotHeader _ => (s, .refused .readOnly)
  | .noteRelease => setRelease payload s
  | .notePage _ _ => (s, .refused .readOnly)

/-- A SET to tag 0 (R189): the response is formed after the SET. -/
def serveSet (addr : ObjAddr) (payload : List Byte) (s : State) : State :=
  match objectAt addr with
  | none => respond 0 addr (.refused .noObject) s
  | some o => respond 0 addr (setObject o payload s).2 (setObject o payload s).1

end Sys2Proof.Machine
end

