-- ==== Sys2Proof/Machine/Field.lean ====
section
/-! DEFINITION. The field line controller (09): what is due, the arbiter (R168), the start of an exchange, its
end and outcome (R167, R170, R173), ROLL (R191, R192), and the field receiver (R182). -/

namespace Sys2Proof.Machine

/-! ### What is due -/

/-- A scan entry is due (R166); once due it stays due (log 10). -/
def State.scanIsDue (s : State) (e : ScanEntry) : Bool :=
  e.enabled && !s.nodeLost e.tag &&
  (e.dueMark || (match e.lastStart with | none => true | some t => decide (e.period ≤ s.elapsed t)))

/-- The valve that an arm's refresh drives: the arm is not IDLE, names a valve that is not LOST, and has
no valve DRIVE queued (R171). -/
def State.refreshTag (s : State) (n : ArmId) : Option Tag :=
  match (s.config n).valve with
  | none => none
  | some t => if s.armState n ≠ .idle ∧ ¬s.nodeLost t ∧ ¬s.valveQueued n then some t else none

/-- 500 ms since the start of the last DRIVE to a valve, or no DRIVE yet (R171). -/
def State.driveIsOld (s : State) (t : Tag) : Bool :=
  (s.node t).refreshMark || (match (s.node t).lastDrive with | none => true | some x => decide (500 ≤ s.elapsed x))

/-- The valve refresh of an arm is due (R171). -/
def State.refreshIsDue (s : State) (n : ArmId) : Bool :=
  match s.refreshTag n with
  | none => false
  | some t => s.driveIsOld t

/-- The lowest-index enabled scan entry that names a tag (R179). -/
def State.pollEntry (s : State) (t : Tag) : Option ScanEntry := s.scans.find? fun e => e.enabled && e.tag == t

/-- The slow poll of a LOST tag is due (R179). -/
def State.pollIsDue (s : State) (t : Tag) : Bool :=
  s.nodeLost t && (s.pollEntry t).isSome && ((s.node t).slowMark || s.reached (s.node t).slowDue)

/-- The tags of field nodes, lowest first. -/
def nodeTags : List Tag := (List.range 62).map fun i => BitVec.ofNat 6 (i + 1)

/-- The lowest index of a due scan entry of a class. -/
def State.dueScan (s : State) (cls : ScanClass) : Option Nat :=
  s.scans.findIdx? fun e => e.cls == cls && s.scanIsDue e

/-! ### The arbiter's choice (R168) -/

/-- What the arbiter takes. -/
inductive Choice where
  | command (c : Cmd) (rest : List Cmd)
  | refresh (n : ArmId) (t : Tag)
  | scan (index : Nat)
  | relay (r : Relayed) (rest : List Relayed)
  | slowPoll (t : Tag) (e : ScanEntry)
  deriving DecidableEq, Repr

def State.choosePoll (s : State) : Option Choice :=
  match nodeTags.find? fun t => s.pollIsDue t with
  | none => none
  | some t => (s.pollEntry t).map fun e => .slowPoll t e

def State.chooseNormal (s : State) : Option Choice :=
  match s.dueScan .normal with
  | some i => some (.scan i)
  | none => s.choosePoll

def State.chooseRelay (s : State) : Option Choice :=
  match s.relayQueue with
  | r :: rest => some (.relay r rest)
  | [] => s.chooseNormal

def State.chooseFast (s : State) : Option Choice :=
  match s.dueScan .fast with
  | some i => some (.scan i)
  | none => s.chooseRelay

def State.chooseRefresh (s : State) : Option Choice :=
  match armIds.find? fun n => s.refreshIsDue n with
  | some n => (s.refreshTag n).map fun t => .refresh n t
  | none => s.chooseFast

/-- The first source that is eligible, in the order of R168. -/
def State.choose (s : State) : Option Choice :=
  match s.cmdQueue with
  | c :: rest => some (.command c rest)
  | [] => s.chooseRefresh

/-! ### The start of an exchange -/

def Source.isRoll : Source → Bool
  | .roll _ _ => true
  | .command _ => false
  | .refresh _ => false
  | .scan _ => false
  | .relay => false
  | .slowPoll _ => false

/-- The exchange in progress hears a byte on the field line: the silence that ends a ROLL is measured from now
(R167, R191), and a command not yet begun waits for the whole turnaround gap again (R185). -/
def Exchange.hear (e : Exchange) (gap : Nat) (now : Ms) : Exchange :=
  { e.awaitGap gap 0 with waitFrom := if e.source.isRoll then now else e.waitFrom }

/-- An exchange begins: the command waits for the turnaround gap since the last byte received on the field
line and then takes its bytes' time (R167, R185). R167 has the exchange begin when the arbiter takes a source and the
part starts sending, which the gap can part: the start of R166, R171 and R179 is the take, where the frame's bytes are
fixed too (DESIGN CHOICE, log 49). -/
def beginExchange (source : Source) (f : Frame) (s : State) : State :=
  s.modField fun x =>
    { x with
      exchange := some
        { source := source, frame := f, tag := f.tag, toSend := (s.up.gap - x.sinceByte) + frameTime f } }

/-- A command frame of the part to a field node. -/
def nodeCommand (kind : Kind) (tag : Tag) (addr : ObjAddr) (payload : List Byte) : Frame :=
  { dir := .command, kind := kind, tag := tag, addr := addr, payload := payload }

/-- A DRIVE that carries a position (R193). -/
def driveFrame (t : Tag) (p : Position) : Frame := nodeCommand 2 t 0x0010#16 [byteOf (positionCode p)]

/-- The frame of a command queue entry (R193). -/
def Cmd.frame : Cmd → Frame
  | .valve _ t p _ => driveFrame t p
  | .shot _ _ t i z => nodeCommand 2 t 0x0020#16 (byteOf i :: beBytes 4 z)
  | .display t code => nodeCommand 1 t 0x0030#16 [byteOf code]

/-- The start of a DRIVE to a valve, from the queue or a refresh (R171): the take (DESIGN CHOICE, log 49). -/
def markDrive (t : Tag) (s : State) : State :=
  s.modNode t fun x => { x with lastDrive := some s.now, refreshMark := false }

/-- The head of the command queue is sent (R170). -/
def sendCommand (c : Cmd) (rest : List Cmd) (s : State) : State :=
  let s1 := s.setCmdQueue rest
  let s2 :=
    match c with
    | .valve _ t _ _ => markDrive t s1
    | .shot _ _ _ _ _ => s1
    | .display _ _ => s1
  beginExchange (.command c) c.frame s2

/-- A refresh is sent with the commanded position as it stands (R171): as it stands at the take, although the
turnaround gap may hold the command back (DESIGN CHOICE, log 49). -/
def sendRefresh (n : ArmId) (t : Tag) (s : State) : State :=
  beginExchange (.refresh n) (driveFrame t (s.arm n).commanded) (markDrive t s)

/-- The scan is late: two whole periods or more since its last start (R166). -/
def State.scanLate (s : State) (e : ScanEntry) : Bool :=
  match e.lastStart with
  | none => false
  | some t => decide (2 * e.period ≤ s.elapsed t)

/-- A due scan entry is taken (R166, R168), which is its start (DESIGN CHOICE, log 49). -/
def sendScan (i : Nat) (s : State) : State :=
  let e := s.scans.getD i {}
  let late := s.scanLate e
  let s1 := if late then s.count .lateScans else s
  let s2 := s1.modScans fun es => es.modify i fun x =>
    { x with
      late := if late then saturate16 x.late 1 else x.late
      lastStart := some s.now, dueMark := false }
  beginExchange (.scan i) (nodeCommand 0 e.tag e.addr []) s2

/-- A slow poll is sent; the next is due 5 s after this one started (R179), at the take (DESIGN CHOICE, log 49). -/
def sendPoll (t : Tag) (e : ScanEntry) (s : State) : State :=
  beginExchange (.slowPoll t) (nodeCommand 0 t e.addr [])
    (s.modNode t fun x => { x with slowDue := some (s.ahead 5000), slowMark := false })

/-- A ROLL is addressed to all nodes. -/
def isRollFrame (f : Frame) : Bool := f.tag == 63

/-- The test at the head of the relay queue (R124, R173): the reason of a refusal. -/
def headRefusal (r : Relayed) (s : State) : Option Reason :=
  if isRollFrame r.frame then (if s.bayActive then some .bayActive else none)
  else if s.gatePasses r.cls then none
  else some .interlocked

/-- A host frame that passed is sent unchanged (R173). -/
def sendRelayed (r : Relayed) (s : State) : State :=
  beginExchange (if isRollFrame r.frame then .roll 0 0 else .relay) r.frame s

/-- The arbiter takes the first eligible source; one that is dropped without being sent is followed by the
next choice at once (R168). At most every relayed frame is dropped, which `fuel` allows for. -/
def arbitrate : Nat → State → State
  | 0, s => s
  | fuel + 1, s =>
    match s.choose with
    | none => s
    | some (.command c rest) => sendCommand c rest s
    | some (.refresh n t) => sendRefresh n t s
    | some (.scan i) => sendScan i s
    | some (.slowPoll t e) => sendPoll t e s
    | some (.relay r rest) =>
      match headRefusal r s with
      | none => sendRelayed r (s.setRelayQueue rest)
      | some reason => arbitrate fuel (respond r.frame.tag r.frame.addr (.refused reason) (s.setRelayQueue rest))

/-- The arbiter acts while the line is free (R168), in a LINE BREAK as well, of which the spec says nothing
(DESIGN CHOICE, log 41). -/
def takeNext (s : State) : State :=
  if s.field.exchange.isNone then arbitrate (s.relayQueue.length + 1) s else s

/-! ### The end of an exchange -/

/-- How an exchange ends (R167). -/
inductive Ending where
  | good (f : Frame)
  | damaged
  | timeout
  deriving DecidableEq, Repr

/-- A good response of kind DONE acknowledges a DRIVE (R170). -/
def Ending.isDone : Ending → Bool
  | .good f => f.kind == 1
  | .damaged => false
  | .timeout => false

/-- A good response of kind REFUSED (R99). -/
def Ending.isRefused : Ending → Bool
  | .good f => f.kind == 2
  | .damaged => false
  | .timeout => false

def Ending.isGood : Ending → Bool
  | .good _ => true
  | .damaged => false
  | .timeout => false

/-- The counter of a failed exchange (R167). -/
def countEnding (x : Ending) (s : State) : State :=
  match x with
  | .good _ => s
  | .damaged => s.count .fieldCrc
  | .timeout => s.count .fieldTimeouts

/-- Scoring, and for a good response classification and delivery (R176, R177). -/
def scoreEnding (x : Ending) (tag : Tag) (s : State) : State :=
  match x with
  | .good f => takeResponse f s
  | .damaged => scoreFailed tag s
  | .timeout => scoreFailed tag s

/-- A failed DRIVE returns to the head of the queue (R170). -/
def putBack (c : Cmd) (s : State) : State := s.setCmdQueue (c :: s.cmdQueue)

/-- The outcome of a valve DRIVE (R170). -/
def driveOutcome (n : ArmId) (t : Tag) (p : Position) (retries : Nat) (x : Ending) (s : State) : State :=
  if x.isDone then s
  else if s.nodeLost t then s
  else if s.valveQueued n then s
  else if p = .closed ∧ ¬x.isGood then putBack (.valve n t p retries) s
  else if retries < 2 then putBack (.valve n t p (retries + 1)) s
  else driveFailed n p s

/-- The outcome of a command queue entry (R170, R99). -/
def commandOutcome (c : Cmd) (x : Ending) (s : State) : State :=
  match c with
  | .valve n t p retries => driveOutcome n t p retries x s
  | .shot n k _ number _ => shotOutcome n k number x.isRefused s
  | .display _ _ => s

/-- The answer upstream to a relayed frame (R173), unless a LINE BREAK took it away (R184). -/
def relayOutcome (e : Exchange) (x : Ending) (s : State) : State :=
  if e.muted then s
  else
    match x with
    | .good f => pushResponse { frame := f } s
    | .damaged => respond e.frame.tag e.frame.addr (.refused .noResponse) s
    | .timeout => respond e.frame.tag e.frame.addr (.refused .noResponse) s

/-- The outcome goes back to its source. -/
def sourceOutcome (e : Exchange) (x : Ending) (s : State) : State :=
  match e.source with
  | .command c => commandOutcome c x s
  | .relay => relayOutcome e x s
  | .refresh _ => s
  | .scan _ => s
  | .slowPoll _ => s
  | .roll _ _ => s

/-- The line is free. -/
def freeLine (s : State) : State := s.modField fun x => { x with exchange := none }

/-- An exchange other than a ROLL ends (R167): counted, scored, delivered, then its outcome. After a RESTART
it is only counted (R199, log 12). -/
def endExchange (e : Exchange) (x : Ending) (s : State) : State :=
  let s1 := countEnding x (freeLine s)
  if e.dropped then s1 else sourceOutcome e x (scoreEnding x e.tag s1)

/-! ### ROLL (R191, R192) -/

/-- The two counts of a ROLL. -/
def Source.rollCounts : Source → Nat × Nat
  | .roll relayed damaged => (relayed, damaged)
  | .command _ => (0, 0)
  | .refresh _ => (0, 0)
  | .scan _ => (0, 0)
  | .relay => (0, 0)
  | .slowPoll _ => (0, 0)

/-- The counts of a ROLL rise, without a limit: the spec gives none (DESIGN CHOICE, log 51). -/
def bumpRoll (relayed damaged : Nat) (s : State) : State :=
  s.modField fun x =>
    { x with
      exchange := x.exchange.map fun e =>
        { e with source := .roll (e.source.rollCounts.1 + relayed) (e.source.rollCounts.2 + damaged) } }

/-- A chained response: relayed unchanged, then scored, classified and delivered (R191, R176). -/
def chainedResponse (e : Exchange) (f : Frame) (s : State) : State :=
  let s1 := bumpRoll 1 0 s
  if e.dropped then s1
  else takeResponse f (if e.muted then s1 else pushResponse { frame := f } s1)

/-- A damaged chained response (R191, R167). -/
def chainedDamage (s : State) : State := bumpRoll 0 1 (s.count .fieldCrc)

/-- The frame of a closing response: tag 0 and the ROLL's address (R192). -/
def closingFrame (kind : Kind) (addr : ObjAddr) (payload : List Byte) : Frame :=
  { dir := .response, kind := kind, tag := 0, addr := addr, payload := payload }

/-- The closing response of a ROLL (R192). A count above 255 is sent modulo 256 in its byte (DESIGN CHOICE, log 51). -/
def closeRoll (addr : ObjAddr) (relayed damaged : Nat) (s : State) : State :=
  if 0 < damaged then
    pushResponse { frame := closingFrame 3 addr [s.attention, byteOf relayed, byteOf damaged] } s
  else
    match queryAddress addr s with
    | .error reason =>
      pushResponse { frame := closingFrame 2 addr [reason.code, s.attention, byteOf relayed] } s
    | .ok bytes =>
      readEffect addr (pushResponse
        { frame := closingFrame 0 addr (s.attention :: byteOf relayed :: bytes), header := headerRead addr s } s)

/-- The end of a ROLL exchange: nothing is formed after a LINE BREAK or a RESTART (R184, R199). -/
def endRoll (e : Exchange) (s : State) : State :=
  let s1 := freeLine s
  if e.muted || e.dropped then s1
  else closeRoll e.frame.addr e.source.rollCounts.1 e.source.rollCounts.2 s1

/-! ### The field receiver (R182, R183) -/

/-- Bytes have been received on the field line, the last one now: the receiver's state after them, and the
timers that run from the last byte. -/
def fieldHeard (rx : Receiver) (s : State) : State :=
  s.modField fun x =>
    { x with
      rx := rx, sinceByte := 0, lastByte := s.now, exchange := x.exchange.map fun e => e.hear s.up.gap s.now }

/-- Bytes have been received on the field line, and more than 2 ms of silence since: the last byte lies that far
back (log 52). -/
def fieldSilent (rx : Receiver) (s : State) : State :=
  s.modField fun x =>
    { x with
      rx := rx, sinceByte := silenceMax, lastByte := beforeGap s.now
      exchange := x.exchange.map fun e =>
        { e with waitFrom := if e.source.isRoll then beforeGap s.now else e.waitFrom } }

/-- A whole good frame arrives on the field line. The bytes a receiver already holds are the frame's first
ones; in HUNT its bytes only end the silence (R182). -/
def receiveField (f : Frame) (take : State → State) (s : State) : State :=
  if s.field.inBreak || !payloadFits f.payload then s
  else
    match s.field.rx with
    | .hunt => fieldHeard .hunt s
    | .idle => take (fieldHeard .idle s)
    | .receiving bytes => if bytes.isPrefixOf (frameWire f) then take (fieldHeard .idle s) else s

/-- Bytes of a frame that does not end well arrive on the field line: `take` has all bytes received. In HUNT
they only end the silence (R182). -/
def receiveFieldBytes (bytes : List Byte) (take : List Byte → State → State) (s : State) : State :=
  if s.field.inBreak || !bytesFit bytes then s
  else
    match s.field.rx with
    | .hunt => if bytes = [] then s else fieldHeard .hunt s
    | .idle => take bytes s
    | .receiving held => take (held ++ bytes) s

/-- The response test (R167). -/
def Exchange.accepts (e : Exchange) (f : Frame) : Bool := f.dir == .response && f.tag == e.tag

/-- The exchange that awaits a response, other than a ROLL, ends as a damaged response; a ROLL counts one; when none
awaits one nothing is counted (R167, R182, R183). -/
def takeDamage (s : State) : State :=
  match s.field.awaiting with
  | none => s
  | some e => if e.source.isRoll then chainedDamage s else endExchange e .damaged s

/-- 20 ms after the last command byte (R167), by the readings of the clock (R197, log 52). -/
def Exchange.isOverdue (e : Exchange) (now : Ms) : Bool :=
  !e.source.isRoll && e.toSend == 0 && decide (20 ≤ (now - e.waitFrom).toNat)

/-- The timeout of the exchange in progress is due: no frame is being received (R167), a LINE BREAK being none
(DESIGN CHOICE, log 41). -/
def State.timeoutDue (s : State) : Bool :=
  match s.field.exchange with
  | none => false
  | some e => e.isOverdue s.now && !s.field.rx.isReceiving

/-- A ROLL has been followed by 10 ms of silence (R167, R191), by the readings of the clock (R197, log 52). -/
def Exchange.isSilent (e : Exchange) (now : Ms) : Bool :=
  e.source.isRoll && e.toSend == 0 && decide (10 ≤ (now - e.waitFrom).toNat)

/-- The end of the ROLL in progress is due (R167, R191). A LINE BREAK on the field line counts as silence: a ROLL ends
during one as well (DESIGN CHOICE, log 41). -/
def State.rollEndDue (s : State) : Bool :=
  match s.field.exchange with
  | none => false
  | some e => e.isSilent s.now && !s.field.rx.isReceiving

/-- The exchange in progress ends as a timeout. -/
def timeOut (s : State) : State :=
  match s.field.exchange with
  | none => s
  | some e => endExchange e .timeout s

/-- The ROLL in progress ends. -/
def finishRoll (s : State) : State :=
  match s.field.exchange with
  | none => s
  | some e => endRoll e s

/-- A frame that passes the response test of the exchange that awaits it ends that exchange (R167). -/
def goodResponse (f : Frame) (s : State) : State :=
  match s.field.awaiting with
  | none => s
  | some e => if !e.source.isRoll && e.accepts f then receiveField f (endExchange e (.good f)) s else s

/-- A frame that fails the response test, or arrives when no exchange awaits a response, is discarded; one still
being received at 20 ms then ends the exchange as a timeout (R167). -/
def discardedFrame (f : Frame) (s : State) : State :=
  match s.field.awaiting with
  | none => receiveField f (fun t => t) s
  | some e =>
    if e.source.isRoll || e.accepts f then s
    else receiveField f (fun t => if e.isOverdue s.now then endExchange e .timeout t else t) s

/-- A frame of the chain during a ROLL (R191). -/
def rollResponse (f : Frame) (s : State) : State :=
  match s.field.awaiting with
  | none => s
  | some e => if e.source.isRoll && f.dir == .response then receiveField f (chainedResponse e f) s else s

/-- The receiver after the last of some damaged bytes: HUNT when the frame was abandoned, IDLE after a whole
frame; `none` when the bytes are not damaged (R182, R183). -/
def damagedReceiver (bytes : List Byte) : Option Receiver :=
  match rxStatus bytes with
  | .abandoned => some .hunt
  | .whole good => if good then none else some .idle
  | .incomplete => none
  | .overlong => none

/-- All bytes of a damaged frame have been received on the field line. -/
def fieldDamage (all : List Byte) (s : State) : State :=
  match damagedReceiver all with
  | none => s
  | some rx => takeDamage (fieldHeard rx s)

/-- A damaged frame on the field line. -/
def receiveDamage (bytes : List Byte) (s : State) : State := receiveFieldBytes bytes fieldDamage s

/-- All bytes of a chained frame that is damaged, or whole and good with the command direction (R191). -/
def chainedBytes (all : List Byte) (s : State) : State :=
  match damagedReceiver all with
  | some rx => chainedDamage (fieldHeard rx s)
  | none => if rxStatus all = .whole true ∧ commandBit all then chainedDamage (fieldHeard .idle s) else s

/-- A damaged chained frame (R191). -/
def rollDamage (bytes : List Byte) (s : State) : State := receiveFieldBytes bytes chainedBytes s

end Sys2Proof.Machine
end

