-- ==== Sys2Proof/Machine/Upstream.lean ====
section
/-! DEFINITION. The upstream port (10): the receiver (R182 to R184), the taking of host frames (R186), intake to
the relay queue (R123, R172, R191), the transmitter (R185), the host silence monitor (R198), and LINE BREAK and
abandoned frames on either line. -/

namespace Sys2Proof.Machine

/-! ### The receiver -/

/-- Bytes have been received on the upstream line, the last one now. -/
def upHeard (rx : Receiver) (s : State) : State :=
  s.modUp fun u => { u with rx := rx, sinceByte := 0, lastByte := s.now }

/-- Bytes have been received on the upstream line, and more than 2 ms of silence since: the last byte lies that far
back (log 52). -/
def upSilent (rx : Receiver) (s : State) : State :=
  s.modUp fun u => { u with rx := rx, sinceByte := silenceMax, lastByte := beforeGap s.now }

/-- Bytes received while the part is transmitting are discarded and counted (R185). -/
def ignoreBytes (n : Nat) (s : State) : State :=
  if n = 0 then s else (s.countBy .ignored n).modUp fun u =>
    { u with ignored := true, sinceByte := 0, lastByte := s.now }

/-- A whole good frame arrives on the upstream line. The bytes a receiver already holds are the frame's
first ones; in HUNT its bytes only end the silence (R182, R185). -/
def receiveUpstream (f : Frame) (take : State → State) (s : State) : State :=
  if s.up.inBreak || !payloadFits f.payload then s
  else if s.up.sending.isSome then ignoreBytes (frameLength f) s
  else
    match s.up.rx with
    | .hunt => upHeard .hunt s
    | .idle => take (upHeard .idle s)
    | .receiving bytes => if bytes.isPrefixOf (frameWire f) then take (upHeard .idle s) else s

/-- Bytes of a frame that does not end well arrive on the upstream line: `take` has all bytes received. In HUNT
they only end the silence (R182). -/
def receiveUpBytes (bytes : List Byte) (take : List Byte → State → State) (s : State) : State :=
  if s.up.inBreak || !bytesFit bytes then s
  else if s.up.sending.isSome then ignoreBytes bytes.length s
  else
    match s.up.rx with
    | .hunt => if bytes = [] then s else upHeard .hunt s
    | .idle => take bytes s
    | .receiving held => take (held ++ bytes) s

/-- An abandoned frame on the upstream line (R182). -/
def upAbandoned (all : List Byte) (s : State) : State :=
  if rxStatus all = .abandoned then upHeard .hunt (s.count .upstreamFraming) else s

/-- A whole frame with a bad CRC on the upstream line (R183). -/
def upBadCrc (all : List Byte) (s : State) : State :=
  if rxStatus all = .whole false then upHeard .idle (s.count .upstreamCrc) else s

/-- The byte that ended a gap is taken as byte 0 (R182); a bad lead byte is abandoned at once. -/
def upFirstByte (b : Byte) (s : State) : State :=
  upHeard (firstByte b) (if badByte [b] then s.count .upstreamFraming else s)

/-- The upstream line IDLE after a gap of more than 2 ms: `bytes` have just come, or, with none, the timers have
run since the last byte. -/
def upGapEnd (bytes : List Byte) (s : State) : State :=
  if bytes = [] then s.modUp fun u => { u with rx := .idle } else upSilent .idle s

/-- The byte that ended the gap, if one did. -/
def upAfterGap (after : Option Byte) (s : State) : State :=
  match after with
  | none => s
  | some b => upFirstByte b s

/-- A frame abandoned at a gap on the upstream line, with all its bytes (R182). -/
def upGap (bytes : List Byte) (after : Option Byte) (all : List Byte) (s : State) : State :=
  if rxStatus all = .incomplete ∧ all ≠ [] then upAfterGap after (upGapEnd bytes (s.count .upstreamFraming)) else s

/-- A gap of more than 2 ms after `bytes` on the upstream line: the bytes have just come, or, with none, the
line has been silent since the last byte (R182). In HUNT there is no frame to abandon, and the gap ends it.
While the part is transmitting every byte named is ignored (R185). -/
def receiveUpGap (bytes : List Byte) (after : Option Byte) (s : State) : State :=
  if s.up.inBreak || !bytesFit bytes then s
  else if s.up.sending.isSome then ignoreBytes (bytes ++ after.toList).length s
  else if bytes = [] ∧ ¬pastGap s.now s.up.lastByte then s
  else
    match s.up.rx with
    | .hunt => upAfterGap after (upGapEnd bytes s)
    | .idle => upGap bytes after bytes s
    | .receiving held => upGap bytes after (held ++ bytes) s

/-- The byte that ended a gap on the field line. -/
def fieldFirstByte (b : Byte) (s : State) : State :=
  let s1 := fieldHeard (firstByte b) s
  if badByte [b] then takeDamage s1 else s1

/-- The field line IDLE after a gap of more than 2 ms: `bytes` have just come, or, with none, the timers have
run since the last byte. -/
def fieldGapEnd (bytes : List Byte) (s : State) : State :=
  if bytes = [] then s.modField fun x => { x with rx := .idle } else fieldSilent .idle s

/-- The byte that ended the gap, if one did. -/
def fieldAfterGap (after : Option Byte) (s : State) : State :=
  match after with
  | none => s
  | some b => fieldFirstByte b s

/-- A frame abandoned at a gap on the field line, with all its bytes: a damaged response when an exchange awaits one
(R182, R167). -/
def fieldGap (bytes : List Byte) (after : Option Byte) (all : List Byte) (s : State) : State :=
  if rxStatus all = .incomplete ∧ all ≠ [] then fieldAfterGap after (takeDamage (fieldGapEnd bytes s)) else s

/-- A gap of more than 2 ms after `bytes` on the field line, as on the upstream line (R182). -/
def receiveFieldGap (bytes : List Byte) (after : Option Byte) (s : State) : State :=
  if s.field.inBreak || !bytesFit bytes then s
  else if bytes = [] ∧ ¬pastGap s.now s.field.lastByte then s
  else
    match s.field.rx with
    | .hunt => fieldAfterGap after (fieldGapEnd bytes s)
    | .idle => fieldGap bytes after bytes s
    | .receiving held => fieldGap bytes after (held ++ bytes) s

/-- All bytes of a frame abandoned at a bad byte on the field line. -/
def fieldAbandoned (all : List Byte) (s : State) : State :=
  if rxStatus all = .abandoned then fieldDamage all s else s

/-- HUNT ends once the line has been silent for more than 2 ms (R182); only received bytes break the silence
(DESIGN CHOICE, log 42). -/
def State.upHuntOver (s : State) : Bool := s.up.rx == .hunt && !s.up.inBreak && pastGap s.now s.up.lastByte

/-- HUNT ends on the field line likewise. Only received bytes break the silence, so that HUNT can end while the part
is sending a command (DESIGN CHOICE, log 50). -/
def State.fieldHuntOver (s : State) : Bool :=
  s.field.rx == .hunt && !s.field.inBreak && pastGap s.now s.field.lastByte

/-! ### LINE BREAK (R184) -/

/-- A LINE BREAK on the upstream line (R184, R172): the bytes received of a frame are dropped uncounted
unless they fell into a transmission. -/
def upBreak (bytes : List Byte) (s : State) : State :=
  let s1 := if s.up.sending.isSome ∧ bytes ≠ [] then ignoreBytes bytes.length s else s
  let s2 := s1.modUp fun u =>
    { u with
      rx := .idle, inBreak := true, outgoing := [], sending := none, ignored := false
      sinceByte := if bytes = [] then u.sinceByte else 0
      lastByte := if bytes = [] then u.lastByte else s.now }
  let s3 := s2.modField fun x => { x with exchange := x.exchange.map fun e => { e with muted := true } }
  s3.setRelayQueue []

/-- A LINE BREAK on the field line: in an exchange that awaits a response, a frame being received becomes a damaged
one (R184). -/
def fieldBreak (bytes : List Byte) (s : State) : State :=
  let all := s.field.rx.bytes ++ bytes
  let s1 := if bytes = [] then s else fieldHeard .idle s
  let s2 := s1.modField fun x => { x with rx := .idle, inBreak := true }
  if s.field.rx ≠ .hunt ∧ all ≠ [] ∧ rxStatus all = .incomplete then takeDamage s2 else s2

/-! ### Host frames -/

/-- The host silence monitor takes a frame to tag 0 (R198). -/
def hearHost (s : State) : State :=
  s.modStatus fun x => { x with hostLost := false, silenceDeadline := some (s.ahead 30000) }

/-- A good frame that finds 8 responses in the list is discarded and counted (R185). -/
def ifListOpen (take : State → State) (s : State) : State :=
  if 8 ≤ s.up.outgoing.length then s.count .ignored else take s

/-- A frame to tag 0: the silence monitor first (R186, R198, log 5). -/
def takeTagZero (take : State → State) (s : State) : State := ifListOpen take (hearHost s)

/-- A frame of the host to an object of tag 0. -/
def hostFrame (kind : Kind) (addr : ObjAddr) (payload : List Byte) : Frame :=
  { dir := .command, kind := kind, tag := 0, addr := addr, payload := payload }

/-- A SET to tag 0, received whole. -/
def hostSet (addr : ObjAddr) (payload : List Byte) (s : State) : State :=
  receiveUpstream (hostFrame 1 addr payload) (takeTagZero (serveSet addr payload)) s

/-- A QUERY to tag 0, received whole. -/
def hostQuery (addr : ObjAddr) (payload : List Byte) (s : State) : State :=
  receiveUpstream (hostFrame 0 addr payload) (takeTagZero (serveQuery addr payload)) s

/-- The tag of a REFUSED: that of the frame it answers, and 63 where it answers a ROLL (R187, R191), whatever tag the
ROLL was sent to (DEDUCED, log 14). -/
def refusalTag (f : Frame) : Tag := if f.kind = 3 then 63 else f.tag

/-- REFUSED BAD KIND, with the frame's address (R186, R187). -/
def refuseKind (f : Frame) (s : State) : State := respond (refusalTag f) f.addr (.refused .badKind) s

/-- A frame of a kind its tag does not take (R186 cases 2 to 4). -/
def takeBadKind (f : Frame) (s : State) : State :=
  if f.tag = 0 then takeTagZero (refuseKind f) s else ifListOpen (refuseKind f) s

/-- A frame joins the relay queue with its class, or is refused BUSY (R172). -/
def enqueueRelay (f : Frame) (c : FrameClass) (s : State) : State :=
  if s.relayQueue.length < 4 then s.setRelayQueue (s.relayQueue ++ [{ frame := f, cls := c }])
  else respond f.tag f.addr (.refused .busy) s

/-- Intake of a host command for a field node: classified, gated, queued (R123, R172, R175). -/
def relayFrame (f : Frame) (s : State) : State :=
  let c := classify s.acceptance f
  if s.gatePasses c then enqueueRelay f c s else respond f.tag f.addr (.refused .interlocked) s

/-- A ROLL of the host. -/
def rollFrame (addr : ObjAddr) (payload : List Byte) : Frame :=
  { dir := .command, kind := 3, tag := 63, addr := addr, payload := payload }

/-- Intake of a ROLL, which is not classified (R191, R175). -/
def rollIn (f : Frame) (s : State) : State :=
  if s.bayActive then respond f.tag f.addr (.refused .bayActive) s else enqueueRelay f {} s

/-! ### The transmitter (R185) -/

/-- The head of the outgoing list may be transmitted. -/
def State.mayTransmit (s : State) : Bool :=
  s.up.sending.isNone && s.up.outgoing != [] && !s.up.rx.isReceiving && decide (s.up.gap ≤ s.up.sinceByte)

/-- The head leaves the list and its transmission begins (log 6). -/
def transmitHead (s : State) : State :=
  match s.up.outgoing with
  | [] => s
  | r :: rest =>
    s.modUp fun u =>
      { u with outgoing := rest, sending := some { response := r, left := frameTime r.frame }, ignored := false }

/-- The last byte of the response being transmitted has been sent. -/
def State.sentWhole (s : State) : Bool :=
  match s.up.sending with
  | none => false
  | some x => x.left == 0

/-- The end of a transmission (R185), which clears the NEW mark of a header read (R140). Without a byte
discarded, a receiver that stood in HUNT when the transmission began stays in it until silence ends it (DESIGN
CHOICE, log 42). -/
def endTransmission (s : State) : State :=
  match s.up.sending with
  | none => s
  | some x =>
    (clearNewMark x.response.header s).modUp fun u =>
      { u with sending := none, ignored := false, rx := if u.ignored then .hunt else u.rx }

/-- The driver enable of the upstream line (10, "Pins and electrical notes"): on while transmitting. -/
def State.upDriverEnable (s : State) : Bool := s.up.sending.isSome

/-- The driver enable of the field line: on while command bytes are being sent. -/
def State.fieldDriverEnable (s : State) : Bool :=
  match s.field.exchange with
  | none => false
  | some e => decide (0 < e.toSend) && decide (e.toSend ≤ frameTime e.frame)

/-! ### Silence of the host and terminal time -/

/-- The silence deadline has been reached (R198). -/
def State.silenceOver (s : State) : Bool := s.reached s.status.silenceDeadline

/-- Host lost is declared (R198, R19). -/
def declareHostLost (s : State) : State :=
  let s1 := s.modStatus fun x => { x with hostLost := true, declared := true, silenceDeadline := none }
  let s2 := s1.raiseFlag .hostLost
  if s.session.state = .opened then s2.modSession fun x => { x with hostLostDuring := true } else s2

/-- A further 1,000 ms have passed since the running second of terminal time began (R197). -/
def State.secondDue (s : State) : Bool := s.clock.isSet && decide (1000 ≤ s.elapsed s.clock.secondBase)

/-- The second of day after one second, with the day (R197). -/
def Clock.nextSecond (c : Clock) : Clock :=
  if c.second + 1 < 86400 then { c with second := c.second + 1, secondBase := c.secondBase + 1000 }
  else { c with second := 0, day := (c.day + 1) % 65536, secondBase := c.secondBase + 1000 }

end Sys2Proof.Machine
end

