-- ==== Sys2Proof/Machine/Resets.lean ====
section
/-! DEFINITION. The resets (R200) and RESTART (R199). -/

namespace Sys2Proof.Machine

/-- What a step answers in this block: always a next state. -/
abbrev Answer : Type := Host.Outcome State Fault Refusal

/-- POWER_ON_RESET (R200): every piece of state as after reset; the queue of commands waiting and the
model's counter of free choices are not the part's and stay. -/
def execPowerOnReset (s : State) : Answer :=
  .next { State.reset with freeCount := s.freeCount, pending := s.pending }

/-- RESET_INPUT (R200): the same effect, RESET_N low and high again within one step (log 27). -/
def execResetInput (s : State) : Answer :=
  .next { State.reset with freeCount := s.freeCount, pending := s.pending }

/-- RESTART: the command code 1 with its argument (R190, R199). -/
def execRestart (argument : Byte) (s : State) : Answer := .next (hostSet 0x0018#16 [1, argument] s)

end Sys2Proof.Machine
end

