-- ==== Sys2Proof/Machine/Deadlines.lean ====
section
/-! DEFINITION. The rows of the part's deadlines, of terminal time and of the note compile. A deadline that has
not been reached changes nothing (log 3). -/

namespace Sys2Proof.Machine

/-- HOST_LOST (R198, R19). -/
def execHostLost (s : State) : Answer := .next (if s.silenceOver then declareHostLost s else s)

/-- TERMINAL_SECOND_TICK (R197). -/
def execTerminalSecondTick (s : State) : Answer := .next (if s.secondDue then s.modClock Clock.nextSecond else s)

/-- CODE_ENTRY_TIMEOUT (R10). -/
def execCodeEntryTimeout (s : State) : Answer := .next (if s.codeOverdue then returnVacant s else s)

/-- ARMED_TIMEOUT (R13). -/
def execArmedTimeout (n : ArmId) (s : State) : Answer := .next (if s.armedOverdue n then armedExpiry n s else s)

/-- SESSION_IDLE_TIMEOUT (R17). -/
def execSessionIdleTimeout (s : State) : Answer := .next (if s.idleOverdue then idleExpiry s else s)

/-- SETTLE_TIMEOUT (R55). -/
def execSettleTimeout (n : ArmId) (s : State) : Answer := .next (if s.settleOverdue n then settleFailure n s else s)

/-- HALT_TIMEOUT (R61). -/
def execHaltTimeout (n : ArmId) (s : State) : Answer := .next (if s.haltOverdue n then haltExpiry n s else s)

/-- TEMP_STALE (R81). -/
def execTempStale (n : ArmId) (s : State) : Answer := .next (if s.tempOverdue n then tempExpiry n s else s)

/-- SHOT_TIMEOUT (R103). -/
def execShotTimeout (n : ArmId) (k : Slot) (s : State) : Answer :=
  .next (if s.shotOverdue n k then shotExpiry n k s else s)

/-- REPORT_AGE_EXPIRY (R115). -/
def execReportAgeExpiry (s : State) : Answer := .next (if s.reportOverdue then reportExpiry s else s)

/-- DEADMAN_WARNING (R118). -/
def execDeadmanWarning (s : State) : Answer := .next (if s.warningDue then warnDeadman s else s)

/-- DEADMAN_EXPIRY (R119). -/
def execDeadmanExpiry (s : State) : Answer := .next (if s.deadmanOverdue then expireDeadman s else s)

/-- NOTE_PAGE_WRITE (R130, R131): the next page of the compile in progress. -/
def execNotePageWrite (s : State) : Answer := .next (writeNextPage s)

end Sys2Proof.Machine
end

