-- ==== Sys2Proof/Machine/FieldEvents.lean ====
section
/-! DEFINITION. The rows of the field line: the arbiter, what comes due on the line, and the responses. -/

namespace Sys2Proof.Machine

/-- ARBITER_TAKE (R168). -/
def execArbiterTake (s : State) : Answer := .next (takeNext s)

/-- SCAN_DUE: an entry that is due stays due until it is taken (R166). -/
def execScanDue (index : Fin 32) (s : State) : Answer :=
  .next
    (if s.scanIsDue (s.scans.getD index.val {}) then
      s.modScans fun es => es.modify index.val fun e => { e with dueMark := true }
    else s)

/-- VALVE_REFRESH_DUE (R171). -/
def execValveRefreshDue (n : ArmId) (s : State) : Answer :=
  match s.refreshTag n with
  | none => .next s
  | some t => .next (if s.driveIsOld t then s.modNode t fun x => { x with refreshMark := true } else s)

/-- SLOW_POLL_DUE (R179). -/
def execSlowPollDue (tag : Tag) (s : State) : Answer :=
  .next (if s.pollIsDue tag then s.modNode tag fun x => { x with slowMark := true } else s)

/-- FIELD_GOOD_RESPONSE (R167, R176). -/
def execFieldGoodResponse (f : Frame) (s : State) : Answer := .next (goodResponse f s)

/-- FIELD_DAMAGED_RESPONSE (R167). -/
def execFieldDamagedResponse (bytes : List Byte) (s : State) : Answer := .next (receiveDamage bytes s)

/-- FIELD_TIMEOUT (R167). -/
def execFieldTimeout (s : State) : Answer := .next (if s.timeoutDue then timeOut s else s)

/-- FIELD_FRAME_DISCARDED (R167). -/
def execFieldFrameDiscarded (f : Frame) (s : State) : Answer := .next (discardedFrame f s)

/-- ROLL_CHAINED_RESPONSE (R191). -/
def execRollChainedResponse (f : Frame) (s : State) : Answer := .next (rollResponse f s)

/-- ROLL_DAMAGED_RESPONSE (R191): only while a ROLL awaits responses. -/
def execRollDamagedResponse (bytes : List Byte) (s : State) : Answer :=
  match s.field.awaiting with
  | none => .next s
  | some e => .next (if e.source.isRoll then rollDamage bytes s else s)

/-- ROLL_END (R191, R192). -/
def execRollEnd (s : State) : Answer := .next (if s.rollEndDue then finishRoll s else s)

end Sys2Proof.Machine
end

