-- ==== Sys2Proof/Machine/HostFrames.lean ====
section
/-! DEFINITION. The rows of the host's frames: those the part does not take, those for the field, and the
QUERYs and SETs of tag 0, each received whole with a good CRC (R186). -/

namespace Sys2Proof.Machine

/-- UPSTREAM_FRAME_DISCARDED (R186 case 1): counted as a framing error, whatever the outgoing list holds
(log 5). -/
def execUpstreamFrameDiscarded (f : Frame) (s : State) : Answer :=
  .next (if f.isDiscardedUpstream then receiveUpstream f (fun t => t.count .upstreamFraming) s else s)

/-- BAD_KIND (R186 cases 2 to 4). -/
def execBadKind (f : Frame) (s : State) : Answer :=
  .next (if f.isBadKind then receiveUpstream f (takeBadKind f) s else s)

/-- RELAY_INTAKE (R186 case 3, R123, R172). -/
def execRelayIntake (f : Frame) (s : State) : Answer :=
  .next (if f.isRelayed then receiveUpstream f (ifListOpen (relayFrame f)) s else s)

/-- ROLL_INTAKE (R186 case 4, R191). -/
def execRollIntake (addr : ObjAddr) (payload : List Byte) (s : State) : Answer :=
  .next (receiveUpstream (rollFrame addr payload) (ifListOpen (rollIn (rollFrame addr payload))) s)

/-! ### Mode, status, clock -/

/-- SET_SERVICE (R161). -/
def execSetService (s : State) : Answer := .next (hostSet 0x0001#16 [0] s)

/-- SET_RUN (R162). -/
def execSetRun (s : State) : Answer := .next (hostSet 0x0001#16 [2] s)

/-- CLEAR_STATUS_FLAGS (R195). -/
def execClearStatusFlags (payload : List Byte) (s : State) : Answer := .next (hostSet 0x0002#16 payload s)

/-- QUERY_STATUS_FLAGS (R110, R194, R198). -/
def execQueryStatusFlags (payload : List Byte) (s : State) : Answer := .next (hostQuery 0x0002#16 payload s)

/-- CLOCK_SET (R197). -/
def execClockSet (payload : List Byte) (s : State) : Answer := .next (hostSet 0x0003#16 payload s)

/-! ### Commands to the bay -/

/-- SWAP (R155). -/
def execSwap (s : State) : Answer := .next (hostSet 0x0005#16 [1] s)

/-- SESSION_ABORT (R20, R190). -/
def execSessionAbort (argument : Byte) (s : State) : Answer := .next (hostSet 0x0018#16 [2, argument] s)

/-- ARM_STOP (R68, R190). -/
def execArmStop (argument : Byte) (s : State) : Answer := .next (hostSet 0x0018#16 [3, argument] s)

/-- ARM_RESUME (R68, R190). -/
def execArmResume (argument : Byte) (s : State) : Answer := .next (hostSet 0x0018#16 [4, argument] s)

/-- ARM_CLEAR (R67, R190). -/
def execArmClear (argument : Byte) (s : State) : Answer := .next (hostSet 0x0018#16 [5, argument] s)

/-- TURNAROUND_GAP_SET (R185). -/
def execTurnaroundGapSet (payload : List Byte) (s : State) : Answer := .next (hostSet 0x0019#16 payload s)

/-! ### Tables -/

/-- The address of an arm's configuration record (R45). -/
def configAddr (n : ArmId) : ObjAddr := BitVec.ofNat 16 (0x100 + (armNumber n - 1))

/-- ARM_CONFIGURATION_SET (R45). -/
def execArmConfigurationSet (n : ArmId) (payload : List Byte) (s : State) : Answer :=
  .next (hostSet (configAddr n) payload s)

/-- ACCEPTANCE_ENTRY_SET (R174). -/
def execAcceptanceEntrySet (index : Fin 24) (payload : List Byte) (s : State) : Answer :=
  .next (hostSet (BitVec.ofNat 16 (0x200 + index.val)) payload s)

/-- SCAN_ENTRY_SET (R165). -/
def execScanEntrySet (index : Fin 32) (payload : List Byte) (s : State) : Answer :=
  .next (hostSet (BitVec.ofNat 16 (0x300 + index.val)) payload s)

/-- The base address of a bank's tables (10, "Object map"). -/
def bankBase : Bank → Nat
  | .a => 0x1000
  | .b => 0x1800

/-- PRODUCT_SET (R147, R148). -/
def execProductSet (bank : Bank) (index : Fin 16) (payload : List Byte) (s : State) : Answer :=
  .next (hostSet (BitVec.ofNat 16 (bankBase bank + index.val)) payload s)

/-- CURVE_SET (R149, R150). -/
def execCurveSet (bank : Bank) (index : Fin 17) (payload : List Byte) (s : State) : Answer :=
  .next (hostSet (BitVec.ofNat 16 (bankBase bank + 0x100 + index.val)) payload s)

/-- RECIPE_SET (R92, R93). -/
def execRecipeSet (bank : Bank) (index : Fin 9) (payload : List Byte) (s : State) : Answer :=
  .next (hostSet (BitVec.ofNat 16 (bankBase bank + 0x200 + index.val)) payload s)

/-- PERMIT_INSERT (R23, R25). -/
def execPermitInsert (payload : List Byte) (s : State) : Answer := .next (hostSet 0x2000#16 payload s)

/-- PERMIT_REMOVE (R26). -/
def execPermitRemove (payload : List Byte) (s : State) : Answer := .next (hostSet 0x2001#16 payload s)

/-- LOOKUP_KEY_SET (R27). -/
def execLookupKeySet (payload : List Byte) (s : State) : Answer := .next (hostSet 0x2002#16 payload s)

/-- ORDER_INSERT (R30, R32). -/
def execOrderInsert (payload : List Byte) (s : State) : Answer := .next (hostSet 0x3000#16 payload s)

/-- ORDER_REMOVE (R33). -/
def execOrderRemove (payload : List Byte) (s : State) : Answer := .next (hostSet 0x3001#16 payload s)

/-- NOTE_RELEASE (R143). -/
def execNoteRelease (payload : List Byte) (s : State) : Answer := .next (hostSet 0x40F0#16 payload s)

/-! ### Reading, and any other SET -/

/-- SLOT_HEADER_QUERY (R140). -/
def execSlotHeaderQuery (slot : Fin 16) (payload : List Byte) (s : State) : Answer :=
  .next (hostQuery (BitVec.ofNat 16 (0x4000 + slot.val)) payload s)

/-- OBJECT_QUERY: a QUERY of any address (R189). -/
def execObjectQuery (addr : ObjAddr) (payload : List Byte) (s : State) : Answer := .next (hostQuery addr payload s)

/-- OTHER_OBJECT_SET: a SET of any address (R189). -/
def execOtherObjectSet (addr : ObjAddr) (payload : List Byte) (s : State) : Answer :=
  .next (hostSet addr payload s)

end Sys2Proof.Machine
end

