-- ==== Sys2Proof/Machine/Lines.lean ====
section
/-! DEFINITION. The rows of the two lines: LINE BREAK, abandoned and damaged frames, silences, and the upstream
transmitter. -/

namespace Sys2Proof.Machine

/-- LINE_BREAK on a line, with the bytes received of a frame in progress (R184). A break on a line that is
already in one changes nothing (log 3). -/
def execLineBreak (line : Line) (bytes : List Byte) (s : State) : Answer :=
  match line with
  | .upstream => .next (if s.up.inBreak || !bytesFit bytes then s else upBreak bytes s)
  | .field => .next (if s.field.inBreak || !bytesFit bytes then s else fieldBreak bytes s)

/-- LINE_BREAK_END: the line is marking again and the receiver IDLE (R184). -/
def execLineBreakEnd (line : Line) (s : State) : Answer :=
  match line with
  | .upstream =>
    .next (if s.up.inBreak then s.modUp fun u => { u with inBreak := false, rx := .idle } else s)
  | .field =>
    .next (if s.field.inBreak then s.modField fun x => { x with inBreak := false, rx := .idle } else s)

/-- FRAME_ABANDONED: a bad lead byte, length or tag (R182). -/
def execFrameAbandoned (line : Line) (bytes : List Byte) (s : State) : Answer :=
  match line with
  | .upstream => .next (receiveUpBytes bytes upAbandoned s)
  | .field => .next (receiveFieldBytes bytes fieldAbandoned s)

/-- RECEIVE_GAP_TIMEOUT: a frame is abandoned at a gap of more than 2 ms after `bytes`, or, with none, since the
last byte received; `after` is the byte that ended the gap (R182). -/
def execReceiveGapTimeout (line : Line) (bytes : List Byte) (after : Option Byte) (s : State) : Answer :=
  match line with
  | .upstream => .next (receiveUpGap bytes after s)
  | .field => .next (receiveFieldGap bytes after s)

/-- HUNT_SILENCE: more than 2 ms of silence end HUNT (R182). -/
def execHuntSilence (line : Line) (s : State) : Answer :=
  match line with
  | .upstream => .next (if s.upHuntOver then s.modUp fun u => { u with rx := .idle } else s)
  | .field => .next (if s.fieldHuntOver then s.modField fun x => { x with rx := .idle } else s)

/-- UPSTREAM_CRC_ERROR (R183). -/
def execUpstreamCrcError (bytes : List Byte) (s : State) : Answer := .next (receiveUpBytes bytes upBadCrc s)

/-- BYTE_IGNORED_WHILE_TRANSMITTING (R185). -/
def execByteIgnoredWhileTransmitting (s : State) : Answer :=
  .next (if s.up.sending.isSome && !s.up.inBreak then ignoreBytes 1 s else s)

/-- RESPONSE_TRANSMIT: the head of the outgoing list begins to be sent (R185). -/
def execResponseTransmit (s : State) : Answer := .next (if s.mayTransmit then transmitHead s else s)

/-- RESPONSE_SENT: the last byte of a response has been sent (R185, R140). -/
def execResponseSent (s : State) : Answer := .next (if s.sentWhole then endTransmission s else s)

end Sys2Proof.Machine
end

