-- ==== Sys2Proof/Machine/Rows.lean ====
section
/-! DEFINITION. The rows that received bytes come to: the row of a host frame, and the row that the end of a frame
on either line is (R182, R183, R186, R167, R191). -/

namespace Sys2Proof.Machine

/-! ### Host frames (R186) -/

/-- The row of a table with `n` entries from `base` on, by the entry an address names; `other` outside it. -/
def tableRow (addr : ObjAddr) (base n : Nat) (row : Fin n → Instr) (other : Instr) : Instr :=
  if h : base ≤ addr.toNat ∧ addr.toNat - base < n then row ⟨addr.toNat - base, h.2⟩ else other

/-- The row of the object at one address; `other` elsewhere. -/
def objectRow (addr object : ObjAddr) (row other : Instr) : Instr := if addr = object then row else other

/-- The row of a SET of the mode: SERVICE, RUN or another value (R160 to R162). -/
def modeRow (payload : List Byte) (other : Instr) : Instr :=
  if payload = [0] then .setService else if payload = [2] then .setRun else other

/-- The row of a SET of the command object (R190). -/
def commandRow (payload : List Byte) (other : Instr) : Instr :=
  match payload with
  | [code, argument] =>
    if code = 1 then .restart argument
    else if code = 2 then .sessionAbort argument
    else if code = 3 then .armStop argument
    else if code = 4 then .armResume argument
    else if code = 5 then .armClear argument
    else other
  | _ => other

/-- The row of a SET of an arm configuration. -/
def configRow (addr : ObjAddr) (payload : List Byte) (other : Instr) : Instr :=
  match armIds.find? fun n => configAddr n == addr with
  | none => other
  | some n => .armConfigurationSet n payload

/-- The row of a SET of a bank's tables. -/
def bankRow (bank : Bank) (addr : ObjAddr) (payload : List Byte) (other : Instr) : Instr :=
  tableRow addr (bankBase bank) 16 (fun i => .productSet bank i payload) <|
  tableRow addr (bankBase bank + 0x100) 17 (fun i => .curveSet bank i payload) <|
  tableRow addr (bankBase bank + 0x200) 9 (fun i => .recipeSet bank i payload) other

/-- The row of a SET to tag 0, by the object map (R186, R189). -/
def setRow (addr : ObjAddr) (payload : List Byte) : Instr :=
  let other := Instr.otherObjectSet addr payload
  objectRow addr 0x0001 (modeRow payload other) <|
  objectRow addr 0x0002 (.clearStatusFlags payload) <|
  objectRow addr 0x0003 (.clockSet payload) <|
  objectRow addr 0x0005 (if payload = [1] then .swap else other) <|
  objectRow addr 0x0018 (commandRow payload other) <|
  objectRow addr 0x0019 (.turnaroundGapSet payload) <|
  tableRow addr 0x200 24 (fun i => .acceptanceEntrySet i payload) <|
  tableRow addr 0x300 32 (fun i => .scanEntrySet i payload) <|
  objectRow addr 0x2000 (.permitInsert payload) <|
  objectRow addr 0x2001 (.permitRemove payload) <|
  objectRow addr 0x2002 (.lookupKeySet payload) <|
  objectRow addr 0x3000 (.orderInsert payload) <|
  objectRow addr 0x3001 (.orderRemove payload) <|
  objectRow addr 0x40F0 (.noteRelease payload) <|
  configRow addr payload <| bankRow .a addr payload <| bankRow .b addr payload other

/-- The row of a QUERY to tag 0. -/
def queryRow (addr : ObjAddr) (payload : List Byte) : Instr :=
  objectRow addr 0x0002 (.queryStatusFlags payload) <|
  tableRow addr 0x4000 16 (fun i => .slotHeaderQuery i payload) (.objectQuery addr payload)

/-- The row of a good frame received on the upstream line, by the first case of R186 that applies. -/
def hostRow (f : Frame) : Instr :=
  if f.isDiscardedUpstream then .upstreamFrameDiscarded f
  else if f.isBadKind then .badKind f
  else if f.isRelayed then .relayIntake f
  else if f.tag = 63 then .rollIntake f.addr f.payload
  else if f.kind = 0 then queryRow f.addr f.payload
  else setRow f.addr f.payload

/-! ### The end of a frame on a line -/

/-- What the bytes in the upstream receiver come to: a whole frame, good or not, an abandoned one, or one cut off by
a gap of more than 2 ms (R182, R183). The row finds the bytes in the receiver, and names the byte `after` that has
just ended the gap, if one has; such a byte ends HUNT by the same row. -/
def State.upRow (s : State) (after : Option Byte) : Option Instr :=
  match s.up.rx with
  | .idle => none
  | .hunt => after.map fun b => .receiveGapTimeout .upstream [] (some b)
  | .receiving bytes =>
    match rxStatus bytes with
    | .incomplete => if pastGap s.now s.up.lastByte then some (.receiveGapTimeout .upstream [] after) else none
    | .abandoned => some (.frameAbandoned .upstream [])
    | .whole good => some (if good then hostRow (frameOf bytes) else .upstreamCrcError [])
    | .overlong => none

/-- The row of a damaged frame on the field line, by the exchange that awaits a response (R167, R191). -/
def State.damageRow (s : State) : Instr :=
  match s.field.awaiting with
  | none => .fieldDamagedResponse []
  | some e => if e.source.isRoll then .rollDamagedResponse [] else .fieldDamagedResponse []

/-- The row of a whole good frame on the field line, by the exchange that awaits a response (R167, R191). -/
def State.fieldFrameRow (s : State) (f : Frame) : Instr :=
  match s.field.awaiting with
  | none => .fieldFrameDiscarded f
  | some e =>
    if e.source.isRoll then (if f.dir = .response then .rollChainedResponse f else .rollDamagedResponse [])
    else if e.accepts f then .fieldGoodResponse f
    else .fieldFrameDiscarded f

/-- What the bytes in the field receiver come to, as on the upstream line. -/
def State.fieldRow (s : State) (after : Option Byte) : Option Instr :=
  match s.field.rx with
  | .idle => none
  | .hunt => after.map fun b => .receiveGapTimeout .field [] (some b)
  | .receiving bytes =>
    match rxStatus bytes with
    | .incomplete => if pastGap s.now s.field.lastByte then some (.receiveGapTimeout .field [] after) else none
    | .abandoned => some s.damageRow
    | .whole good => some (if good then s.fieldFrameRow (frameOf bytes) else s.damageRow)
    | .overlong => none

end Sys2Proof.Machine
end

