-- ==== Sys2Proof/Machine/Tick.lean ====
section
/-! DEFINITION. What a step does on an empty queue: one microsecond passes, the bytes on their way come nearer, and
the events that have come due join the queue (log 1, 4). Events that come due together are taken in an order left
free (log 2). -/

namespace Sys2Proof.Machine

/-! ### One microsecond -/

/-- The crystal's clock (R197). -/
def Clock.advance (c : Clock) : Clock :=
  if c.us + 1 < 1000 then { c with us := c.us + 1 } else { c with us := 0, ms := c.ms + 1 }

/-- A turnaround timer, held at its end (R185). -/
def moreSilence (us : Nat) : Nat := min (us + 1) silenceMax

/-- The upstream port: the turnaround timer and the response being transmitted (R185). -/
def Upstream.advance (u : Upstream) : Upstream :=
  { u with
    sinceByte := moreSilence u.sinceByte
    sending := u.sending.map fun x => { x with left := x.left - 1 } }

/-- An exchange: while the command is being sent, the wait for its response is measured from now (R167, R197). -/
def Exchange.advance (e : Exchange) (now : Ms) : Exchange :=
  if 0 < e.toSend then { e with toSend := e.toSend - 1, waitFrom := now } else e

/-- The field line: the turnaround timer and the exchange in progress. The part's own command bytes do not break the
silence of the line (DESIGN CHOICE, log 50). -/
def FieldLine.advance (x : FieldLine) (now : Ms) : FieldLine :=
  { x with sinceByte := moreSilence x.sinceByte, exchange := x.exchange.map fun e => e.advance now }

/-- More than 2 ms have passed since the last byte, which ends the frame in progress, or HUNT: the row
RECEIVE_GAP_TIMEOUT takes a byte that comes now (R182). The time runs from the last bit of a byte to the last bit of
the next (DESIGN CHOICE, log 48). -/
def Upstream.gapOver (u : Upstream) (now : Ms) : Bool := u.rx.endsAtGap && pastGap now u.lastByte

/-- A byte received on the upstream line. In a LINE BREAK none is, while the part is transmitting it is discarded,
which BYTE_IGNORED_WHILE_TRANSMITTING counts, and after a gap RECEIVE_GAP_TIMEOUT takes it (R182, R184, R185). -/
def Upstream.hear (u : Upstream) (now : Ms) (b : Byte) : Upstream :=
  if u.inBreak || u.sending.isSome || u.gapOver now then u
  else { u with rx := u.rx.take b, sinceByte := 0, lastByte := now }

/-- The byte that has come, if one has, on the upstream line. -/
def Upstream.deliver (u : Upstream) (now : Ms) : Upstream :=
  let u1 := match wireByte u.wire with | none => u | some b => u.hear now b
  { u1 with wire := wireRest u.wire }

/-- More than 2 ms have passed since the last byte on the field line, as on the upstream line (R182, log 48). -/
def FieldLine.gapOver (x : FieldLine) (now : Ms) : Bool := x.rx.endsAtGap && pastGap now x.lastByte

/-- A byte received on the field line, unless it is in a LINE BREAK; after a gap RECEIVE_GAP_TIMEOUT takes it. -/
def FieldLine.hear (x : FieldLine) (gap : Nat) (now : Ms) (b : Byte) : FieldLine :=
  if x.inBreak || x.gapOver now then x
  else
    { x with
      rx := x.rx.take b, sinceByte := 0, lastByte := now, exchange := x.exchange.map fun e => e.hear gap now }

/-- The byte that has come, if one has, on the field line. -/
def FieldLine.deliver (x : FieldLine) (gap : Nat) (now : Ms) : FieldLine :=
  let x1 := match wireByte x.wire with | none => x | some b => x.hear gap now b
  { x1 with wire := wireRest x.wire }

/-- One microsecond passes, and the bytes that come in it are received. -/
def elapse (s : State) : State :=
  let now := s.clock.advance.ms
  (((s.modClock Clock.advance).modUp fun u => u.advance.deliver now).modField fun x =>
    (x.advance now).deliver s.up.gap now).modNotes fun x => { x with pageTimer := min (x.pageTimer + 1) 10000 }

/-- A byte comes on the upstream line in this microsecond while the part is transmitting (R185). -/
def State.byteIgnored (s : State) : Bool :=
  s.up.sending.isSome && !s.up.inBreak && (wireByte s.up.wire).isSome

/-- The byte that comes on the upstream line in this microsecond and ends a gap of more than 2 ms (R182). -/
def State.upGapByte (s : State) : Option Byte :=
  if s.up.inBreak || s.up.sending.isSome || !s.up.gapOver s.clock.advance.ms then none else wireByte s.up.wire

/-- The byte that comes on the field line in this microsecond and ends a gap of more than 2 ms (R182). -/
def State.fieldGapByte (s : State) : Option Byte :=
  if s.field.inBreak || !s.field.gapOver s.clock.advance.ms then none else wireByte s.field.wire

/-! ### The events that have come due -/

/-- An event, if it has come due. -/
def dueIf (due : Bool) (i : Instr) : List Instr := if due then [i] else []

/-- The next page of the compile is due: within 10 ms of the step before (R130). -/
def State.pageDue (s : State) : Bool :=
  match s.compiling with
  | none => false
  | some (_, x) => decide (min (Config.pageDelay (x.serial.getD 0) x.written) 10000 ≤ s.notes.pageTimer)

/-- A scan entry has come due and is not marked yet. -/
def State.scanComesDue (s : State) (i : Nat) : Bool :=
  s.scanIsDue (s.scans.getD i {}) && !(s.scans.getD i {}).dueMark

/-- A valve refresh has come due and is not marked yet. -/
def State.refreshComesDue (s : State) (n : ArmId) : Bool :=
  match s.refreshTag n with
  | none => false
  | some t => s.driveIsOld t && !(s.node t).refreshMark

/-- A slow poll has come due and is not marked yet. -/
def State.pollComesDue (s : State) (t : Tag) : Bool := s.pollIsDue t && !(s.node t).slowMark

/-- The line is free and a source is eligible (R168). -/
def State.arbiterDue (s : State) : Bool := s.field.exchange.isNone && s.choose.isSome

/-- The events of one arm. -/
def armEvents (s : State) (n : ArmId) : List Instr :=
  dueIf (s.armedOverdue n) (.armedTimeout n) ++ dueIf (s.settleOverdue n) (.settleTimeout n) ++
  dueIf (s.haltOverdue n) (.haltTimeout n) ++ dueIf (s.tempOverdue n) (.tempStale n) ++
  dueIf (s.shotOverdue n .s1) (.shotTimeout n .s1) ++ dueIf (s.shotOverdue n .s2) (.shotTimeout n .s2) ++
  dueIf (s.refreshComesDue n) (.valveRefreshDue n)

/-- The events of the bay as a whole. -/
def bayEvents (s : State) : List Instr :=
  dueIf s.silenceOver .hostLost ++ dueIf s.secondDue .terminalSecondTick ++
  dueIf s.codeOverdue .codeEntryTimeout ++ dueIf s.idleOverdue .sessionIdleTimeout ++
  dueIf s.reportOverdue .reportAgeExpiry ++ dueIf s.warningDue .deadmanWarning ++
  dueIf s.deadmanOverdue .deadmanExpiry ++ dueIf s.pageDue .notePageWrite

/-- The events of the two lines; `up` and `field` are the bytes that have just ended a gap on them, if any. -/
def lineEvents (up field : Option Byte) (s : State) : List Instr :=
  (s.upRow up).toList ++ (s.fieldRow field).toList ++
  dueIf (s.upHuntOver && up.isNone) (.huntSilence .upstream) ++
  dueIf (s.fieldHuntOver && field.isNone) (.huntSilence .field) ++
  dueIf s.mayTransmit .responseTransmit ++ dueIf s.sentWhole .responseSent ++
  dueIf s.timeoutDue .fieldTimeout ++ dueIf s.rollEndDue .rollEnd ++ dueIf s.arbiterDue .arbiterTake

/-- The scans and slow polls that have come due. -/
def pollEvents (s : State) : List Instr :=
  ((List.finRange 32).flatMap fun i => dueIf (s.scanComesDue i.val) (.scanDue i)) ++
  nodeTags.flatMap fun t => dueIf (s.pollComesDue t) (.slowPollDue t)

/-- Every event of the part's own that has come due. -/
def dueEvents (up field : Option Byte) (s : State) : List Instr :=
  bayEvents s ++ armIds.flatMap (armEvents s) ++ lineEvents up field s ++ pollEvents s

/-! ### The order of events that fall together -/

/-- Each event takes a free place among those after it (log 2). -/
def freelyOrdered (count : Nat) : List Instr → List Instr
  | [] => []
  | [i] => [i]
  | i :: j :: rest =>
    (freelyOrdered (count + 1) (j :: rest)).insertIdx
      (Config.freeOrder count % ((freelyOrdered (count + 1) (j :: rest)).length + 1)) i

/-- The idle step (log 1). A byte ignored is counted before anything else that came due (log 4). -/
def idle (s : State) : State :=
  let t := elapse s
  let due := dueEvents s.upGapByte s.fieldGapByte t
  { t with
    pending := t.pending ++ dueIf s.byteIgnored .byteIgnoredWhileTransmitting ++ freelyOrdered t.freeCount due
    freeCount := t.freeCount + due.length }

end Sys2Proof.Machine
end

