-- ==== Sys2Proof/Machine/Dispatch.lean ====
section
/-! DEFINITION. The meaning of every command, one arm each. -/

namespace Sys2Proof.Machine

def exec (i : Instr) (s : State) : Host.Outcome State Fault Refusal :=
  match i with
  | .powerOnReset => Sys2Proof.Machine.execPowerOnReset s
  | .resetInput => Sys2Proof.Machine.execResetInput s
  | .lineBreak line bytes => Sys2Proof.Machine.execLineBreak line bytes s
  | .frameAbandoned line bytes => Sys2Proof.Machine.execFrameAbandoned line bytes s
  | .receiveGapTimeout line bytes after => Sys2Proof.Machine.execReceiveGapTimeout line bytes after s
  | .huntSilence line => Sys2Proof.Machine.execHuntSilence line s
  | .upstreamCrcError bytes => Sys2Proof.Machine.execUpstreamCrcError bytes s
  | .upstreamFrameDiscarded frame => Sys2Proof.Machine.execUpstreamFrameDiscarded frame s
  | .badKind frame => Sys2Proof.Machine.execBadKind frame s
  | .relayIntake frame => Sys2Proof.Machine.execRelayIntake frame s
  | .rollIntake addr payload => Sys2Proof.Machine.execRollIntake addr payload s
  | .setService => Sys2Proof.Machine.execSetService s
  | .setRun => Sys2Proof.Machine.execSetRun s
  | .clearStatusFlags payload => Sys2Proof.Machine.execClearStatusFlags payload s
  | .queryStatusFlags payload => Sys2Proof.Machine.execQueryStatusFlags payload s
  | .clockSet payload => Sys2Proof.Machine.execClockSet payload s
  | .terminalSecondTick => Sys2Proof.Machine.execTerminalSecondTick s
  | .swap => Sys2Proof.Machine.execSwap s
  | .restart argument => Sys2Proof.Machine.execRestart argument s
  | .sessionAbort argument => Sys2Proof.Machine.execSessionAbort argument s
  | .armStop argument => Sys2Proof.Machine.execArmStop argument s
  | .armResume argument => Sys2Proof.Machine.execArmResume argument s
  | .armClear argument => Sys2Proof.Machine.execArmClear argument s
  | .turnaroundGapSet payload => Sys2Proof.Machine.execTurnaroundGapSet payload s
  | .armConfigurationSet arm payload => Sys2Proof.Machine.execArmConfigurationSet arm payload s
  | .acceptanceEntrySet index payload => Sys2Proof.Machine.execAcceptanceEntrySet index payload s
  | .scanEntrySet index payload => Sys2Proof.Machine.execScanEntrySet index payload s
  | .productSet bank index payload => Sys2Proof.Machine.execProductSet bank index payload s
  | .curveSet bank index payload => Sys2Proof.Machine.execCurveSet bank index payload s
  | .recipeSet bank index payload => Sys2Proof.Machine.execRecipeSet bank index payload s
  | .permitInsert payload => Sys2Proof.Machine.execPermitInsert payload s
  | .permitRemove payload => Sys2Proof.Machine.execPermitRemove payload s
  | .lookupKeySet payload => Sys2Proof.Machine.execLookupKeySet payload s
  | .orderInsert payload => Sys2Proof.Machine.execOrderInsert payload s
  | .orderRemove payload => Sys2Proof.Machine.execOrderRemove payload s
  | .noteRelease payload => Sys2Proof.Machine.execNoteRelease payload s
  | .slotHeaderQuery slot payload => Sys2Proof.Machine.execSlotHeaderQuery slot payload s
  | .otherObjectSet addr payload => Sys2Proof.Machine.execOtherObjectSet addr payload s
  | .responseTransmit => Sys2Proof.Machine.execResponseTransmit s
  | .responseSent => Sys2Proof.Machine.execResponseSent s
  | .hostLost => Sys2Proof.Machine.execHostLost s
  | .arbiterTake => Sys2Proof.Machine.execArbiterTake s
  | .scanDue index => Sys2Proof.Machine.execScanDue index s
  | .valveRefreshDue arm => Sys2Proof.Machine.execValveRefreshDue arm s
  | .slowPollDue tag => Sys2Proof.Machine.execSlowPollDue tag s
  | .fieldGoodResponse frame => Sys2Proof.Machine.execFieldGoodResponse frame s
  | .fieldDamagedResponse bytes => Sys2Proof.Machine.execFieldDamagedResponse bytes s
  | .fieldTimeout => Sys2Proof.Machine.execFieldTimeout s
  | .fieldFrameDiscarded frame => Sys2Proof.Machine.execFieldFrameDiscarded frame s
  | .rollChainedResponse frame => Sys2Proof.Machine.execRollChainedResponse frame s
  | .rollDamagedResponse bytes => Sys2Proof.Machine.execRollDamagedResponse bytes s
  | .rollEnd => Sys2Proof.Machine.execRollEnd s
  | .codeEntryTimeout => Sys2Proof.Machine.execCodeEntryTimeout s
  | .armedTimeout arm => Sys2Proof.Machine.execArmedTimeout arm s
  | .sessionIdleTimeout => Sys2Proof.Machine.execSessionIdleTimeout s
  | .settleTimeout arm => Sys2Proof.Machine.execSettleTimeout arm s
  | .haltTimeout arm => Sys2Proof.Machine.execHaltTimeout arm s
  | .tempStale arm => Sys2Proof.Machine.execTempStale arm s
  | .shotTimeout arm slot => Sys2Proof.Machine.execShotTimeout arm slot s
  | .reportAgeExpiry => Sys2Proof.Machine.execReportAgeExpiry s
  | .deadmanWarning => Sys2Proof.Machine.execDeadmanWarning s
  | .deadmanExpiry => Sys2Proof.Machine.execDeadmanExpiry s
  | .notePageWrite => Sys2Proof.Machine.execNotePageWrite s
  | .objectQuery addr payload => Sys2Proof.Machine.execObjectQuery addr payload s
  | .byteIgnoredWhileTransmitting => Sys2Proof.Machine.execByteIgnoredWhileTransmitting s
  | .lineBreakEnd line => Sys2Proof.Machine.execLineBreakEnd line s

end Sys2Proof.Machine
end

