-- ==== Sys2Proof/Safety.lean ====
section
/-! DEFINITION. The vocabulary of the statements: when the part can take a host frame, what a frame heard leaves,
what an answer adds, and the invariants of the part. -/

namespace Sys2Proof.Machine

/-! ### Host frames and answers -/

/-- The upstream line is marking, nothing is being transmitted, the receiver is IDLE and the outgoing list is
not full: a whole frame arriving now is taken (R182, R185). -/
def State.canHear (s : State) : Prop :=
  s.up.inBreak = false ∧ s.up.sending = none ∧ s.up.rx = .idle ∧ s.up.outgoing.length < 8

/-- The state once a whole frame has been received upstream: the time since the last byte starts anew. -/
def State.heard (s : State) : State :=
  { s with up := { s.up with rx := .idle, sinceByte := 0, lastByte := s.clock.ms } }

/-- The state once a frame to tag 0 has been received: host lost ends and the silence deadline is 30 s ahead
(R198). -/
def State.heardHost (s : State) : State :=
  { s.heard with
    status := { s.status with hostLost := false, silenceDeadline := some (s.clock.ms + BitVec.ofNat 32 30000) } }

/-- A response joins the outgoing list. -/
def State.answers (s : State) (kind : Kind) (tag : Tag) (addr : ObjAddr) (payload : List Byte) : State :=
  { s with
    up :=
      { s.up with
        outgoing := s.up.outgoing ++
          [{ frame := { dir := .response, kind := kind, tag := tag, addr := addr, payload := payload } }] } }

/-- DONE from tag 0 (R187). -/
def State.answersDone (s : State) (addr : ObjAddr) : State := s.answers 1 0 addr [s.attention]

/-- REFUSED with a reason (R187). -/
def State.answersRefused (s : State) (tag : Tag) (addr : ObjAddr) (reason : Reason) : State :=
  s.answers 2 tag addr [reason.code, s.attention]

/-- REFUSED of a table SET, with the count of records written (R187, R158, R159). -/
def State.answersRefusedAfter (s : State) (addr : ObjAddr) (reason : Reason) (written : Nat) : State :=
  s.answers 2 0 addr [reason.code, s.attention, BitVec.ofNat 8 written]

/-- DATA from tag 0 (R187). -/
def State.answersData (s : State) (addr : ObjAddr) (bytes : List Byte) : State :=
  s.answers 0 0 addr (s.attention :: bytes)

/-- A link counter and LINK ERRORS after one more event (R196). -/
def Status.linkEvent (x : Status) (c : CounterId) : Status :=
  { x with counters := x.counters.raise c 1, flags := { x.flags with linkErrors := true } }

/-! ### Invariants -/

/-- Every permit of the table passes the checks of R23, the cards ascend strictly and there are at most 512
(R24); at most 32 orders, one for a card, each with a list that R30 accepts (R31). -/
def PermitStore.ok (x : PermitStore) : Prop :=
  x.permits.length ≤ 512 ∧ x.permits.Pairwise (fun p q => p.card < q.card) ∧
  (∀ p ∈ x.permits, p.ok = true) ∧
  x.orders.length ≤ 32 ∧ (x.orders.map fun o => o.card).Nodup ∧ ∀ o ∈ x.orders, entriesOk o.entries = true

/-- LOW or FULL is the commanded position only of an arm in STARTING, FLOWING or TRIMMING (R47). -/
def State.valvesOk (s : State) : Prop :=
  ∀ n : ArmId, (s.arm n).commanded ≠ .closed → (s.armState n).isMoving = true

/-- BAY PERMIT is energized only while every condition of R121 holds. -/
def State.bayPermitOk (s : State) : Prop := s.permissive.bayPermit = true → s.bayPermitHolds = true

/-- The bounds of the lines: 8 responses, 4 relayed frames, a gap of 100 to 2,000 µs, counters of 16 bits
(R185, R172, R196); and the sizes of the tables: 64 tags, 32 scan entries, 24 acceptance entries, 16 note slots
(00 "Units", R165, R174, R126). -/
def State.linesOk (s : State) : Prop :=
  s.up.outgoing.length ≤ 8 ∧ s.relayQueue.length ≤ 4 ∧ 100 ≤ s.up.gap ∧ s.up.gap ≤ 2000 ∧
  s.nodes.length = 64 ∧ s.scans.length = 32 ∧ s.acceptance.length = 24 ∧ s.notes.slots.length = 16 ∧
  s.status.counters.upstreamCrc ≤ 65535 ∧ s.status.counters.upstreamFraming ≤ 65535 ∧
  s.status.counters.ignored ≤ 65535 ∧ s.status.counters.fieldTimeouts ≤ 65535 ∧
  s.status.counters.fieldCrc ≤ 65535 ∧ s.status.counters.implausible ≤ 65535 ∧
  s.status.counters.injector ≤ 65535 ∧ s.status.counters.lateScans ≤ 65535

/-- Every non-zero curve index of a present product names a present curve of its own bank (R147, R149). -/
def BankTables.ok (t : BankTables) : Prop :=
  ∀ p : Product, some p ∈ t.products → ∀ n : ArmId, curveNamed t (p.curve.get n) = true

/-- Both banks are self-consistent. -/
def State.banksOk (s : State) : Prop := s.banks.a.ok ∧ s.banks.b.ok

/-- At most one valve DRIVE for each arm and at most one display SET in the command queue (R169). -/
def State.cmdsOk (s : State) : Prop :=
  (∀ n : ArmId, (s.cmdQueue.filter fun c => c.isValveOf n).length ≤ 1) ∧
  (s.cmdQueue.filter Cmd.isDisplay).length ≤ 1

/-- ARMED or ACTIVE: the states in which a compartment counts as captured (R152). -/
def CompState.isCaptured : CompState → Bool
  | .pending => false
  | .armed => true
  | .active => true
  | .done => false
  | .short => false
  | .notLoaded => false

/-- The capture count of a bank is the number of ARMED or ACTIVE compartments whose bank field names it (R152). The
numbers of the compartments differ; each held arm holds a compartment of a bank, ARMED on an ARMED arm and ACTIVE on
any other; each such compartment is held by the arm it names; no arm is held outside OPEN, and the note compile runs
in ENDING only (R2, R44, R130). -/
def State.capturesOk (s : State) : Prop :=
  (∀ bank : Bank,
    s.banks.count bank =
      (s.session.comps.filter fun c => c.state.isCaptured && c.bank == some bank).length) ∧
  (s.session.comps.map fun c => c.number).Nodup ∧
  (∀ n : ArmId, (s.armState n).isHeld = true →
    s.session.state = .opened ∧
    ∃ c ∈ s.session.comps, (s.arm n).held = some c.number ∧ c.arm = some n ∧ c.bank.isSome = true ∧
      c.state = if s.armState n = .armed then .armed else .active) ∧
  (∀ c ∈ s.session.comps, c.state.isCaptured = true →
    ∃ n : ArmId, c.arm = some n ∧ (s.armState n).isHeld = true ∧ (s.arm n).held = some c.number) ∧
  (s.compiling.isSome = true → s.session.state = .ending)

/-! ### Halts, captures and the compile -/

/-- An arm once it has been halted, its set now `causes`: a STARTING, FLOWING or TRIMMING arm commands CLOSED first,
which starts its settle (R47, R57, R58). -/
def State.haltedArm (s : State) (n : ArmId) (causes : Causes) : Arm :=
  let closing : Arm :=
    if (s.armState n).isMoving then
      { s.arm n with
        commanded := .closed, closeTime := some s.clock.ms, closedSeen := false, settled := false, zeroRun := 0
        settleDeadline := some (s.clock.ms + BitVec.ofNat 32 15000) }
    else s.arm n
  { closing with
    state := .halted, causes := causes, haltEntry := some s.clock.ms
    haltDeadline := some (s.clock.ms + BitVec.ofNat 32 600000) }

/-- The compartments of the session, with flags set in those that an arm of the choice holds. -/
def State.flagged (s : State) (choice : ArmId → Bool) (f : CompFlags → CompFlags) : List Comp :=
  s.session.comps.map fun c =>
    if [ArmId.a1, .a2, .a3, .a4].any fun n => choice n && (s.arm n).held == some c.number then
      { c with flags := f c.flags }
    else c

/-- The flag HALTED (R58). -/
def CompFlags.withHalted (f : CompFlags) : CompFlags := { f with halted := true }

/-- How many arms of the choice hold a compartment whose bank field names the bank (R152). -/
def State.capturedBy (s : State) (bank : Bank) (choice : ArmId → Bool) : Nat :=
  ([ArmId.a1, .a2, .a3, .a4].filter fun n =>
    choice n && ((s.heldComp n).bind fun c => c.bank) == some bank).length

/-- No two arms hold one compartment (R44). -/
def State.holdsApart (s : State) : Prop :=
  ∀ n m : ArmId, n ≠ m → (s.arm n).held ≠ none → (s.arm n).held ≠ (s.arm m).held

/-- The note store once the compile into the session's slot has begun: UPDATING, the next serial, the written count 0,
no page written; the next serial rises by 1, modulo 2^32 (R129, R21). -/
def State.compileBegun (s : State) : NoteStore :=
  match s.notes.held with
  | none => s.notes
  | some i =>
    { s.notes with
      slots := s.notes.slots.modify i fun x =>
        { x with
          state := .updating, serial := some s.notes.nextSerial, written := 0, header := none, pages := [] }
      nextSerial := (s.notes.nextSerial + 1) % 4294967296, pageTimer := 0 }

/-! ### The field line -/

/-- The field line is marking and its receiver IDLE: a frame arriving now is received from its first byte
(R182). -/
def State.fieldListens (s : State) : Prop := s.field.inBreak = false ∧ s.field.rx = .idle

/-- An exchange awaits a response: its command has begun to be sent, so that no more time is left to it than its bytes
take (R167, R182, R183); a frame that ends while the command is being sent counts as a response (log 18). -/
def State.awaits (s : State) (e : Exchange) : Prop :=
  s.field.exchange = some e ∧ e.toSend ≤ 80 * (7 + e.frame.payload.length)

/-- No exchange awaits a response: the line is free, or the command still waits for the turnaround gap (R182, R183,
R185), which is above 0. -/
def State.awaitsNothing (s : State) : Prop :=
  ∀ e, s.field.exchange = some e → 0 < s.up.gap ∧ 80 * (7 + e.frame.payload.length) < e.toSend

/-- The field line once a frame has been received there: the time since the last byte starts anew, with the silence
that ends a ROLL in progress (R167) and the turnaround gap that a command not yet begun waits for (R185). -/
def State.fieldHeardNow (s : State) : State :=
  { s with
    field :=
      { s.field with
        sinceByte := 0
        lastByte := s.clock.ms
        exchange := s.field.exchange.map fun e =>
          { e with
            toSend :=
              if 80 * (7 + e.frame.payload.length) < e.toSend then s.up.gap + 80 * (7 + e.frame.payload.length)
              else e.toSend
            waitFrom := if e.source.isRoll then s.clock.ms else e.waitFrom } } }

/-- The field line free again at the last byte of a frame. -/
def State.lineFreed (s : State) : State :=
  { s with field := { s.field with sinceByte := 0, lastByte := s.clock.ms, exchange := none } }

/-- The score of a tag moved (R177); its state stays. -/
def State.withScore (s : State) (tag : Tag) (score : Nat) : State :=
  { s with nodes := s.nodes.set tag.toNat { s.node tag with score := score } }

/-- The start of a DRIVE to a valve at a tag is noted (R171). -/
def State.withDrive (s : State) (tag : Tag) : State :=
  { s with nodes := s.nodes.set tag.toNat { s.node tag with lastDrive := some s.clock.ms, refreshMark := false } }

/-- A scan entry starts: a late start is counted in the entry and in LATE SCANS (R166). -/
def State.withScanStarted (s : State) (i : Nat) (e : ScanEntry) : State :=
  let late := match e.lastStart with
    | none => false
    | some t => decide (2 * e.period ≤ (s.clock.ms - t).toNat)
  { s with
    status :=
      if late then
        { s.status with
          counters := { s.status.counters with lateScans := min (s.status.counters.lateScans + 1) 65535 } }
      else s.status
    scans := s.scans.set i
      { e with late := if late then min (e.late + 1) 65535 else e.late, lastStart := some s.clock.ms
               dueMark := false } }

/-- A command begins to be sent on the free field line: what is left of the turnaround gap, then 80 µs a byte
(R167, R185). -/
def State.sends (s : State) (source : Source) (f : Frame) : State :=
  { s with
    field :=
      { s.field with
        exchange := some
          { source := source, frame := f, tag := f.tag
            toSend := (s.up.gap - s.field.sinceByte) + 80 * (7 + f.payload.length) } } }

end Sys2Proof.Machine
end

