-- ==== Sys2Proof/Certificates/Slice0/Obligations.lean ====
section
/-! DEFINITION. The statements about the model, for the provers. -/

section

open Sys2Proof Sys2Proof.Machine

/-! ### The machine -/

/-- A step runs the command at the front of the queue on the state with the queue's rest. -/
def Obligations.StepRunsFrontCommand : Prop :=
  ∀ (s : State) (c : Instr) (rest : List Instr), s.pending = c :: rest →
    step s = exec c { s with pending := rest }

/-- On an empty queue one microsecond passes: the clock, the timers and the transmissions go on, a byte that has come
on a line is taken by its receiver, and the events that have come due join the queue in some order, a byte ignored
before them (the model's choice, log 1, 2 and 4). No byte is taken on a line in a LINE BREAK, nor on the upstream line
while the part is transmitting; on the field line a byte is taken while the part is sending its command too, which is
the model's choice (log 18). A byte that comes more than 2 ms after the last one to a receiver that holds the first
bytes of a frame, or stands in HUNT, is left to the row RECEIVE_GAP_TIMEOUT, which is due with it (R182; measured from
last bit to last bit, log 48, by readings of the millisecond counter, log 52). Everything else stays. -/
def Obligations.IdleStepPassesOneMicrosecond : Prop :=
  ∀ s : State, s.pending = [] →
    ∃ (t : State) (due : List Instr), step s = .next t ∧
      t.clock =
        (if s.clock.us + 1 < 1000 then { s.clock with us := s.clock.us + 1 }
         else { s.clock with us := 0, ms := s.clock.ms + 1 }) ∧
      (let up : Upstream :=
        { s.up with
          sinceByte := min (s.up.sinceByte + 1) 2001
          sending := s.up.sending.map fun x => { x with left := x.left - 1 } }
      (s.up.wire = [] → t.up = up) ∧
      ∀ x rest, s.up.wire = x :: rest →
        (1 < x.wait → t.up = { up with wire := { x with wait := x.wait - 1 } :: rest }) ∧
        (x.wait ≤ 1 → (s.up.inBreak = true ∨ s.up.sending.isSome = true) → t.up = { up with wire := rest }) ∧
        (x.wait ≤ 1 → s.up.inBreak = false → s.up.sending = none →
          let late := 2 < (t.clock.ms - s.up.lastByte).toNat ∧
            (s.up.rx = .hunt ∨ ∃ held, s.up.rx = .receiving held ∧ rxStatus held = .incomplete)
          (¬late →
            t.up = { up with wire := rest, rx := s.up.rx.take x.byte, sinceByte := 0, lastByte := t.clock.ms }) ∧
          (late → t.up = { up with wire := rest } ∧ .receiveGapTimeout .upstream [] (some x.byte) ∈ due))) ∧
      (let field : FieldLine :=
        { s.field with
          sinceByte := min (s.field.sinceByte + 1) 2001
          exchange := s.field.exchange.map fun e =>
            if 0 < e.toSend then { e with toSend := e.toSend - 1, waitFrom := t.clock.ms } else e }
      (s.field.wire = [] → t.field = field) ∧
      ∀ x rest, s.field.wire = x :: rest →
        (1 < x.wait → t.field = { field with wire := { x with wait := x.wait - 1 } :: rest }) ∧
        (x.wait ≤ 1 → s.field.inBreak = true → t.field = { field with wire := rest }) ∧
        (x.wait ≤ 1 → s.field.inBreak = false →
          let late := 2 < (t.clock.ms - s.field.lastByte).toNat ∧
            (s.field.rx = .hunt ∨ ∃ held, s.field.rx = .receiving held ∧ rxStatus held = .incomplete)
          (¬late →
            t.field =
              { ({ s with clock := t.clock, field := field } : State).fieldHeardNow.field with
                wire := rest, rx := s.field.rx.take x.byte }) ∧
          (late → t.field = { field with wire := rest } ∧ .receiveGapTimeout .field [] (some x.byte) ∈ due))) ∧
      t.notes = { s.notes with pageTimer := min (s.notes.pageTimer + 1) 10000 } ∧
      due.Perm
        (dueEvents s.upGapByte s.fieldGapByte { t with pending := [], freeCount := s.freeCount }) ∧
      ((s.up.sending.isSome = true ∧ s.up.inBreak = false ∧ ∃ x rest, s.up.wire = x :: rest ∧ x.wait ≤ 1) →
        t.pending = .byteIgnoredWhileTransmitting :: due) ∧
      (¬(s.up.sending.isSome = true ∧ s.up.inBreak = false ∧ ∃ x rest, s.up.wire = x :: rest ∧ x.wait ≤ 1) →
        t.pending = due) ∧
      t.freeCount = s.freeCount + due.length ∧
      t = { s with
        clock := t.clock, up := t.up, field := t.field, notes := t.notes
        pending := t.pending, freeCount := t.freeCount }

/-- Power-on reset and the reset input leave every piece of state at the value the table of R200 gives, whatever
stood before; the queue of commands and the model's counter of free choices stay (log 27, 28). Where the table gives
none, for the turnaround timers of the lines, the readings at their last bytes, the start of the running second and
the phase of the running millisecond (log 20), and for a line held in a LINE BREAK through the reset (log 53), the
value is the model's choice. -/
def Obligations.ResetLeavesTheTableValues : Prop :=
  (∀ s : State,
    exec .powerOnReset s = .next { State.reset with freeCount := s.freeCount, pending := s.pending } ∧
    exec .resetInput s = .next { State.reset with freeCount := s.freeCount, pending := s.pending }) ∧
  State.reset.mode = .service ∧ State.reset.status.flags = {} ∧ State.reset.status.counters = {} ∧
  State.reset.status.declared = false ∧ State.reset.status.hostLost = false ∧
  State.reset.status.silenceDeadline = some 30000 ∧ State.reset.clock.ms = 0 ∧ State.reset.clock.isSet = false ∧
  State.reset.session = {} ∧ State.reset.session.state = .vacant ∧ State.reset.session.readerTag = none ∧
  State.reset.store.permits = [] ∧ State.reset.store.key = none ∧ State.reset.store.orders = [] ∧
  State.reset.banks.active = .a ∧ State.reset.banks.countA = 0 ∧ State.reset.banks.countB = 0 ∧
  State.reset.banks.a.holdsProduct = false ∧ State.reset.banks.b.holdsProduct = false ∧
  (∀ bank : Bank,
    (∀ c ∈ (State.reset.banks.tables bank).curves, c = none) ∧
    ∀ r ∈ (State.reset.banks.tables bank).recipes, r = ⟨none, none⟩) ∧
  (∀ n : ArmId,
    State.reset.config n = {} ∧ State.reset.arm n = {} ∧ State.reset.armState n = .idle ∧
    (State.reset.arm n).anticipation = 0 ∧ (State.reset.arm n).totalizer = 0 ∧ (State.reset.arm n).trip = false ∧
    (State.reset.meter n).baseline = none ∧ (State.reset.meter n).staleDeadline = none ∧
    ∀ k : Slot, State.reset.dose n k = {}) ∧
  (∀ e ∈ State.reset.acceptance, e.kinds = 0) ∧ State.reset.acceptance.length = 24 ∧
  (∀ e ∈ State.reset.scans, e.enabled = false ∧ e.tag = 0) ∧ State.reset.scans.length = 32 ∧
  State.reset.up.gap = 500 ∧ State.reset.up.outgoing = [] ∧ State.reset.up.rx = .idle ∧
  State.reset.field.rx = .idle ∧ State.reset.permissive.deadman = .stopped ∧
  State.reset.permissive.bayPermit = false ∧ State.reset.permissive.tag = none ∧
  State.reset.permissive.last = none ∧ State.reset.permissive.ageDeadline = none ∧
  State.reset.permissive.healthy = false ∧ State.reset.permissive.deadmanBase = none ∧
  State.reset.permissive.warnAt = none ∧ State.reset.permissive.expireAt = none ∧
  (∀ x ∈ State.reset.nodes, x.score = 0 ∧ x.state = .ok) ∧
  State.reset.reader = {} ∧ State.reset.cmdQueue = [] ∧ State.reset.relayQueue = [] ∧
  (∀ x ∈ State.reset.notes.slots,
    x.state = .free ∧ x.serial = none ∧ x.isNew = false ∧ x.written = 0 ∧ x.header = none ∧ x.pages = []) ∧
  State.reset.notes.slots.length = 16 ∧
  State.reset.notes.nextSerial = 0 ∧
  State.reset.clock.us = 0 ∧ State.reset.up.inBreak = false ∧ State.reset.field.inBreak = false

/-! ### Invariants -/

/-- Reset satisfies the invariants. -/
def Obligations.ResetSatisfiesTheInvariants : Prop :=
  State.reset.store.ok ∧ State.reset.valvesOk ∧ State.reset.bayPermitOk ∧ State.reset.linesOk ∧
  State.reset.banksOk ∧ State.reset.cmdsOk ∧ State.reset.capturesOk

/-- Every step keeps the permit store as R23, R24, R30, R31 and R40 say it stands. -/
def Obligations.PermitStoreStaysInOrder : Prop :=
  ∀ s t : State, s.store.ok → step s = .next t → t.store.ok

/-- Every step keeps LOW and FULL to the arms in STARTING, FLOWING or TRIMMING (R47). -/
def Obligations.OpenValvesOnlyOnMovingArms : Prop :=
  ∀ s t : State, s.valvesOk → step s = .next t → t.valvesOk

/-- Every step keeps BAY PERMIT within the conditions of R121: RUN, the permissive node not LOST, the
emergency stop released, no valve trip. -/
def Obligations.BayPermitOnlyWhileItsConditionsHold : Prop :=
  ∀ s t : State, s.bayPermitOk → step s = .next t → t.bayPermitOk

/-- Every step keeps the bounds of the lines and the counters, and the sizes of the tables (R126, R165, R172, R174,
R185, R196); and it keeps the command queue to at most one valve DRIVE for each arm and at most one display SET
(R169). -/
def Obligations.LinesStayWithinTheirBounds : Prop :=
  (∀ s t : State, s.linesOk → step s = .next t → t.linesOk) ∧
  ∀ s t : State, s.cmdsOk → step s = .next t → t.cmdsOk

/-- Every step keeps each bank self-consistent (R147, R149); and it keeps the capture count of each bank the number of
ARMED or ACTIVE compartments whose bank field names it, each of them held by one arm, and no arm held outside OPEN
(R152, R2, R44). -/
def Obligations.BanksStaySelfConsistent : Prop :=
  (∀ s t : State, s.banksOk → step s = .next t → t.banksOk) ∧
  ∀ s t : State, s.store.ok → s.capturesOk → step s = .next t → t.capturesOk

/-- No step but a reset writes a bank that is active or captured (R153). -/
def Obligations.ActiveOrCapturedBankIsNotWritten : Prop :=
  ∀ (s t : State) (bank : Bank),
    s.pending.head? ≠ some .powerOnReset → s.pending.head? ≠ some .resetInput →
    (s.banks.active = bank ∨ 0 < s.banks.count bank) → step s = .next t →
    t.banks.tables bank = s.banks.tables bank

/-! ### Receivers and line breaks (R182 to R184) -/

/-- A LINE BREAK upstream empties the relay queue and the outgoing list, stops the transmission and mutes the field
exchange in progress; bytes that fell into a transmission are counted first (log 34). On the field line it touches
neither queue: a frame being received becomes a damaged response of the exchange that awaits one, and is dropped when
none does; bytes received start the time since the last byte anew. That an exchange awaits a response once its command
has begun to be sent is the model's choice (log 18). The end of a break leaves the receiver IDLE. -/
def Obligations.LineBreaksDiscardTheFrame : Prop :=
  ∀ (s : State) (bytes : List Byte), bytes.length ≤ 55 →
    (s.up.inBreak = false →
      ∃ t : State, exec (.lineBreak .upstream bytes) s = .next t ∧
        t.relayQueue = [] ∧ t.up.outgoing = [] ∧ t.up.sending = none ∧ t.up.rx = .idle ∧ t.up.inBreak = true ∧
        t.up.gap = s.up.gap ∧
        t.field = { s.field with exchange := s.field.exchange.map fun e => { e with muted := true } } ∧
        t.status =
          (if s.up.sending.isSome = true ∧ bytes ≠ [] then (s.countBy .ignored bytes.length).status else s.status) ∧
        t = { s with relayQueue := [], up := t.up, field := t.field, status := t.status }) ∧
    (let heard := (if bytes = [] then s else s.fieldHeardNow).field
    (s.field.inBreak = false →
      (s.awaitsNothing ∨ s.field.rx = .hunt ∨ s.field.rx.bytes ++ bytes = []) →
      exec (.lineBreak .field bytes) s = .next { s with field := { heard with rx := .idle, inBreak := true } }) ∧
    ∀ e : Exchange, s.field.inBreak = false → s.field.rx ≠ .hunt →
      rxStatus (s.field.rx.bytes ++ bytes) = .incomplete → s.field.rx.bytes ++ bytes ≠ [] →
      s.awaits e → e.dropped = false →
      (∀ i, e.source = .scan i → isNodeTag e.tag = true → s.nodes.length = 64 → (s.node e.tag).score < 36 →
        (s.node e.tag).state = .ok →
        exec (.lineBreak .field bytes) s = .next
          { s.withScore e.tag ((s.node e.tag).score + 4) with
            field := { heard with rx := .idle, inBreak := true, exchange := none }
            status := s.status.linkEvent .fieldCrc }) ∧
      ∀ relayed damaged x, e.source = .roll relayed damaged → heard.exchange = some x →
        exec (.lineBreak .field bytes) s = .next
          { s with
            field :=
              { heard with
                rx := .idle, inBreak := true, exchange := some { x with source := .roll relayed (damaged + 1) } }
            status := s.status.linkEvent .fieldCrc }) ∧
    (s.up.inBreak = true →
      exec (.lineBreakEnd .upstream) s = .next { s with up := { s.up with inBreak := false, rx := .idle } }) ∧
    (s.field.inBreak = true →
      exec (.lineBreakEnd .field) s = .next { s with field := { s.field with inBreak := false, rx := .idle } })

/-- An abandoned frame is counted upstream and sends the receiver to HUNT, which more than 2 ms of silence end; a
frame abandoned at a gap leaves the receiver IDLE with the byte that ended the gap as byte 0, and so is a frame whose
bytes the receiver holds once its line has been silent for more than 2 ms. On the field line neither is counted when no
exchange awaits a response: the line is free, or the command still waits for the turnaround gap (log 18); in an exchange
that awaits one an abandoned frame is a damaged response. That only received bytes break the silence that ends HUNT is
the model's choice (log 42, 50), and that more than 2 ms are a difference of 3 in the millisecond counter its reading of
R197 (log 52). -/
def Obligations.AbandonedFramesAreCountedAndHunted : Prop :=
  ∀ (s : State) (bytes : List Byte) (b : Byte), bytes.length ≤ 55 →
    (rxStatus bytes = .abandoned →
      (s.up.inBreak = false → s.up.sending = none → s.up.rx = .idle →
        exec (.frameAbandoned .upstream bytes) s = .next
          { s with
            up := { s.up with rx := .hunt, sinceByte := 0, lastByte := s.clock.ms }
            status := s.status.linkEvent .upstreamFraming }) ∧
      (s.fieldListens → s.awaitsNothing →
        exec (.frameAbandoned .field bytes) s = .next
          { s with field := { s.fieldHeardNow.field with rx := .hunt } }) ∧
      (s.field.rx = .idle → exec (.frameAbandoned .field bytes) s = exec (.fieldDamagedResponse bytes) s)) ∧
    (rxStatus bytes = .incomplete → bytes ≠ [] → b.toNat % 16 = 0 →
      (s.up.inBreak = false → s.up.sending = none → s.up.rx = .idle →
        exec (.receiveGapTimeout .upstream bytes none) s = .next
          { s with
            up := { s.up with rx := .idle, sinceByte := 2001, lastByte := s.clock.ms - 3 }
            status := s.status.linkEvent .upstreamFraming } ∧
        exec (.receiveGapTimeout .upstream bytes (some b)) s = .next
          { s with
            up := { s.up with rx := .receiving [b], sinceByte := 0, lastByte := s.clock.ms }
            status := s.status.linkEvent .upstreamFraming }) ∧
      (s.fieldListens → s.awaitsNothing →
        exec (.receiveGapTimeout .field bytes none) s = .next
          { s with
            field :=
              { s.field with
                sinceByte := 2001, lastByte := s.clock.ms - 3
                exchange := s.field.exchange.map fun e =>
                  { e with waitFrom := if e.source.isRoll then s.clock.ms - 3 else e.waitFrom } } } ∧
        exec (.receiveGapTimeout .field bytes (some b)) s = .next
          { s with field := { s.fieldHeardNow.field with rx := .receiving [b] } })) ∧
    (∀ held, rxStatus held = .incomplete → held ≠ [] →
      (s.up.inBreak = false → s.up.sending = none → s.up.rx = .receiving held →
        (2 < (s.clock.ms - s.up.lastByte).toNat →
          exec (.receiveGapTimeout .upstream [] none) s = .next
            { s with
              up := { s.up with rx := .idle }
              status := s.status.linkEvent .upstreamFraming }) ∧
        ((s.clock.ms - s.up.lastByte).toNat ≤ 2 → exec (.receiveGapTimeout .upstream [] none) s = .next s)) ∧
      (s.field.inBreak = false → s.field.rx = .receiving held → s.awaitsNothing →
        (2 < (s.clock.ms - s.field.lastByte).toNat →
          exec (.receiveGapTimeout .field [] none) s = .next { s with field := { s.field with rx := .idle } }) ∧
        ((s.clock.ms - s.field.lastByte).toNat ≤ 2 → exec (.receiveGapTimeout .field [] none) s = .next s))) ∧
    (s.up.inBreak = false → s.up.rx = .hunt → 2 < (s.clock.ms - s.up.lastByte).toNat →
      exec (.huntSilence .upstream) s = .next { s with up := { s.up with rx := .idle } }) ∧
    (s.field.inBreak = false → s.field.rx = .hunt → 2 < (s.clock.ms - s.field.lastByte).toNat →
      exec (.huntSilence .field) s = .next { s with field := { s.field with rx := .idle } })

/-- Upstream, a whole frame with a bad CRC, a frame the part does not take and a byte received while it transmits
are counted and not answered (R183, R185, R186). A frame not taken is counted so with a full outgoing list too (log 5),
and a byte ignored restarts the turnaround timer (log 34): both are the model's reading. -/
def Obligations.BadUpstreamTrafficIsCountedUnanswered : Prop :=
  ∀ (s : State) (bytes : List Byte) (f : Frame), s.up.inBreak = false →
    (s.up.sending = none → s.up.rx = .idle →
      (bytes.length ≤ 55 → rxStatus bytes = .whole false →
        exec (.upstreamCrcError bytes) s = .next
          { s with
            up := { s.up with rx := .idle, sinceByte := 0, lastByte := s.clock.ms }
            status := s.status.linkEvent .upstreamCrc }) ∧
      (f.payload.length ≤ 48 → (f.dir = .response ∨ (4 ≤ f.kind.toNat ∧ f.tag ≠ 0)) →
        exec (.upstreamFrameDiscarded f) s = .next
          { s with
            up := { s.up with rx := .idle, sinceByte := 0, lastByte := s.clock.ms }
            status := s.status.linkEvent .upstreamFraming })) ∧
    (∀ x : Sending, s.up.sending = some x →
      exec .byteIgnoredWhileTransmitting s = .next
        { s with
          up := { s.up with ignored := true, sinceByte := 0, lastByte := s.clock.ms }
          status := s.status.linkEvent .ignored })

/-- The bytes of a frame the part sends, 7 with those of its payload, are read back as that frame, whole and good
(R182, R183); the CRC of the nine characters 1 to 9 is 0x29B1; and bytes are abandoned exactly at a lead byte with any
of bits 3 to 0 set, a length above 48 or a tag above 63. What the bytes in a receiver come to is the row that takes them
there: upstream by the cases of R186 and the object map, each SET and QUERY being that of its address; on the field line
by the exchange that awaits a response (R167, R191), which it does once its command has begun to be sent (log 18). Bytes
of a frame that is not whole come to a row after more than 2 ms, a difference of 3 in the millisecond counter (R182,
R197; the model's reading, log 52). -/
def Obligations.SentFramesAreReceivedGood : Prop :=
  (∀ f : Frame, f.payload.length ≤ 48 →
    rxStatus (frameWire f) = .whole true ∧ (frameWire f).length = 7 + f.payload.length ∧
    commandBit (frameWire f) = (f.dir == .command) ∧ frameOf (frameWire f) = f) ∧
  crc16 [0x31, 0x32, 0x33, 0x34, 0x35, 0x36, 0x37, 0x38, 0x39] = 0x29B1#16 ∧
  (∀ bytes : List Byte,
    rxStatus bytes = .abandoned ↔
      ((∃ b, bytes[0]? = some b ∧ b.toNat % 16 ≠ 0) ∨ (∃ b, bytes[1]? = some b ∧ 48 < b.toNat) ∨
        ∃ b, bytes[2]? = some b ∧ 63 < b.toNat)) ∧
  (∀ (s : State) (held : List Byte) (after : Option Byte),
    let f := frameOf held
    (s.up.rx = .receiving held →
      (rxStatus held = .whole true → s.upRow after = some (hostRow f)) ∧
      (rxStatus held = .whole false → s.upRow after = some (.upstreamCrcError [])) ∧
      (rxStatus held = .abandoned → s.upRow after = some (.frameAbandoned .upstream [])) ∧
      (rxStatus held = .incomplete →
        s.upRow after =
          if 2 < (s.clock.ms - s.up.lastByte).toNat then some (.receiveGapTimeout .upstream [] after) else none)) ∧
    (s.field.rx = .receiving held →
      (rxStatus held = .incomplete →
        s.fieldRow after =
          if 2 < (s.clock.ms - s.field.lastByte).toNat then some (.receiveGapTimeout .field [] after) else none) ∧
      (s.awaitsNothing →
        (rxStatus held = .whole true → s.fieldRow after = some (.fieldFrameDiscarded f)) ∧
        (rxStatus held = .whole false ∨ rxStatus held = .abandoned →
          s.fieldRow after = some (.fieldDamagedResponse []))) ∧
      ∀ e, s.awaits e →
        (e.source.isRoll = true →
          (rxStatus held = .whole true →
            s.fieldRow after =
              some (if f.dir = .response then .rollChainedResponse f else .rollDamagedResponse [])) ∧
          (rxStatus held = .whole false ∨ rxStatus held = .abandoned →
            s.fieldRow after = some (.rollDamagedResponse []))) ∧
        (e.source.isRoll = false →
          (rxStatus held = .whole true →
            s.fieldRow after =
              some
                (if f.dir = .response ∧ f.tag = e.tag then .fieldGoodResponse f else .fieldFrameDiscarded f)) ∧
          (rxStatus held = .whole false ∨ rxStatus held = .abandoned →
            s.fieldRow after = some (.fieldDamagedResponse []))))) ∧
  (∀ f : Frame,
    ((f.dir = .response ∨ 4 ≤ f.kind.toNat ∧ f.tag ≠ 0) → hostRow f = .upstreamFrameDiscarded f) ∧
    (f.dir = .command →
      ((f.tag = 0 ∧ 2 ≤ f.kind.toNat ∨ f.tag = 63 ∧ f.kind.toNat ≤ 2 ∨ f.tag ≠ 0 ∧ f.tag ≠ 63 ∧ f.kind = 3) →
        hostRow f = .badKind f) ∧
      (f.tag ≠ 0 → f.tag ≠ 63 → f.kind.toNat ≤ 2 → hostRow f = .relayIntake f) ∧
      (f.tag = 63 → f.kind = 3 → hostRow f = .rollIntake f.addr f.payload) ∧
      (f.tag = 0 → f.kind = 0 → hostRow f = queryRow f.addr f.payload) ∧
      (f.tag = 0 → f.kind = 1 → hostRow f = setRow f.addr f.payload)) ∧
    ∀ s : State, s.up.inBreak = false → s.up.sending = none → f.payload.length ≤ 48 →
      exec (hostRow f) { s with up := { s.up with rx := .receiving (frameWire f) } } =
        exec (hostRow f) { s with up := { s.up with rx := .idle } }) ∧
  (∀ (s : State) (addr : ObjAddr) (payload : List Byte),
    exec (setRow addr payload) s = exec (.otherObjectSet addr payload) s ∧
    exec (queryRow addr payload) s = exec (.objectQuery addr payload) s) ∧
  setRow 0x0001 [0] = .setService ∧ setRow 0x0001 [2] = .setRun ∧ setRow 0x0005 [1] = .swap ∧
  (∀ argument : Byte,
    setRow 0x0018 [1, argument] = .restart argument ∧ setRow 0x0018 [2, argument] = .sessionAbort argument ∧
    setRow 0x0018 [3, argument] = .armStop argument ∧ setRow 0x0018 [4, argument] = .armResume argument ∧
    setRow 0x0018 [5, argument] = .armClear argument) ∧
  ∀ payload : List Byte,
    queryRow 0x0002 payload = .queryStatusFlags payload ∧
    (∀ i : Fin 16, queryRow (BitVec.ofNat 16 (0x4000 + i.val)) payload = .slotHeaderQuery i payload) ∧
    setRow 0x0002 payload = .clearStatusFlags payload ∧ setRow 0x0003 payload = .clockSet payload ∧
    setRow 0x0019 payload = .turnaroundGapSet payload ∧
    (∀ n : ArmId,
      setRow (BitVec.ofNat 16 (0x100 + (armNumber n - 1))) payload = .armConfigurationSet n payload) ∧
    (∀ i : Fin 24, setRow (BitVec.ofNat 16 (0x200 + i.val)) payload = .acceptanceEntrySet i payload) ∧
    (∀ i : Fin 32, setRow (BitVec.ofNat 16 (0x300 + i.val)) payload = .scanEntrySet i payload) ∧
    (∀ bank : Bank,
      let base := match bank with | .a => 0x1000 | .b => 0x1800
      (∀ i : Fin 16, setRow (BitVec.ofNat 16 (base + i.val)) payload = .productSet bank i payload) ∧
      (∀ i : Fin 17, setRow (BitVec.ofNat 16 (base + 0x100 + i.val)) payload = .curveSet bank i payload) ∧
      ∀ i : Fin 9, setRow (BitVec.ofNat 16 (base + 0x200 + i.val)) payload = .recipeSet bank i payload) ∧
    setRow 0x2000 payload = .permitInsert payload ∧ setRow 0x2001 payload = .permitRemove payload ∧
    setRow 0x2002 payload = .lookupKeySet payload ∧ setRow 0x3000 payload = .orderInsert payload ∧
    setRow 0x3001 payload = .orderRemove payload ∧ setRow 0x40F0 payload = .noteRelease payload

/-! ### The transmitter (R185) -/

/-- The head of the outgoing list is transmitted, and its end leaves the receiver in HUNT if bytes were
discarded meanwhile; a header read that has been sent clears the NEW mark of a slot still FILLED with its
serial (R140). That the head leaves the list when its transmission begins (log 6), and that a receiver that stood in
HUNT during a transmission in which no byte was discarded stays in HUNT (log 42), are the model's choices. -/
def Obligations.ResponsesAreSentInOrder : Prop :=
  ∀ (s : State) (r : Outgoing) (rest : List Outgoing),
    (s.up.sending = none → s.up.outgoing = r :: rest → s.up.rx = .idle → s.up.gap ≤ s.up.sinceByte →
      exec .responseTransmit s = .next
        { s with
          up :=
            { s.up with
              outgoing := rest, ignored := false
              sending := some { response := r, left := 80 * (7 + r.frame.payload.length) } } }) ∧
    (s.up.sending = some { response := { r with header := none }, left := 0 } →
      exec .responseSent s = .next
        { s with
          up := { s.up with sending := none, ignored := false, rx := if s.up.ignored then .hunt else s.up.rx } }) ∧
    (∀ (i serial : Nat), s.up.sending = some { response := { r with header := some (i, serial) }, left := 0 } →
      ∃ t : State, exec .responseSent s = .next t ∧ t.up.sending = none ∧
        (∀ x, s.notes.slots[i]? = some x → x.state = .filled → x.serial = some serial →
          t.notes.slots[i]? = some { x with isNew := false }) ∧
        (∀ x, s.notes.slots[i]? = some x → ¬(x.state = .filled ∧ x.serial = some serial) →
          t.notes.slots[i]? = some x) ∧
        (∀ j, j ≠ i → t.notes.slots[j]? = s.notes.slots[j]?) ∧
        t = { s with up := t.up, notes := { s.notes with slots := t.notes.slots } })

/-! ### Host frames (R186) -/

/-- A frame whose kind does not suit its tag is answered REFUSED BAD KIND; one to tag 0 also reaches the host
silence monitor. The refusal carries the frame's own tag and address, and tag 63 where it answers a ROLL (R187, R191);
that this holds of a ROLL to tag 0 and to tags 1 to 62 too is read from R187's exception (log 14). -/
def Obligations.WrongKindIsRefused : Prop :=
  ∀ (s : State) (f : Frame), s.canHear → f.payload.length ≤ 48 → f.dir = .command →
    (f.tag = 0 → 2 ≤ f.kind.toNat → f.kind ≠ 3 →
      exec (.badKind f) s = .next (s.heardHost.answersRefused 0 f.addr .badKind)) ∧
    (f.tag = 0 → f.kind = 3 →
      exec (.badKind f) s = .next (s.heardHost.answersRefused 63 f.addr .badKind)) ∧
    (f.tag = 63 → f.kind.toNat ≤ 2 →
      exec (.badKind f) s = .next (s.heard.answersRefused 63 f.addr .badKind)) ∧
    (f.tag ≠ 0 → f.tag ≠ 63 → f.kind = 3 →
      exec (.badKind f) s = .next (s.heard.answersRefused 63 f.addr .badKind))

/-- A host command for a field node meets the gate of R123 and then the capacity of the relay queue (R172): one that
passes the gate is queued, or refused BUSY when 4 frames are queued. -/
def Obligations.RelayIntakeGatesThenQueues : Prop :=
  ∀ (s : State) (f : Frame) (c : FrameClass),
    s.canHear → f.payload.length ≤ 48 → f.dir = .command → f.kind.toNat ≤ 2 → f.tag ≠ 0 → f.tag ≠ 63 →
    classify s.acceptance f = c →
    (c.action ≠ .actuator → c.action ≠ .block → s.relayQueue.length < 4 →
      exec (.relayIntake f) s = .next { s.heard with relayQueue := s.relayQueue ++ [{ frame := f, cls := c }] }) ∧
    (c.action ≠ .actuator → c.action ≠ .block → 4 ≤ s.relayQueue.length →
      exec (.relayIntake f) s = .next (s.heard.answersRefused f.tag f.addr .busy)) ∧
    (∀ n : ArmId, c.action = .actuator → c.arm = some n →
      (s.armState n ≠ .idle ∧ s.armState n ≠ .blocked ∨ s.permissive.healthy = false) →
      exec (.relayIntake f) s = .next (s.heard.answersRefused f.tag f.addr .interlocked)) ∧
    (∀ n : ArmId, c.action = .actuator → c.arm = some n → (s.armState n = .idle ∨ s.armState n = .blocked) →
      s.permissive.healthy = true → s.relayQueue.length < 4 →
      exec (.relayIntake f) s = .next { s.heard with relayQueue := s.relayQueue ++ [{ frame := f, cls := c }] }) ∧
    (c.action = .block → s.mode ≠ .service →
      exec (.relayIntake f) s = .next (s.heard.answersRefused f.tag f.addr .interlocked)) ∧
    (c.action = .block → s.mode = .service → s.relayQueue.length < 4 →
      exec (.relayIntake f) s = .next { s.heard with relayQueue := s.relayQueue ++ [{ frame := f, cls := c }] }) ∧
    (∀ n : ArmId, c.action = .actuator → c.arm = some n → (s.armState n = .idle ∨ s.armState n = .blocked) →
      s.permissive.healthy = true → 4 ≤ s.relayQueue.length →
      exec (.relayIntake f) s = .next (s.heard.answersRefused f.tag f.addr .busy)) ∧
    (c.action = .block → s.mode = .service → 4 ≤ s.relayQueue.length →
      exec (.relayIntake f) s = .next (s.heard.answersRefused f.tag f.addr .busy))

/-- A ROLL is refused BAY ACTIVE while an arm moves product, BUSY when the relay queue is full, and is queued
otherwise (R191). -/
def Obligations.RollIsRefusedOrQueued : Prop :=
  ∀ (s : State) (addr : ObjAddr) (payload : List Byte), s.canHear → payload.length ≤ 48 →
    ((∃ n : ArmId, (s.armState n).isActive = true) →
      exec (.rollIntake addr payload) s = .next (s.heard.answersRefused 63 addr .bayActive)) ∧
    ((∀ n : ArmId, (s.armState n).isActive = false) → 4 ≤ s.relayQueue.length →
      exec (.rollIntake addr payload) s = .next (s.heard.answersRefused 63 addr .busy)) ∧
    ((∀ n : ArmId, (s.armState n).isActive = false) → s.relayQueue.length < 4 →
      exec (.rollIntake addr payload) s = .next
        { s.heard with
          relayQueue := s.relayQueue ++
            [{ frame := { dir := .command, kind := 3, tag := 63, addr := addr, payload := payload }, cls := {} }] })

/-! ### Mode, status and clock -/

/-- A request for SERVICE: RUN becomes SERVICE with the session VACANT and SERVICE PENDING otherwise, BAY
PERMIT is de-energized and each moving arm is halted with DRIVER STOP, its compartment flagged HALTED (R161, R69, R58);
in the other modes nothing changes; each is answered DONE. -/
def Obligations.ServiceRequestLeavesRun : Prop :=
  ∀ s : State, s.canHear →
    (s.mode ≠ .run → exec .setService s = .next (s.heardHost.answersDone 1)) ∧
    (s.mode = .run →
      ∃ t : State, exec .setService s = .next t ∧
        t.mode = (if s.session.state = .vacant then .service else .servicePending) ∧
        t.permissive = { s.permissive with bayPermit := false } ∧
        (∀ n : ArmId, (s.armState n).isMoving = true →
          t.arm n = s.haltedArm n { (s.arm n).causes with driverStop := true }) ∧
        (∀ n : ArmId, (s.armState n).isMoving = false → t.arm n = s.arm n) ∧
        t.session =
          { s.session with comps := s.flagged (fun n => (s.armState n).isMoving) CompFlags.withHalted } ∧
        t.up =
          { s.heardHost.up with
            outgoing := s.up.outgoing ++
              [{ frame := { dir := .response, kind := 1, tag := 0, addr := 1, payload := [t.attention] } }] } ∧
        t = { s.heardHost with
          mode := t.mode, permissive := t.permissive, arms := t.arms, session := t.session
          cmdQueue := t.cmdQueue, up := t.up })

/-- A request for RUN (R162): from SERVICE when the clock is set, an arm names a meter and a valve, a scan
entry is enabled and the active bank holds a product; always from SERVICE PENDING. -/
def Obligations.RunRequestNeedsItsConditions : Prop :=
  ∀ s : State, s.canHear →
    let ready :=
      s.clock.isSet = true ∧
      (∃ n : ArmId, (s.config n).meter.isSome = true ∧ (s.config n).valve.isSome = true) ∧
      (∃ e ∈ s.scans, e.enabled = true) ∧ (s.banks.tables s.banks.active).holdsProduct = true
    ((s.mode = .service ∧ ready ∨ s.mode = .servicePending) →
      ∃ t : State, exec .setRun s = .next t ∧ t.mode = .run ∧
        t.permissive = { s.permissive with bayPermit := t.permissive.bayPermit } ∧
        (t.permissive.bayPermit = true ↔
          s.permissiveNodeUp = true ∧ (∃ r, s.permissive.last = some r ∧ r.estop = true) ∧
          ∀ n : ArmId, (s.arm n).trip = false) ∧
        t = ({ s.heardHost with mode := .run, permissive := t.permissive } : State).answersDone 1) ∧
    (s.mode = .service → ¬ready → exec .setRun s = .next (s.heardHost.answersRefused 0 1 .outOfRange)) ∧
    (s.mode = .run → exec .setRun s = .next (s.heardHost.answersDone 1))

/-- The status flags written clear (R195): a flag whose bit is 1 is left set only by its standing condition;
one whose bit is 0 stays. -/
def Obligations.ClearedFlagsStandWithTheirConditions : Prop :=
  ∀ (s : State) (hi lo : Byte), s.canHear →
    ∃ t : State, exec (.clearStatusFlags [hi, lo]) s = .next t ∧
      t.status.flags.noteReady = (if lo.getLsbD 0 then s.unreadNote else s.status.flags.noteReady) ∧
      t.status.flags.nodeLost =
        (if lo.getLsbD 1 then s.nodes.any (fun x => x.state == .lost) else s.status.flags.nodeLost) ∧
      t.status.flags.unassignedFlow = (!lo.getLsbD 2 && s.status.flags.unassignedFlow) ∧
      t.status.flags.lockout = (!lo.getLsbD 3 && s.status.flags.lockout) ∧
      t.status.flags.additiveFault = (!lo.getLsbD 4 && s.status.flags.additiveFault) ∧
      (t.status.flags.valveFault = true ↔
        (if lo.getLsbD 5 then (∃ n : ArmId, (s.arm n).trip = true) else s.status.flags.valveFault = true)) ∧
      (t.status.flags.meterFault = true ↔
        (if lo.getLsbD 6 then
          (∃ n : ArmId, s.armState n = .blocked ∧ (s.arm n).blockCause = some .meter)
        else s.status.flags.meterFault = true)) ∧
      t.status.flags.hostLost = (!lo.getLsbD 7 && s.status.flags.hostLost) ∧
      t.status.flags.linkErrors = (!hi.getLsbD 0 && s.status.flags.linkErrors) ∧
      t = ({ s.heardHost with status := { s.heardHost.status with flags := t.status.flags } } : State).answersDone 2

/-- The status flags read: flags, permissive fields and BAY PERMIT as they stand, then the declared mark is
cleared (R110, R194, R198). The attention summary in every response has bit 0 for an unread note, bit 1 for any
flag, bit 2 for the declared mark and bit 3 outside RUN (R188). A QUERY of the mode, the clock, the next serial, the
counters, the session record summary, an arm's status and the turnaround gap is answered with each as it stands (R160,
R197, R129, R196, R1, R46, R185), in the layouts and codes of 10 ("Record layouts"); what stands in the summary at the
places of an absent card or order reference is left open (log 16). -/
def Obligations.StatusReadsAsItStands : Prop :=
  ∀ s : State,
    (s.canHear →
      exec (.queryStatusFlags []) s = .next
        (let a := s.heardHost.answersData 2
          (beBytes 2 s.status.flags.value ++
            [BitVec.ofNat 8
                (match s.permissive.last with
                  | none => 0
                  | some r => bitsValue [r.ground, r.dry, r.hose, r.estop]),
              if s.permissive.healthy then 1 else 0, BitVec.ofNat 8 (deadmanCode s.permissive.deadman),
              if s.permissive.bayPermit then 1 else 0])
         { a with status := { a.status with declared := false } })) ∧
    (s.attention.getLsbD 0 = s.notes.slots.any fun x => x.state == .filled && x.isNew) ∧
    (s.attention.getLsbD 1 = true ↔ s.status.flags ≠ {}) ∧
    s.attention.getLsbD 2 = s.status.declared ∧
    (s.attention.getLsbD 3 = true ↔ s.mode ≠ .run) ∧ s.attention.toNat < 16 ∧
    (s.canHear →
      let answers (addr : ObjAddr) (data : List Byte) : Prop :=
        exec (.objectQuery addr []) s = .next (s.heardHost.answersData addr data)
      let x := s.status.counters
      answers 0x0001 [match s.mode with | .service => 0 | .servicePending => 1 | .run => 2] ∧
      answers 0x0003
        ((if s.clock.isSet then 1 else 0) :: (beBytes 2 s.clock.day ++ beBytes 3 s.clock.second ++
          beBytes 4 s.clock.ms.toNat)) ∧
      answers 0x0004 (beBytes 4 s.notes.nextSerial) ∧
      answers 0x0006
        (beBytes 2 x.upstreamCrc ++ beBytes 2 x.upstreamFraming ++ beBytes 2 x.ignored ++ beBytes 2 x.fieldTimeouts ++
          beBytes 2 x.fieldCrc ++ beBytes 2 x.implausible ++ beBytes 2 x.injector ++ beBytes 2 x.lateScans) ∧
      (∃ key : List Byte,
        answers 0x0008
          ((match s.session.state with | .vacant => 0 | .codeEntry => 1 | .opened => 2 | .ending => 3) :: key ++
            BitVec.ofNat 8 s.session.comps.length :: s.session.comps.flatMap fun c =>
              [BitVec.ofNat 8 c.number,
                match c.state with
                  | .pending => 0 | .armed => 1 | .active => 2 | .done => 3 | .short => 4 | .notLoaded => 5]) ∧
        key.length = 9 ∧
        ∀ card ref, s.session.card = some card → s.session.orderRef = some ref →
          key = cardBytes card ++ beBytes 4 ref) ∧
      answers 0x0019 (beBytes 2 s.up.gap) ∧
      ∀ n : ArmId,
        let a := s.arm n
        answers (BitVec.ofNat 16 (0x10 + (armNumber n - 1)))
          (([match a.state with
              | .idle => 0 | .armed => 1 | .starting => 2 | .flowing => 3 | .trimming => 4 | .closing => 5
              | .halted => 6 | .blocked => 7,
            BitVec.ofNat 8 (a.held.getD 0),
            BitVec.ofNat 8 (bitsValue
              [a.causes.driverStop, a.causes.permissive, a.causes.deadman, a.causes.tempStale, a.causes.additive,
                a.causes.injectorLost, a.causes.hostStop]),
            match a.blockCause with | none => 0 | some .meter => 1 | some .valve => 2,
            if a.settled then 1 else 0,
            match a.commanded with | .closed => 0 | .low => 1 | .full => 2] : List Byte) ++
          (match a.lastValve with
            | none => [0xFF, 0xFF]
            | some r =>
              ([match r.position with | .closed => 0 | .low => 1 | .full => 2 | .moving => 3,
                if r.coupler then 1 else 0] : List Byte)) ++
          [if a.trip then 1 else 0] ++ beBytes 2 a.anticipation ++ beBytes 5 a.totalizer ++ beBytes 5 a.unassigned))

/-- The clock is set by a day and a second up to 86,399; the millisecond counter is untouched. From then on
terminal time advances by one second each 1,000 ms, and the day after second 86,399 (R197). -/
def Obligations.ClockIsSetAndAdvances : Prop :=
  ∀ (s : State) (payload : List Byte),
    (s.canHear → payload.length = 5 → fieldNat payload 2 3 ≤ 86399 →
      exec (.clockSet payload) s = .next
        (({ s.heardHost with
            clock :=
              { s.clock with
                isSet := true, day := fieldNat payload 0 2, second := fieldNat payload 2 3
                secondBase := s.clock.ms } } : State).answersDone 3)) ∧
    (s.canHear → payload.length = 5 → 86399 < fieldNat payload 2 3 →
      exec (.clockSet payload) s = .next (s.heardHost.answersRefused 0 3 .outOfRange)) ∧
    (s.canHear → payload.length ≤ 48 → payload.length ≠ 5 →
      exec (.clockSet payload) s = .next (s.heardHost.answersRefused 0 3 .badLength)) ∧
    (s.clock.isSet = true → 1000 ≤ (s.clock.ms - s.clock.secondBase).toNat →
      (s.clock.second < 86399 →
        exec .terminalSecondTick s = .next
          { s with
            clock := { s.clock with second := s.clock.second + 1, secondBase := s.clock.secondBase + 1000 } }) ∧
      (s.clock.second = 86399 →
        exec .terminalSecondTick s = .next
          { s with
            clock :=
              { s.clock with
                second := 0, day := (s.clock.day + 1) % 65536, secondBase := s.clock.secondBase + 1000 } }))

/-- Host lost is declared once when the silence deadline is reached; an OPEN session carries HOST LOST DURING
(R198, R19). -/
def Obligations.HostSilenceIsDeclared : Prop :=
  ∀ (s : State) (d : Ms), s.status.silenceDeadline = some d → (s.clock.ms - d).toNat < 2147483648 →
    exec .hostLost s = .next
      { s with
        status :=
          { s.status with
            hostLost := true, declared := true, silenceDeadline := none
            flags := { s.status.flags with hostLost := true } }
        session :=
          if s.session.state = .opened then { s.session with hostLostDuring := true } else s.session }

/-! ### Commands to the bay -/

/-- The bank control object: read, it gives the active bank, both capture counts and the number of present products
of each bank; SWAP makes the inactive bank active when it holds a product and is refused OUT OF RANGE otherwise; any
other command value is refused OUT OF RANGE and changes nothing (R154, R155). -/
def Obligations.BankControlReadsAndSwaps : Prop :=
  ∀ s : State, s.canHear →
    exec (.objectQuery 5 []) s = .next
      (s.heardHost.answersData 5
        [if s.banks.active = .a then 1 else 2, BitVec.ofNat 8 s.banks.countA, BitVec.ofNat 8 s.banks.countB,
          BitVec.ofNat 8 (s.banks.a.products.filter Option.isSome).length,
          BitVec.ofNat 8 (s.banks.b.products.filter Option.isSome).length]) ∧
    ((∃ p, some p ∈ (s.banks.tables (otherBank s.banks.active)).products) →
      exec .swap s = .next
        (({ s.heardHost with banks := { s.banks with active := otherBank s.banks.active } } : State).answersDone 5)) ∧
    ((¬∃ p, some p ∈ (s.banks.tables (otherBank s.banks.active)).products) →
      exec .swap s = .next (s.heardHost.answersRefused 0 5 .outOfRange)) ∧
    exec (.otherObjectSet 5 [1]) s = exec .swap s ∧
    ∀ value : Byte, value ≠ 1 →
      exec (.otherObjectSet 5 [value]) s = .next (s.heardHost.answersRefused 0 5 .outOfRange)

/-- RESTART is refused with an argument, and outside SERVICE or with a session (R190, R199); otherwise it leaves the
state the table of R199 gives. The emptied outgoing list then holds a REFUSED BUSY for the host frame of the exchange in
progress, if its answer is still owed, one for each frame of the relay queue, and the DONE. That the exchange's frame
comes first (log 11), that the BUSY answers too are formed after the RESTART (log 46), and that the start gross of an
arm, which the table does not list, becomes 0 (log 45), are the model's choices. -/
def Obligations.RestartKeepsWhatTheHostLoaded : Prop :=
  ∀ s : State, s.canHear →
    (∀ argument : Byte, argument ≠ 0 →
      exec (.restart argument) s = .next (s.heardHost.answersRefused 0 0x18 .outOfRange)) ∧
    ((s.mode ≠ .service ∨ s.session.state ≠ .vacant) →
      exec (.restart 0) s = .next (s.heardHost.answersRefused 0 0x18 .wrongState)) ∧
    (s.mode = .service → s.session.state = .vacant → s.relayQueue.length ≤ 4 →
      ∃ t : State, exec (.restart 0) s = .next t ∧
        t.mode = .service ∧ t.session = { s.session with readerTag := none } ∧
        t.store = { s.store with orders := [] } ∧ t.banks = { s.banks with countA := 0, countB := 0 } ∧
        t.configs = s.configs ∧ t.acceptance = s.acceptance ∧ t.notes = s.notes ∧ t.clock = s.clock ∧
        (∀ n : ArmId,
          t.arm n =
            { anticipation := (s.config n).initialAnt * 1000, totalizer := (s.arm n).totalizer
              unassigned := (s.arm n).unassigned } ∧
          t.meter n =
            { staleDeadline :=
                if (s.config n).temp.isSome then some (s.clock.ms + BitVec.ofNat 32 10000) else none } ∧
          ∀ k : Slot, t.dose n k = {}) ∧
        t.scans = s.scans.map (fun e => { e with lastStart := none, late := 0, dueMark := false }) ∧
        t.permissive = {} ∧ (∀ x ∈ t.nodes, x = {}) ∧ t.reader = {} ∧ t.cmdQueue = [] ∧ t.relayQueue = [] ∧
        t.status.counters = {} ∧ t.status.hostLost = false ∧ t.status.declared = false ∧
        t.status.silenceDeadline = s.heardHost.status.silenceDeadline ∧
        t.status.flags = { noteReady := s.unreadNote } ∧
        t.field =
          { s.field with rx := .idle, exchange := s.field.exchange.map fun e => { e with dropped := true } } ∧
        (let inLine : List Frame :=
          match s.field.exchange with
          | none => []
          | some e =>
            if (e.source = .relay ∨ e.source.isRoll = true) ∧ e.muted = false ∧ e.dropped = false then [e.frame]
            else []
        t.up =
          { s.heardHost.up with
            rx := .idle, sending := none, ignored := false
            outgoing :=
              ((inLine ++ s.relayQueue.map fun r => r.frame).map fun f =>
                { frame :=
                    { dir := .response, kind := 2, tag := f.tag, addr := f.addr
                      payload := [Reason.busy.code, t.attention] } }) ++
              [{ frame := { dir := .response, kind := 1, tag := 0, addr := 0x18, payload := [t.attention] } }] }))

/-- SESSION ABORT by session state (R20), refused OUT OF RANGE with an argument (R190). In CODE ENTRY the session
returns to VACANT (R1, R163). In OPEN it sets HOST ABORT, gives the ARMED arms back, makes what is then PENDING NOT
LOADED, halts the active arms with HOST STOP, adds HOST STOP to a HALTED arm and releases one that has settled, its
compartment SHORT with its closing totalizer; the capture counts fall by what was given back and released. With no arm
left held the session enters ENDING and the compile begins (R21, R129). It is answered DONE. Where one compartment's
end or a capture count is stated, no two arms hold one compartment (R44). -/
def Obligations.SessionAbortEndsTheSession : Prop :=
  ∀ s : State, s.canHear →
    (∀ argument : Byte, argument ≠ 0 →
      exec (.sessionAbort argument) s = .next (s.heardHost.answersRefused 0 0x18 .outOfRange)) ∧
    ((s.session.state = .vacant ∨ s.session.state = .ending ∨
        s.session.state = .opened ∧ s.session.hostAbort = true) →
      exec (.sessionAbort 0) s = .next (s.heardHost.answersRefused 0 0x18 .wrongState)) ∧
    (s.session.state = .codeEntry →
      exec (.sessionAbort 0) s = .next
        (({ s.heardHost with
            session := { readerTag := s.session.readerTag }, notes := { s.notes with held := none }
            mode := if s.mode = .servicePending then .service else s.mode
            permissive :=
              if s.mode = .servicePending then { s.permissive with bayPermit := false } else s.permissive } :
                State).answersDone 0x18)) ∧
    (s.session.state = .opened → s.session.hostAbort = false →
      let releases (n : ArmId) : Bool :=
        (s.armState n == .closing || s.armState n == .halted) && (s.arm n).settled
      ∃ t : State, exec (.sessionAbort 0) s = .next t ∧
        (∀ n : ArmId,
          (s.armState n = .armed →
            t.arm n = { s.arm n with state := .idle, held := none, armedDeadline := none }) ∧
          ((s.armState n).isMoving = true ∨ s.armState n = .closing ∧ (s.arm n).settled = false →
            t.arm n = s.haltedArm n { (s.arm n).causes with hostStop := true }) ∧
          (s.armState n = .halted → (s.arm n).settled = false →
            t.arm n = { s.arm n with causes := { (s.arm n).causes with hostStop := true } }) ∧
          (∀ c, releases n = true → s.heldComp n = some c →
            t.arm n =
              { s.arm n with
                state := .idle, held := none, causes := {}, blockCause := none, closeTime := none
                haltEntry := none, settleDeadline := none, haltDeadline := none, closedSeen := false
                settled := false, zeroRun := 0 } ∧
            ∃ x ∈ t.session.comps, x.number = c.number ∧ x.state = .short ∧ x.flags.short = true ∧
              (c.closing = none → s.holdsApart → x.closing = some (s.arm n).totalizer)) ∧
          (s.armState n = .idle ∨ s.armState n = .blocked → t.arm n = s.arm n) ∧
          (releases n = false → ∀ k, t.dose n k = s.dose n k) ∧
          ∀ c, (s.armState n).isActive = true → s.heldComp n = some c →
            ∃ x ∈ t.session.comps, x.number = c.number ∧ x.flags.halted = true) ∧
        (∀ c ∈ t.session.comps, c.state ≠ .pending) ∧
        (∀ c ∈ s.session.comps, c.state = .pending → (∀ n, (s.arm n).held ≠ some c.number) →
          { c with state := .notLoaded } ∈ t.session.comps) ∧
        (s.holdsApart →
          (∀ n c, s.armState n = .armed → s.heldComp n = some c →
            { c with state := .notLoaded, arm := none, bank := none, additive := ⟨none, none⟩ } ∈
              t.session.comps) ∧
          t.banks =
            { s.banks with
              countA := s.banks.countA - s.capturedBy .a fun n => s.armState n == .armed || releases n
              countB := s.banks.countB - s.capturedBy .b fun n => s.armState n == .armed || releases n }) ∧
        ((∀ n : ArmId, (t.armState n).isHeld = false) →
          t.session.state = .ending ∧ t.session.closeTime = some (s.clock.day, s.clock.second) ∧
          t.session.idleBase = none ∧ t.notes = s.compileBegun) ∧
        ((∃ n : ArmId, (t.armState n).isHeld = true) →
          t.session.state = .opened ∧ t.session.closeTime = s.session.closeTime ∧ t.notes = s.notes) ∧
        t.session =
          { s.session with
            hostAbort := true, state := t.session.state, closeTime := t.session.closeTime
            comps := t.session.comps, idleBase := t.session.idleBase } ∧
        t.banks.a = s.banks.a ∧ t.banks.b = s.banks.b ∧ t.banks.active = s.banks.active ∧
        t.up =
          { s.heardHost.up with
            outgoing := s.up.outgoing ++
              [{ frame := { dir := .response, kind := 1, tag := 0, addr := 0x18, payload := [t.attention] } }] } ∧
        t = { s.heardHost with
          arms := t.arms, session := t.session, banks := t.banks, dosing := t.dosing, notes := t.notes
          cmdQueue := t.cmdQueue, status := t.status, up := t.up })

/-- ARM STOP offers HOST STOP to a loading arm and ARM RESUME removes it from a HALTED one (R68); ARM CLEAR makes a
BLOCKED arm IDLE, its trip clear, when its valve node is OK and last reported CLOSED (R67); each is refused WRONG STATE
otherwise, and OUT OF RANGE when its argument names no arm (R190). A cause offered to an arm is taken so (R57, R58): an
active arm halts, closing first if it moves, and its compartment is flagged HALTED; a HALTED arm adds the cause; the
cause PERMISSIVE also flags the compartment of either; any other arm discards it. -/
def Obligations.ArmCommandsNeedTheirStates : Prop :=
  (∀ (s : State) (n : ArmId), s.canHear →
      ((s.armState n).isLoading = true →
        ∃ t : State, exec (.armStop (BitVec.ofNat 8 (armNumber n))) s = .next t ∧
          t.armState n = .halted ∧ (t.arm n).causes = { (s.arm n).causes with hostStop := true } ∧
          (t.arm n).held = (s.arm n).held ∧ (∀ m : ArmId, m ≠ n → t.arm m = s.arm m) ∧
          ((s.armState n).isActive = true →
            t = ({ s.heardHost with
              arms := s.arms.set n (s.haltedArm n { (s.arm n).causes with hostStop := true })
              session := { s.session with comps := s.flagged (fun m => m == n) CompFlags.withHalted }
              cmdQueue :=
                if (s.armState n).isMoving then (queueValve n .closed s).cmdQueue else s.cmdQueue } :
                State).answersDone 0x18) ∧
          (s.armState n = .halted →
            t = ({ s.heardHost with
              arms := s.arms.set n { s.arm n with causes := { (s.arm n).causes with hostStop := true } } } :
                State).answersDone 0x18)) ∧
      ((s.armState n).isLoading = false →
        exec (.armStop (BitVec.ofNat 8 (armNumber n))) s = .next (s.heardHost.answersRefused 0 0x18 .wrongState)) ∧
      (s.armState n = .halted → (s.arm n).causes.hostStop = true →
        exec (.armResume (BitVec.ofNat 8 (armNumber n))) s = .next
          (({ s.heardHost with
              arms := s.arms.set n { s.arm n with causes := { (s.arm n).causes with hostStop := false } } } :
                State).answersDone 0x18)) ∧
      ((s.armState n ≠ .halted ∨ (s.arm n).causes.hostStop = false) →
        exec (.armResume (BitVec.ofNat 8 (armNumber n))) s = .next (s.heardHost.answersRefused 0 0x18 .wrongState))) ∧
  (∀ (s : State) (n : ArmId), s.canHear →
      let proven :=
        s.armState n = .blocked ∧ (∃ tag, (s.config n).valve = some tag ∧ s.nodeOk tag = true) ∧
        ∃ r, (s.arm n).lastValve = some r ∧ r.position = .closed
      (proven →
        ∃ t : State, exec (.armClear (BitVec.ofNat 8 (armNumber n))) s = .next t ∧
          t.arm n = { s.arm n with state := .idle, blockCause := none, trip := false } ∧
          (∀ m : ArmId, m ≠ n → t.arm m = s.arm m) ∧
          t.permissive = { s.permissive with bayPermit := t.bayPermitHolds } ∧
          t = ({ s.heardHost with arms := t.arms, permissive := t.permissive } : State).answersDone 0x18) ∧
      (¬proven →
        exec (.armClear (BitVec.ofNat 8 (armNumber n))) s = .next (s.heardHost.answersRefused 0 0x18 .wrongState)) ∧
      (∀ argument : Byte, (argument.toNat = 0 ∨ 4 < argument.toNat) →
        exec (.armClear argument) s = .next (s.heardHost.answersRefused 0 0x18 .outOfRange) ∧
        exec (.armStop argument) s = .next (s.heardHost.answersRefused 0 0x18 .outOfRange) ∧
        exec (.armResume argument) s = .next (s.heardHost.answersRefused 0 0x18 .outOfRange))) ∧
  ∀ (s : State) (n : ArmId) (cause : Cause),
    let causes : Causes :=
      match cause with
      | .driverStop => { (s.arm n).causes with driverStop := true }
      | .permissive => { (s.arm n).causes with permissive := true }
      | .deadman => { (s.arm n).causes with deadman := true }
      | .tempStale => { (s.arm n).causes with tempStale := true }
      | .additive => { (s.arm n).causes with additive := true }
      | .injectorLost => { (s.arm n).causes with injectorLost := true }
      | .hostStop => { (s.arm n).causes with hostStop := true }
    let flag (f : CompFlags) : CompFlags := if cause = .permissive then { f with permissive := true } else f
    ((s.armState n).isActive = true →
      offerCause n cause s =
        { s with
          arms := s.arms.set n (s.haltedArm n causes)
          session :=
            { s.session with comps := s.flagged (fun m => m == n) fun f => (flag f).withHalted }
          cmdQueue := if (s.armState n).isMoving then (queueValve n .closed s).cmdQueue else s.cmdQueue }) ∧
    (s.armState n = .halted →
      offerCause n cause s =
        { s with
          arms := s.arms.set n { s.arm n with causes := causes }
          session := { s.session with comps := s.flagged (fun m => m == n) flag } }) ∧
    ((s.armState n).isLoading = false → offerCause n cause s = s)

/-! ### Tables -/

/-- An accepted arm configuration replaces the arm's whole and resets its anticipation, residue, last valve
report, metering and dosing records; the other arms stay (R45, R70, R94). A record is accepted exactly when its fields
lie in their ranges, its tags in 1 to 62 and no two of the tags present are the same. A QUERY is answered with the
configuration as it stands (R45, and its layout in 10). -/
def Obligations.ConfigurationWriteResetsItsArm : Prop :=
  ∀ (s : State) (n : ArmId) (payload : List Byte) (c : ArmConfig),
    s.canHear → payload.length = 17 →
    let tag (u : Option Tag) : Byte := match u with | none => 0 | some v => v.setWidth 8
    let record (x : ArmConfig) : List Byte :=
      [tag x.meter, tag x.temp, tag x.valve, tag x.injector.s1, tag x.injector.s2] ++ beBytes 4 x.kFactor ++
        beBytes 2 x.maxFlow ++ beBytes 2 x.startVolume ++ beBytes 2 x.trimVolume ++
        [BitVec.ofNat 8 x.initialAnt, BitVec.ofNat 8 x.overrunLimit]
    (readConfig payload = some c ↔
      payload = record c ∧
      (let tags := [c.meter, c.temp, c.valve, c.injector.s1, c.injector.s2].filterMap id
       tags.Nodup ∧ ∀ u ∈ tags, 1 ≤ u.toNat ∧ u.toNat ≤ 62) ∧
      1000 ≤ c.kFactor ∧ c.kFactor ≤ 500000 ∧ 100 ≤ c.maxFlow ∧ c.maxFlow ≤ 5000 ∧ 50 ≤ c.startVolume ∧
      c.startVolume ≤ 500 ∧ 50 ≤ c.trimVolume ∧ c.trimVolume ≤ 1000 ∧ c.initialAnt ≤ 50 ∧
      5 ≤ c.overrunLimit ∧ c.overrunLimit ≤ 200) ∧
    (s.mode = .service → readConfig payload = some c →
      ∃ t : State, exec (.armConfigurationSet n payload) s = .next t ∧
        t.config n = c ∧
        t.arm n =
          { s.arm n with anticipation := c.initialAnt * 1000, unassignedRes := 0, lastValve := none } ∧
        t.meter n =
          { staleDeadline := if c.temp.isSome then some (s.clock.ms + BitVec.ofNat 32 10000) else none } ∧
        (∀ k : Slot, t.dose n k = {}) ∧
        (∀ m : ArmId, m ≠ n →
          t.config m = s.config m ∧ t.arm m = s.arm m ∧ t.meter m = s.meter m ∧ ∀ k : Slot, t.dose m k = s.dose m k) ∧
        t = ({ s.heardHost with configs := t.configs, arms := t.arms, metering := t.metering, dosing := t.dosing } :
          State).answersDone (BitVec.ofNat 16 (0x100 + (armNumber n - 1)))) ∧
    (s.mode = .service → readConfig payload = none →
      exec (.armConfigurationSet n payload) s = .next
        (s.heardHost.answersRefusedAfter (BitVec.ofNat 16 (0x100 + (armNumber n - 1))) .outOfRange 0)) ∧
    (s.mode ≠ .service →
      exec (.armConfigurationSet n payload) s = .next
        (s.heardHost.answersRefusedAfter (BitVec.ofNat 16 (0x100 + (armNumber n - 1))) .notInService 0)) ∧
    exec (.objectQuery (BitVec.ofNat 16 (0x100 + (armNumber n - 1))) []) s = .next
      (s.heardHost.answersData (BitVec.ofNat 16 (0x100 + (armNumber n - 1))) (record (s.config n)))

/-- In SERVICE an accepted acceptance or scan entry replaces the old one whole, and a gap of 100 to 2,000 µs the old
gap, for a field command that has not begun as well; a record that fails is refused OUT OF RANGE; outside SERVICE each
is refused NOT IN SERVICE (R164, R165, R174, R185). An acceptance entry is accepted exactly when it is all zero but for
PASS, or its kind set is not empty, its values lie within their masks, and it names an arm and an injector slot just
where its action takes one (R174); a scan entry when it is all zero, or its tag lies in 1 to 62, its period in 50 to
5,000 and its class is FAST or NORMAL (R165). A QUERY of an entry is answered with the entry as it stands, a scan entry
with its late count and the score and state of its node (R165, R174). How long a command waits for the gap in advance
is the model's choice (log 18). -/
def Obligations.EntriesAndGapAreWrittenInService : Prop :=
  ∀ (s : State) (i : Fin 24) (j : Fin 32) (a b g : List Byte),
    s.canHear → a.length = 11 → b.length = 7 → g.length = 2 →
    let entry (x : AcceptanceEntry) : List Byte :=
      ([match x.dir with | .response => 0 | .command => 1 | .either => 2, x.kinds.setWidth 8,
        x.tagVal.setWidth 8, x.tagMask.setWidth 8] : List Byte) ++ beBytes 2 x.objVal.toNat ++
      beBytes 2 x.objMask.toNat ++
      ([match x.cls.action with
          | .meterCount => 0 | .temperature => 1 | .valveStatus => 2 | .injectorReport => 3 | .permissive => 4
          | .reader => 5 | .actuator => 6 | .block => 7 | .pass => 8,
        match x.cls.arm with | none => 0 | some .a1 => 1 | some .a2 => 2 | some .a3 => 3 | some .a4 => 4,
        match x.cls.slot with | none => 0 | some .s1 => 1 | some .s2 => 2] : List Byte)
    let scan (y : ScanEntry) : List Byte :=
      y.tag.setWidth 8 :: (beBytes 2 y.addr.toNat ++ beBytes 2 y.period ++
        ([match y.cls with | .empty => 0 | .fast => 1 | .normal => 2, if y.enabled then 1 else 0] : List Byte))
    (∀ x, readAcceptance a = some x ↔
      a = entry x ∧
        (x = {} ∨
          x.kinds ≠ 0 ∧ x.tagVal &&& ~~~x.tagMask = 0 ∧ x.objVal &&& ~~~x.objMask = 0 ∧
          (x.cls.arm.isSome = true ↔
            x.cls.action = .meterCount ∨ x.cls.action = .temperature ∨ x.cls.action = .valveStatus ∨
            x.cls.action = .injectorReport ∨ x.cls.action = .actuator) ∧
          (x.cls.slot.isSome = true ↔ x.cls.action = .injectorReport))) ∧
    (∀ y, readScan b = some y ↔
      b = scan y ∧ y.lastStart = none ∧ y.late = 0 ∧ y.dueMark = false ∧
        (y = {} ∨
          1 ≤ y.tag.toNat ∧ y.tag.toNat ≤ 62 ∧ 50 ≤ y.period ∧ y.period ≤ 5000 ∧ y.cls ≠ .empty)) ∧
    (s.mode = .service →
      (∀ x, readAcceptance a = some x →
        exec (.acceptanceEntrySet i a) s = .next
          (({ s.heardHost with acceptance := s.acceptance.set i.val x } : State).answersDone
            (BitVec.ofNat 16 (0x200 + i.val)))) ∧
      (readAcceptance a = none →
        exec (.acceptanceEntrySet i a) s = .next
          (s.heardHost.answersRefusedAfter (BitVec.ofNat 16 (0x200 + i.val)) .outOfRange 0)) ∧
      (∀ y, readScan b = some y →
        exec (.scanEntrySet j b) s = .next
          (({ s.heardHost with scans := s.scans.set j.val y } : State).answersDone
            (BitVec.ofNat 16 (0x300 + j.val)))) ∧
      (readScan b = none →
        exec (.scanEntrySet j b) s = .next
          (s.heardHost.answersRefusedAfter (BitVec.ofNat 16 (0x300 + j.val)) .outOfRange 0)) ∧
      (100 ≤ fieldNat g 0 2 → fieldNat g 0 2 ≤ 2000 →
        exec (.turnaroundGapSet g) s = .next
          (({ s.heardHost with
              up := { s.heardHost.up with gap := fieldNat g 0 2 }
              field :=
                { s.field with
                  exchange := s.field.exchange.map fun e =>
                    { e with
                      toSend :=
                        if 80 * (7 + e.frame.payload.length) < e.toSend then
                          (fieldNat g 0 2 - s.field.sinceByte) + 80 * (7 + e.frame.payload.length)
                        else e.toSend } } } : State).answersDone 0x19)) ∧
      ((fieldNat g 0 2 < 100 ∨ 2000 < fieldNat g 0 2) →
        exec (.turnaroundGapSet g) s = .next (s.heardHost.answersRefused 0 0x19 .outOfRange))) ∧
    (s.mode ≠ .service →
      exec (.acceptanceEntrySet i a) s = .next
        (s.heardHost.answersRefusedAfter (BitVec.ofNat 16 (0x200 + i.val)) .notInService 0) ∧
      exec (.scanEntrySet j b) s = .next
        (s.heardHost.answersRefusedAfter (BitVec.ofNat 16 (0x300 + j.val)) .notInService 0) ∧
      exec (.turnaroundGapSet g) s = .next (s.heardHost.answersRefused 0 0x19 .notInService)) ∧
    (∀ x : AcceptanceEntry, s.acceptance[i.val]? = some x →
      exec (.objectQuery (BitVec.ofNat 16 (0x200 + i.val)) []) s = .next
        (s.heardHost.answersData (BitVec.ofNat 16 (0x200 + i.val)) (entry x))) ∧
    (∀ y : ScanEntry, s.scans[j.val]? = some y →
      exec (.objectQuery (BitVec.ofNat 16 (0x300 + j.val)) []) s = .next
        (s.heardHost.answersData (BitVec.ofNat 16 (0x300 + j.val))
          (scan y ++ beBytes 2 y.late ++
          ([BitVec.ofNat 8 (s.node y.tag).score,
            match (s.node y.tag).state with | .ok => 0 | .degraded => 1 | .lost => 2] : List Byte))))

/-- One product, curve or recipe record is written to a bank that is neither active nor captured, or refused OUT OF
RANGE there when it fails its checks; to another bank the SET is refused BANK ACTIVE or BANK IN USE (R147, R149, R92,
R153). A SET to the index-0 address of a bank table is refused READ ONLY with the count 0, whatever the bank and the
payload (R158). A product is accepted exactly when its code is its address's, and it is absent with zeros or its fields
lie in their ranges and each curve it names is present in its bank (R147); a curve when it has no point and no product
of its bank names it, or 2 to 6 points, the rest of the record unread, in their ranges with rising rates (R149); a
recipe when each slot is absent with zeros or in its ranges (R92). A QUERY of either bank is answered with the record
as it stands; an absent product reads with its code and zeros, and an absent curve, an absent recipe slot and each
record of index 0 read zeros (R148, R150, R93). -/
def Obligations.BankRecordsAreWrittenToAFreeBank : Prop :=
  ∀ (s : State) (bank : Bank) (i : Fin 16) (j : Fin 17) (k : Fin 9) (p c r : List Byte),
    s.canHear → p.length = 10 → c.length = 25 → r.length = 14 → i ≠ 0 → j ≠ 0 → k ≠ 0 →
    let product (y : Product) : List Byte :=
      [BitVec.ofNat 8 i.val, 1, BitVec.ofNat 8 y.cls] ++ beBytes 2 y.beta ++
        [BitVec.ofNat 8 y.recipe, BitVec.ofNat 8 y.curve.a1, BitVec.ofNat 8 y.curve.a2,
          BitVec.ofNat 8 y.curve.a3, BitVec.ofNat 8 y.curve.a4]
    let curve (points : List CurvePoint) : List Byte :=
      BitVec.ofNat 8 points.length ::
        points.flatMap fun y => beBytes 2 y.rate ++ beBytes 2 (y.factor - 90000)
    let slot (x : Option RecipeSlot) : List Byte :=
      match x with
      | none => List.replicate 7 0
      | some y =>
        BitVec.ofNat 8 y.code :: (beBytes 2 y.ratio ++ beBytes 3 y.shot ++ [BitVec.ofNat 8 y.tolerance])
    (readProduct (s.banks.tables bank) i.val p = some none ↔ p = BitVec.ofNat 8 i.val :: List.replicate 9 0) ∧
    (∀ y, readProduct (s.banks.tables bank) i.val p = some (some y) ↔
      p = product y ∧ y.cls ≤ 15 ∧ y.beta ≤ 1500 ∧ y.recipe ≤ 8 ∧
        ∀ n : ArmId, y.curve.get n = 0 ∨ y.curve.get n ≤ 16 ∧
          ∃ points, (s.banks.tables bank).curves[y.curve.get n - 1]? = some (some points)) ∧
    (readCurve (s.banks.tables bank) j.val c = some none ↔
      c.head? = some 0 ∧
        ∀ y, some y ∈ (s.banks.tables bank).products → ∀ n : ArmId, y.curve.get n ≠ j.val) ∧
    (∀ points, readCurve (s.banks.tables bank) j.val c = some (some points) ↔
      (∃ rest, c = curve points ++ rest) ∧ 2 ≤ points.length ∧ points.length ≤ 6 ∧
        (∀ y ∈ points, y.rate ≤ 9999 ∧ 90000 ≤ y.factor ∧ y.factor ≤ 110000) ∧
        points.Pairwise fun x y => x.rate < y.rate) ∧
    (∀ x, readRecipe r = some x ↔
      r = slot x.s1 ++ slot x.s2 ∧
        ∀ (m : Slot) (y : RecipeSlot), x.get m = some y →
          1 ≤ y.code ∧ y.code ≤ 255 ∧ 1 ≤ y.ratio ∧ y.ratio ≤ 5000 ∧ 5000 ≤ y.shot ∧ y.shot ≤ 100000 ∧
          1 ≤ y.tolerance ∧ y.tolerance ≤ 20) ∧
    (s.banks.active ≠ bank → s.banks.count bank = 0 →
      (∀ x, readProduct (s.banks.tables bank) i.val p = some x →
        ∃ t : State, exec (.productSet bank i p) s = .next t ∧
          t.banks = s.banks.setTables bank
            { s.banks.tables bank with products := (s.banks.tables bank).products.set (i.val - 1) x } ∧
          t = ({ s.heardHost with banks := t.banks } : State).answersDone
            (BitVec.ofNat 16 (bankBase bank + i.val))) ∧
      (∀ x, readCurve (s.banks.tables bank) j.val c = some x →
        ∃ t : State, exec (.curveSet bank j c) s = .next t ∧
          t.banks = s.banks.setTables bank
            { s.banks.tables bank with curves := (s.banks.tables bank).curves.set (j.val - 1) x } ∧
          t = ({ s.heardHost with banks := t.banks } : State).answersDone
            (BitVec.ofNat 16 (bankBase bank + 0x100 + j.val))) ∧
      (∀ x, readRecipe r = some x →
        ∃ t : State, exec (.recipeSet bank k r) s = .next t ∧
          t.banks = s.banks.setTables bank
            { s.banks.tables bank with recipes := (s.banks.tables bank).recipes.set (k.val - 1) x } ∧
          t = ({ s.heardHost with banks := t.banks } : State).answersDone
            (BitVec.ofNat 16 (bankBase bank + 0x200 + k.val))) ∧
      (readProduct (s.banks.tables bank) i.val p = none →
        exec (.productSet bank i p) s = .next
          (s.heardHost.answersRefusedAfter (BitVec.ofNat 16 (bankBase bank + i.val)) .outOfRange 0)) ∧
      (readCurve (s.banks.tables bank) j.val c = none →
        exec (.curveSet bank j c) s = .next
          (s.heardHost.answersRefusedAfter (BitVec.ofNat 16 (bankBase bank + 0x100 + j.val)) .outOfRange 0)) ∧
      (readRecipe r = none →
        exec (.recipeSet bank k r) s = .next
          (s.heardHost.answersRefusedAfter (BitVec.ofNat 16 (bankBase bank + 0x200 + k.val)) .outOfRange 0))) ∧
    (∀ payload : List Byte, payload.length ≤ 48 →
      exec (.productSet bank 0 payload) s = .next
        (s.heardHost.answersRefusedAfter (BitVec.ofNat 16 (bankBase bank)) .readOnly 0) ∧
      exec (.curveSet bank 0 payload) s = .next
        (s.heardHost.answersRefusedAfter (BitVec.ofNat 16 (bankBase bank + 0x100)) .readOnly 0) ∧
      exec (.recipeSet bank 0 payload) s = .next
        (s.heardHost.answersRefusedAfter (BitVec.ofNat 16 (bankBase bank + 0x200)) .readOnly 0)) ∧
    (s.banks.active = bank →
      exec (.productSet bank i p) s = .next
        (s.heardHost.answersRefusedAfter (BitVec.ofNat 16 (bankBase bank + i.val)) .bankActive 0) ∧
      exec (.curveSet bank j c) s = .next
        (s.heardHost.answersRefusedAfter (BitVec.ofNat 16 (bankBase bank + 0x100 + j.val)) .bankActive 0) ∧
      exec (.recipeSet bank k r) s = .next
        (s.heardHost.answersRefusedAfter (BitVec.ofNat 16 (bankBase bank + 0x200 + k.val)) .bankActive 0)) ∧
    (s.banks.active ≠ bank → 0 < s.banks.count bank →
      exec (.productSet bank i p) s = .next
        (s.heardHost.answersRefusedAfter (BitVec.ofNat 16 (bankBase bank + i.val)) .bankInUse 0) ∧
      exec (.curveSet bank j c) s = .next
        (s.heardHost.answersRefusedAfter (BitVec.ofNat 16 (bankBase bank + 0x100 + j.val)) .bankInUse 0) ∧
      exec (.recipeSet bank k r) s = .next
        (s.heardHost.answersRefusedAfter (BitVec.ofNat 16 (bankBase bank + 0x200 + k.val)) .bankInUse 0)) ∧
    (let answers (offset : Nat) (data : List Byte) : Prop :=
      exec (.objectQuery (BitVec.ofNat 16 (bankBase bank + offset)) []) s = .next
        (s.heardHost.answersData (BitVec.ofNat 16 (bankBase bank + offset)) data)
    let x := s.banks.tables bank
    answers 0 (List.replicate 10 0) ∧ answers 0x100 (List.replicate 25 0) ∧
    answers 0x200 (List.replicate 14 0) ∧
    (x.products[i.val - 1]? = some none → answers i.val (BitVec.ofNat 8 i.val :: List.replicate 9 0)) ∧
    (∀ y, x.products[i.val - 1]? = some (some y) → answers i.val (product y)) ∧
    (x.curves[j.val - 1]? = some none → answers (0x100 + j.val) (List.replicate 25 0)) ∧
    (∀ points, x.curves[j.val - 1]? = some (some points) →
      answers (0x100 + j.val) (curve points ++ List.replicate (24 - 4 * points.length) 0)) ∧
    ∀ y, x.recipes[k.val - 1]? = some y → answers (0x200 + k.val) (slot y.s1 ++ slot y.s2))

/-- Two product records in one SET are taken in order: both are written when both pass, the second against the bank
as the first left it; a second record refused, or beyond code 15, leaves the first written and is answered with the
count 1; and a payload that is not whole records writes nothing (R158, R159). -/
def Obligations.MultiRecordSetStopsAtTheFirstRefusal : Prop :=
  ∀ (s : State) (bank : Bank) (i : Fin 16) (p q : List Byte) (x : Option Product),
    s.canHear → s.banks.active ≠ bank → s.banks.count bank = 0 → i ≠ 0 → p.length = 10 → q.length = 10 →
    readProduct (s.banks.tables bank) i.val p = some x →
    let one := { s.banks.tables bank with products := (s.banks.tables bank).products.set (i.val - 1) x }
    let after1 : State := { s.heardHost with banks := s.banks.setTables bank one }
    (∀ y, i.val < 15 → readProduct one (i.val + 1) q = some y →
      exec (.productSet bank i (p ++ q)) s = .next
        (({ s.heardHost with
            banks := s.banks.setTables bank { one with products := one.products.set i.val y } } :
              State).answersDone (BitVec.ofNat 16 (bankBase bank + i.val)))) ∧
    (i.val < 15 → readProduct one (i.val + 1) q = none →
      exec (.productSet bank i (p ++ q)) s = .next
        (after1.answersRefusedAfter (BitVec.ofNat 16 (bankBase bank + i.val)) .outOfRange 1)) ∧
    (i.val = 15 →
      exec (.productSet bank i (p ++ q)) s = .next
        (after1.answersRefusedAfter (BitVec.ofNat 16 (bankBase bank + i.val)) .noObject 1)) ∧
    ∀ payload : List Byte, payload.length ≤ 48 → (payload = [] ∨ payload.length % 10 ≠ 0) →
      exec (.productSet bank i payload) s = .next
        (s.heardHost.answersRefusedAfter (BitVec.ofNat 16 (bankBase bank + i.val)) .badLength 0)

/-- A permit that R23 accepts replaces the record of its card whole, its rank unchanged, even in a full table; else
it is refused TABLE FULL at 512 records; else it is inserted at its rank and the records above move up. Nothing else
changes (R25); a record that R23 refuses changes nothing. -/
def Obligations.PermitsAreInsertedAtTheirRank : Prop :=
  ∀ (s : State) (payload : List Byte), s.canHear → s.store.ok → payload.length ≤ 48 →
    (∀ p, readPermit payload = .ok p →
      (∀ (below above : List Permit) (old : Permit), s.store.permits = below ++ old :: above → old.card = p.card →
        exec (.permitInsert payload) s = .next
          (({ s.heardHost with store := { s.store with permits := below ++ p :: above } } :
            State).answersDone 0x2000)) ∧
      ((∀ q ∈ s.store.permits, q.card ≠ p.card) → s.store.permits.length = 512 →
        exec (.permitInsert payload) s = .next (s.heardHost.answersRefused 0 0x2000 .tableFull)) ∧
      (∀ below above : List Permit, s.store.permits = below ++ above → s.store.permits.length < 512 →
        (∀ q ∈ below, q.card < p.card) → (∀ q ∈ above, p.card < q.card) →
        exec (.permitInsert payload) s = .next
          (({ s.heardHost with store := { s.store with permits := below ++ p :: above } } :
            State).answersDone 0x2000))) ∧
    (∀ reason, readPermit payload = .error reason →
      exec (.permitInsert payload) s = .next (s.heardHost.answersRefused 0 0x2000 reason))

/-- A permit is removed by its card and the records above it move down one rank; nothing else changes. A payload
that is not a card number is refused BAD LENGTH, one with a digit above 9 OUT OF RANGE, and a card with no permit NOT
FOUND (R26). The lookup key is set whether or not a permit exists for it, with the same refusals of its payload; read,
it is returned, and the lookup result is the record it finds with its rank; each is refused NOT FOUND without a key, the
result without a record too (R27). A card number is ten decimal digits, two to a byte (10, "Record layouts"). -/
def Obligations.PermitRemoveAndLookupKey : Prop :=
  (∀ (bytes : List Byte) (card : Nat),
    readCard bytes = .ok card ↔
      bytes.length = 5 ∧ (∀ b ∈ bytes, b.toNat / 16 ≤ 9 ∧ b.toNat % 16 ≤ 9) ∧
        card = bytes.foldl (fun v b => v * 100 + b.toNat / 16 * 10 + b.toNat % 16) 0) ∧
  (∀ card, card < 10000000000 → readCard (cardBytes card) = .ok card) ∧
  ∀ (s : State) (payload : List Byte), s.canHear → s.store.ok → payload.length ≤ 48 →
    (payload.length ≠ 5 →
      exec (.permitRemove payload) s = .next (s.heardHost.answersRefused 0 0x2001 .badLength) ∧
      exec (.lookupKeySet payload) s = .next (s.heardHost.answersRefused 0 0x2002 .badLength)) ∧
    (payload.length = 5 → (∃ b ∈ payload, 9 < b.toNat / 16 ∨ 9 < b.toNat % 16) →
      exec (.permitRemove payload) s = .next (s.heardHost.answersRefused 0 0x2001 .outOfRange) ∧
      exec (.lookupKeySet payload) s = .next (s.heardHost.answersRefused 0 0x2002 .outOfRange)) ∧
    ∀ card, readCard payload = .ok card →
      ((∀ q ∈ s.store.permits, q.card ≠ card) →
        exec (.permitRemove payload) s = .next (s.heardHost.answersRefused 0 0x2001 .notFound)) ∧
      (∀ (below above : List Permit) (old : Permit), s.store.permits = below ++ old :: above → old.card = card →
        exec (.permitRemove payload) s = .next
          (({ s.heardHost with store := { s.store with permits := below ++ above } } : State).answersDone 0x2001)) ∧
      exec (.lookupKeySet payload) s = .next
        (({ s.heardHost with store := { s.store with key := some card } } : State).answersDone 0x2002) ∧
      (s.store.key = none →
        exec (.objectQuery 0x2002 []) s = .next (s.heardHost.answersRefused 0 0x2002 .notFound) ∧
        exec (.objectQuery 0x2003 []) s = .next (s.heardHost.answersRefused 0 0x2003 .notFound)) ∧
      (s.store.key = some card →
        exec (.objectQuery 0x2002 []) s = .next (s.heardHost.answersData 0x2002 (cardBytes card)) ∧
        ((∀ q ∈ s.store.permits, q.card ≠ card) →
          exec (.objectQuery 0x2003 []) s = .next (s.heardHost.answersRefused 0 0x2003 .notFound)) ∧
        ∀ (below above : List Permit) (p : Permit), s.store.permits = below ++ p :: above → p.card = card →
          exec (.objectQuery 0x2003 []) s = .next
            (s.heardHost.answersData 0x2003 (permitBytes p ++ beBytes 2 below.length)))

/-- An order joins the newest end of the table; it is refused for what R30 refuses in it, DUPLICATE when its card has
one, TABLE FULL at 32 (R32). A record is refused BAD LENGTH when its length is not 12 bytes and 4 for each entry it
declares, and accepted exactly when its card has decimal digits and its 1 to 8 entries differ in their numbers and lie
in their ranges; else it is refused OUT OF RANGE (R30). An order is removed and the later ones close up, or the SET is
refused NOT FOUND (R33). -/
def Obligations.OrdersAreInsertedAndRemoved : Prop :=
  (∀ bytes : List Byte,
    (readOrder bytes = .error .badLength ↔
      ∀ n : Byte, bytes[11]? = some n → bytes.length ≠ 12 + 4 * n.toNat) ∧
    (∀ o : Order, readOrder bytes = .ok o ↔
      bytes =
          cardBytes o.card ++ beBytes 4 o.ref ++ beBytes 2 (o.vehicle.getD 0) ++
            BitVec.ofNat 8 o.entries.length :: (o.entries.flatMap fun e =>
              [BitVec.ofNat 8 e.number, BitVec.ofNat 8 e.product] ++ beBytes 2 e.preset) ∧
        o.card < 10000000000 ∧ o.ref < 4294967296 ∧
        (∀ v, o.vehicle = some v → 1 ≤ v ∧ v ≤ 65535) ∧ 1 ≤ o.entries.length ∧ o.entries.length ≤ 8 ∧
        (o.entries.map fun e => e.number).Nodup ∧
        ∀ e ∈ o.entries, 1 ≤ e.number ∧ e.number ≤ 8 ∧ 1 ≤ e.product ∧ e.product ≤ 15 ∧ 1 ≤ e.preset ∧
          e.preset ≤ 60000) ∧
    ∀ reason, readOrder bytes = .error reason → reason = .badLength ∨ reason = .outOfRange) ∧
  ∀ (s : State) (payload : List Byte), s.canHear → payload.length ≤ 48 →
    (∀ reason, readOrder payload = .error reason →
      exec (.orderInsert payload) s = .next (s.heardHost.answersRefused 0 0x3000 reason)) ∧
    (∀ o, readOrder payload = .ok o →
      ((∃ x ∈ s.store.orders, x.card = o.card) →
        exec (.orderInsert payload) s = .next (s.heardHost.answersRefused 0 0x3000 .duplicate)) ∧
      ((∀ x ∈ s.store.orders, x.card ≠ o.card) → 32 ≤ s.store.orders.length →
        exec (.orderInsert payload) s = .next (s.heardHost.answersRefused 0 0x3000 .tableFull)) ∧
      ((∀ x ∈ s.store.orders, x.card ≠ o.card) → s.store.orders.length < 32 →
        exec (.orderInsert payload) s = .next
          (({ s.heardHost with store := { s.store with orders := s.store.orders ++ [o] } } :
            State).answersDone 0x3000))) ∧
    (∀ reason, readCard payload = .error reason →
      exec (.orderRemove payload) s = .next (s.heardHost.answersRefused 0 0x3001 reason)) ∧
    ∀ card, readCard payload = .ok card →
      ((∃ x ∈ s.store.orders, x.card = card) →
        exec (.orderRemove payload) s = .next
          (({ s.heardHost with
              store := { s.store with orders := s.store.orders.filter fun o => o.card != card } } :
                State).answersDone 0x3001)) ∧
      ((∀ x ∈ s.store.orders, x.card ≠ card) →
        exec (.orderRemove payload) s = .next (s.heardHost.answersRefused 0 0x3001 .notFound))

/-- A release takes the first case that applies: the lowest-numbered FILLED slot with the serial becomes FREE, serial
absent, NEW clear, no page; else an UPDATING slot with the serial refuses WRONG STATE; else NOT FOUND. A payload that
is not one serial is refused BAD LENGTH, and a QUERY NO OBJECT (R143). -/
def Obligations.ReleaseFreesTheFirstFilledSlot : Prop :=
  ∀ (s : State) (payload : List Byte), s.canHear → payload.length ≤ 48 →
    let serial := fieldNat payload 0 4
    (payload.length ≠ 4 →
      exec (.noteRelease payload) s = .next (s.heardHost.answersRefused 0 0x40F0 .badLength)) ∧
    (payload.length = 4 →
      (∀ (i : Nat) (x : NoteSlot), s.notes.slots[i]? = some x → x.state = .filled → x.serial = some serial →
        (∀ j y, j < i → s.notes.slots[j]? = some y → ¬(y.state = .filled ∧ y.serial = some serial)) →
        exec (.noteRelease payload) s = .next
          (({ s.heardHost with
              notes :=
                { s.notes with
                  slots := s.notes.slots.set i
                    { state := .free, serial := none, isNew := false, written := 0, header := none
                      pages := [] } } } : State).answersDone 0x40F0)) ∧
      ((∀ x ∈ s.notes.slots, ¬(x.state = .filled ∧ x.serial = some serial)) →
        (∃ x ∈ s.notes.slots, x.state = .updating ∧ x.serial = some serial) →
        exec (.noteRelease payload) s = .next (s.heardHost.answersRefused 0 0x40F0 .wrongState)) ∧
      ((∀ x ∈ s.notes.slots, ¬(x.state = .filled ∧ x.serial = some serial)) →
        (∀ x ∈ s.notes.slots, ¬(x.state = .updating ∧ x.serial = some serial)) →
        exec (.noteRelease payload) s = .next (s.heardHost.answersRefused 0 0x40F0 .notFound))) ∧
    exec (.objectQuery 0x40F0 payload) s = .next (s.heardHost.answersRefused 0 0x40F0 .noObject)

/-- A slot header is answered as it stands in its layout of 10, and the answer of a FILLED slot carries what its
sending will clear (R140). A page is answered with the slot's state and serial and then the page in its layout of 10,
zeros where it has not been written, and the read changes nothing of the slot (R141). -/
def Obligations.SlotHeaderReadsAsItStands : Prop :=
  ∀ (s : State) (i : Fin 16) (x : NoteSlot), s.canHear → s.notes.slots[i.val]? = some x →
    (let first : List Byte :=
      (match x.state with | .free => 0 | .reserved => 1 | .updating => 2 | .filled => 3) ::
        beBytes 4 (x.serial.getD 0)
    let answers (page : Nat) (data : List Byte) : Prop :=
      exec (.objectQuery (BitVec.ofNat 16 (0x5000 + 16 * i.val + page)) []) s = .next
        (s.heardHost.answersData (BitVec.ofNat 16 (0x5000 + 16 * i.val + page)) (first ++ data))
    (x.header = none → answers 0 (List.replicate 29 0)) ∧
    (∀ h, x.header = some h →
      answers 0
        (beBytes 4 h.serial ++ cardBytes h.card ++ beBytes 2 h.carrier ++ beBytes 4 h.orderRef ++
          beBytes 2 (h.vehicle.getD 0) ++ beBytes 2 h.openTime.1 ++ beBytes 3 h.openTime.2 ++
          beBytes 2 h.closeTime.1 ++ beBytes 3 h.closeTime.2 ++
          [BitVec.ofNat 8 (bitsValue [h.hostAbort, h.hostLostDuring]), BitVec.ofNat 8 h.count])) ∧
    ∀ p : Fin 8,
      (x.pages[p.val]? = none → answers (p.val + 1) (List.replicate 34 0)) ∧
      ∀ c, x.pages[p.val]? = some c →
        answers (p.val + 1)
          (([BitVec.ofNat 8 c.number, BitVec.ofNat 8 c.product,
            match c.state with
              | .pending => 0 | .armed => 1 | .active => 2 | .done => 3 | .short => 4 | .notLoaded => 5,
            match c.arm with | none => 0 | some .a1 => 1 | some .a2 => 2 | some .a3 => 3 | some .a4 => 4,
            match c.bank with | none => 0 | some .a => 1 | some .b => 2] : List Byte) ++
          beBytes 2 c.preset ++ beBytes 3 c.gross ++ beBytes 3 c.standard ++
          [BitVec.ofNat 8 (bitsValue
            [c.average.isSome, c.totalizer.isSome, c.additive.s1.isSome, c.additive.s2.isSome])] ++
          beBytes 2 (BitVec.ofInt 16 (c.average.getD 0)).toNat ++
          beBytes 4 (c.totalizer.getD (0, 0)).1 ++ beBytes 4 (c.totalizer.getD (0, 0)).2 ++
          BitVec.ofNat 8 (c.additive.s1.getD (0, 0)).1 :: beBytes 3 (c.additive.s1.getD (0, 0)).2 ++
          BitVec.ofNat 8 (c.additive.s2.getD (0, 0)).1 :: beBytes 3 (c.additive.s2.getD (0, 0)).2 ++
          beBytes 2 (bitsValue
            [c.flags.short, c.flags.underPreset, c.flags.overrun, c.flags.tempHeld, c.flags.addUnder,
              c.flags.addOver, c.flags.addHalt, c.flags.overrange, c.flags.valveFault, c.flags.meterFault,
              c.flags.halted, c.flags.permissive]))) ∧
    exec (.slotHeaderQuery i []) s = .next
      { s.heardHost with
        up :=
          { s.heardHost.up with
            outgoing := s.up.outgoing ++
              [{ frame :=
                  { dir := .response, kind := 0, tag := 0, addr := BitVec.ofNat 16 (0x4000 + i.val)
                    payload := s.heardHost.attention ::
                      ([match x.state with | .free => 0 | .reserved => 1 | .updating => 2 | .filled => 3,
                        if x.isNew then 1 else 0, BitVec.ofNat 8 x.written] : List Byte) ++
                      beBytes 4 (x.serial.getD 0) }
                 header := if x.state = .filled then x.serial.map (fun serial => (i.val, serial)) else none }] } }

/-- Permits are read by rank: the record of rank i in its layout of 10, or NOT FOUND from the number of records on. A
lockout, which writes the failed attempts and the status of one card, leaves every card at its rank (R28). -/
def Obligations.PermitsAreReadByRank : Prop :=
  (∀ (s : State) (i : Nat), s.canHear → i ≤ 511 →
    (∀ p, s.store.permits[i]? = some p →
      exec (.objectQuery (BitVec.ofNat 16 (0x2400 + i)) []) s = .next
        (s.heardHost.answersData (BitVec.ofNat 16 (0x2400 + i)) (permitBytes p)) ∧
      (let digits := p.code.getD []
       let two (i : Nat) : Byte := BitVec.ofNat 8 (16 * digits.getD i 0 + digits.getD (i + 1) 0)
       permitBytes p =
        cardBytes p.card ++ [BitVec.ofNat 8 digits.length, two 0, two 2, two 4] ++ beBytes 2 p.carrier ++
          beBytes 2 p.expiry ++ beBytes 2 p.classes.toNat ++ beBytes 4 p.maxLoad ++
          ([match p.status with | .active => 0 | .suspended => 1 | .locked => 2,
            BitVec.ofNat 8 p.attempts] : List Byte))) ∧
    (s.store.permits.length ≤ i →
      exec (.objectQuery (BitVec.ofNat 16 (0x2400 + i)) []) s = .next
        (s.heardHost.answersRefused 0 (BitVec.ofNat 16 (0x2400 + i)) .notFound))) ∧
  (∀ (s : State) (p : Permit),
    (chargeAttempt p s).1.store.permits.map (fun q => q.card) = s.store.permits.map fun q => q.card)

/-- Orders are read by rank: the order of rank i in its layout of 10, or NOT FOUND from the number of orders on. An
insert adds a rank at the top; a removal, which is also how entry to OPEN consumes an order, lowers by one the rank of
every order above the one that left (R34). -/
def Obligations.OrdersAreReadByRank : Prop :=
  (∀ (s : State) (i : Nat), s.canHear → i ≤ 31 →
    (∀ o, s.store.orders[i]? = some o →
      exec (.objectQuery (BitVec.ofNat 16 (0x3100 + i)) []) s = .next
        (s.heardHost.answersData (BitVec.ofNat 16 (0x3100 + i))
          (cardBytes o.card ++ beBytes 4 o.ref ++ beBytes 2 (o.vehicle.getD 0) ++
            BitVec.ofNat 8 o.entries.length :: o.entries.flatMap fun e =>
              [BitVec.ofNat 8 e.number, BitVec.ofNat 8 e.product] ++ beBytes 2 e.preset))) ∧
    (s.store.orders.length ≤ i →
      exec (.objectQuery (BitVec.ofNat 16 (0x3100 + i)) []) s = .next
        (s.heardHost.answersRefused 0 (BitVec.ofNat 16 (0x3100 + i)) .notFound))) ∧
  ∀ (s : State) (o : Order) (below above : List Order),
    ((∀ x ∈ s.store.orders, x.card ≠ o.card) → s.store.orders.length < 32 →
      (insertOrder o s).1.store.orders = s.store.orders ++ [o]) ∧
    (s.store.orders = below ++ o :: above → (s.store.orders.map fun x => x.card).Nodup →
      (removeOrder o.card s).1.store.orders = below ++ above ∧
      (s.session.card = some o.card → (enterOpen s).store.orders = below ++ above))

/-- A SET of an object that is read only, or of an address outside the map, changes nothing of the part's own, nor
does a QUERY that is refused: NO OBJECT outside the map and for an object that only a SET reaches, and BAD LENGTH for a
QUERY of any other object with a payload (R189, R141). -/
def Obligations.ReadOnlyObjectsRefuseASet : Prop :=
  ∀ (s : State) (addr : ObjAddr) (payload : List Byte), s.canHear → payload.length ≤ 48 →
    (objectAt addr = none →
      exec (.otherObjectSet addr payload) s = .next (s.heardHost.answersRefused 0 addr .noObject)) ∧
    ((addr = 0x0004 ∨ addr = 0x0006 ∨ addr = 0x0008 ∨ (∃ i : Fin 4, addr = BitVec.ofNat 16 (0x10 + i.val)) ∨
        addr = 0x2003 ∨ (∃ i : Fin 512, addr = BitVec.ofNat 16 (0x2400 + i.val)) ∨
        (∃ i : Fin 32, addr = BitVec.ofNat 16 (0x3100 + i.val)) ∨
        (∃ i : Fin 16, addr = BitVec.ofNat 16 (0x4000 + i.val)) ∨
        ∃ (i : Fin 16) (p : Fin 9), addr = BitVec.ofNat 16 (0x5000 + 16 * i.val + p.val)) →
      exec (.otherObjectSet addr payload) s = .next (s.heardHost.answersRefused 0 addr .readOnly)) ∧
    ((objectAt addr = none ∨
        (∃ (i : Fin 16) (p : Fin 7), addr = BitVec.ofNat 16 (0x5000 + 16 * i.val + (9 + p.val))) ∨
        addr = 0x0018 ∨ addr = 0x2000 ∨ addr = 0x2001 ∨ addr = 0x3000 ∨ addr = 0x3001 ∨ addr = 0x40F0) →
      exec (.objectQuery addr payload) s = .next (s.heardHost.answersRefused 0 addr .noObject)) ∧
    (∀ o, objectAt addr = some o → payload ≠ [] → addr ≠ 0x0018 → addr ≠ 0x2000 → addr ≠ 0x2001 →
      addr ≠ 0x3000 → addr ≠ 0x3001 → addr ≠ 0x40F0 →
      exec (.objectQuery addr payload) s = .next (s.heardHost.answersRefused 0 addr .badLength)) ∧
    (payload ≠ [] →
      exec (.queryStatusFlags payload) s = .next (s.heardHost.answersRefused 0 0x0002 .badLength) ∧
      ∀ i : Fin 16,
        exec (.slotHeaderQuery i payload) s = .next
          (s.heardHost.answersRefused 0 (BitVec.ofNat 16 (0x4000 + i.val)) .badLength))

/-- The bytes of a permit that R23 accepts are read back as that permit. -/
def Obligations.PermitRecordsReadBack : Prop :=
  ∀ p : Permit, p.ok = true → p.card < 10000000000 → p.expiry < 65536 → readPermit (permitBytes p) = .ok p

/-! ### The field line -/

/-- The arbiter takes the first eligible source on a free line (R168): the head of the command queue; else the due
valve refresh of the lowest arm (R171); else the due FAST scan of the lowest index; else the head of the relay queue,
unless its second test answers it REFUSED (R124, R173), which is followed by the next choice at once; else a due NORMAL
scan (R166); else a due slow poll (R179). That a command sent takes the rest of the turnaround gap and then 80 µs a
byte (log 18), that the take is the start of R166, R171 and R179 and fixes a refresh's position (log 49), and that the
arbiter acts while the field line is in a LINE BREAK as well (log 41), are the model's choices. -/
def Obligations.ArbiterTakesTheFirstEligibleSource : Prop :=
  ∀ s : State, s.field.exchange = none →
    (∀ c rest, s.cmdQueue = c :: rest →
      (∀ n t p retries, c = .valve n t p retries → isNodeTag t = true →
        exec .arbiterTake s = .next
          (({ s.withDrive t with cmdQueue := rest } : State).sends (.command c)
            { dir := .command, kind := 2, tag := t, addr := 0x0010
              payload := [BitVec.ofNat 8 (positionCode p)] })) ∧
      (∀ n k t number size, c = .shot n k t number size →
        exec .arbiterTake s = .next
          (({ s with cmdQueue := rest } : State).sends (.command c)
            { dir := .command, kind := 2, tag := t, addr := 0x0020
              payload := BitVec.ofNat 8 number :: beBytes 4 size })) ∧
      ∀ t code, c = .display t code →
        exec .arbiterTake s = .next
          (({ s with cmdQueue := rest } : State).sends (.command c)
            { dir := .command, kind := 1, tag := t, addr := 0x0030, payload := [BitVec.ofNat 8 code] })) ∧
    (s.cmdQueue = [] → ∀ n t, (∀ m, armNumber m < armNumber n → s.refreshIsDue m = false) →
      s.refreshIsDue n = true → (s.config n).valve = some t → isNodeTag t = true →
      exec .arbiterTake s = .next
        ((s.withDrive t).sends (.refresh n)
          { dir := .command, kind := 2, tag := t, addr := 0x0010
            payload := [BitVec.ofNat 8 (positionCode (s.arm n).commanded)] })) ∧
    (s.cmdQueue = [] → (∀ n, s.refreshIsDue n = false) →
      (∀ cls i e, (cls = .fast ∨ cls = .normal ∧ s.dueScan .fast = none ∧ s.relayQueue = []) →
        s.scans[i]? = some e → e.cls = cls → s.scanIsDue e = true →
        (∀ j x, j < i → s.scans[j]? = some x → ¬(x.cls = cls ∧ s.scanIsDue x = true)) →
        exec .arbiterTake s = .next
          ((s.withScanStarted i e).sends (.scan i)
            { dir := .command, kind := 0, tag := e.tag, addr := e.addr, payload := [] })) ∧
      (s.dueScan .fast = none →
        (∀ r rest, s.relayQueue = r :: rest →
          (r.frame.tag ≠ 63 → s.gatePasses r.cls = true →
            exec .arbiterTake s = .next (({ s with relayQueue := rest } : State).sends .relay r.frame)) ∧
          (r.frame.tag = 63 → (∀ n, (s.armState n).isActive = false) →
            exec .arbiterTake s = .next (({ s with relayQueue := rest } : State).sends (.roll 0 0) r.frame)) ∧
          (s.up.outgoing.length < 8 →
            (r.frame.tag ≠ 63 → s.gatePasses r.cls = false →
              exec .arbiterTake s = exec .arbiterTake
                (({ s with relayQueue := rest } : State).answersRefused r.frame.tag r.frame.addr .interlocked)) ∧
            (r.frame.tag = 63 → (∃ n, (s.armState n).isActive = true) →
              exec .arbiterTake s = exec .arbiterTake
                (({ s with relayQueue := rest } : State).answersRefused 63 r.frame.addr .bayActive))) ∧
          (rest = [] → s.dueScan .normal = none → (∀ t, s.pollIsDue t = false) → s.up.outgoing.length < 8 →
            (r.frame.tag ≠ 63 → s.gatePasses r.cls = false →
              exec .arbiterTake s = .next
                (({ s with relayQueue := [] } : State).answersRefused r.frame.tag r.frame.addr .interlocked)) ∧
            (r.frame.tag = 63 → (∃ n, (s.armState n).isActive = true) →
              exec .arbiterTake s = .next
                (({ s with relayQueue := [] } : State).answersRefused 63 r.frame.addr .bayActive)))) ∧
        (s.relayQueue = [] → s.dueScan .normal = none → ∀ t e, isNodeTag t = true → s.pollIsDue t = true →
          (∀ u : Tag, u.toNat < t.toNat → s.pollIsDue u = false) → s.pollEntry t = some e →
          exec .arbiterTake s = .next
            (({ s with
                nodes := s.nodes.set t.toNat
                  { s.node t with slowDue := some (s.clock.ms + BitVec.ofNat 32 5000), slowMark := false } } :
                  State).sends (.slowPoll t)
              { dir := .command, kind := 0, tag := t, addr := e.addr, payload := [] }))))

/-- What has come due stays due until it is taken: a scan entry, a valve refresh, a slow poll is marked when it comes
due, and due while it is marked, whatever the clock reads (R166, R171, R179; the marks are the model's, log 10). The
node state follows the score (R178): DEGRADED from 40, OK again below 40, LOST at 100 until below 40. A loss sets
NODE LOST, takes the tag's commands out of the queue, stops its scans and its refresh, sets its slow poll 5 s ahead,
resets reader extraction, and tells the owners, in an order that is the model's choice (log 22): the arm of a meter
(R63, R90), of a valve (R64), of an injector (R105), the permissive unit (R116) and CODE ENTRY for its reader (R10),
which the model takes to be the node at the session's reader tag (log 8). A recovery ends the slow poll, makes the
scans due at once, lets INJECTOR LOST go where no other injector in use is LOST (R59) and decides BAY PERMIT. That the
20 ms of a timeout are a difference of readings of the millisecond counter is the model's reading of R197 (log 52). -/
def Obligations.DueMarksAreLatched : Prop :=
  (∀ s : State,
    (∀ (i : Fin 32) (e : ScanEntry) (t : Ms), s.scans[i.val]? = some e → e.enabled = true →
      s.nodeLost e.tag = false → e.lastStart = some t → e.period ≤ (s.clock.ms - t).toNat →
      exec (.scanDue i) s = .next { s with scans := s.scans.set i.val { e with dueMark := true } }) ∧
    (∀ (n : ArmId) (tag : Tag) (t : Ms), (s.config n).valve = some tag → isNodeTag tag = true →
      s.armState n ≠ .idle → s.nodeLost tag = false → s.valveQueued n = false →
      (s.node tag).lastDrive = some t → 500 ≤ (s.clock.ms - t).toNat →
      exec (.valveRefreshDue n) s = .next
        { s with nodes := s.nodes.set tag.toNat { s.node tag with refreshMark := true } }) ∧
    (∀ (tag : Tag) (e : ScanEntry) (d : Ms), isNodeTag tag = true → s.nodeLost tag = true →
      e ∈ s.scans → e.enabled = true → e.tag = tag → (s.node tag).slowDue = some d →
      (s.clock.ms - d).toNat < 2147483648 →
      exec (.slowPollDue tag) s = .next
        { s with nodes := s.nodes.set tag.toNat { s.node tag with slowMark := true } }) ∧
    ∀ clock : Clock,
      let u : State := { s with clock := clock }
      (∀ e ∈ s.scans, e.dueMark = true → e.enabled = true → s.nodeLost e.tag = false → u.scanIsDue e = true) ∧
      (∀ (n : ArmId) (tag : Tag), (s.config n).valve = some tag → (s.node tag).refreshMark = true →
        s.armState n ≠ .idle → s.nodeLost tag = false → s.valveQueued n = false → u.refreshIsDue n = true) ∧
      ∀ (tag : Tag) (e : ScanEntry), (s.node tag).slowMark = true → s.nodeLost tag = true → e ∈ s.scans →
        e.enabled = true → e.tag = tag → u.pollIsDue tag = true) ∧
  (∀ (s : State) (tag : Tag), isNodeTag tag = true → s.nodes.length = 64 →
    let x := s.node tag
    let now (score : Nat) (st : NodeState) : State :=
      { s with nodes := s.nodes.set tag.toNat { x with score := score, state := st } }
    (∀ e i, (s.field.rx = .idle ∨ s.field.rx = .hunt) → s.field.exchange = some e → e.source = .scan i →
      e.tag = tag → e.dropped = false → e.toSend = 0 → 20 ≤ (s.clock.ms - e.waitFrom).toNat →
      exec .fieldTimeout s = .next
        (scoreFailed tag
          { s with field := { s.field with exchange := none }, status := s.status.linkEvent .fieldTimeouts })) ∧
    ((x.state = .ok ∨ x.state = .degraded) →
      (x.score < 96 → scoreFailed tag s = now (x.score + 4) (if x.score < 36 then .ok else .degraded)) ∧
      (x.score < 101 → scoreGood tag s = now (x.score - 1) (if x.score ≤ 40 then .ok else .degraded)) ∧
      (96 ≤ x.score →
        let told : State :=
          { s with
            nodes := s.nodes.set tag.toNat
              { x with
                score := 100, state := .lost, slowDue := some (s.clock.ms + BitVec.ofNat 32 5000)
                slowMark := false, refreshMark := false }
            status := { s.status with flags := { s.status.flags with nodeLost := true } }
            cmdQueue := s.cmdQueue.filter fun c => c.tag != tag
            scans := s.scans.map fun e => if e.tag = tag then { e with dueMark := false } else e
            reader := if s.reader.tag = some tag then {} else s.reader }
        let arms (uses : ArmConfig → Bool) (f : ArmId → State → State) (u : State) : State :=
          [ArmId.a1, .a2, .a3, .a4].foldl (fun v n => if uses (v.config n) then f n v else v) u
        let u := arms (fun c => c.injector.s2 == some tag) (fun n => injectorLost n .s2)
          (arms (fun c => c.injector.s1 == some tag) (fun n => injectorLost n .s1)
            (arms (fun c => c.valve == some tag) valveNodeLost
              (arms (fun c => c.meter == some tag) meterNodeLost told)))
        scoreFailed tag s =
          readerNodeLost tag (if u.permissive.tag = some tag then permissiveNodeLost u else u))) ∧
    (x.state = .lost → 36 ≤ x.score → scoreFailed tag s = now (min (x.score + 4) 100) .lost) ∧
    (x.state = .lost → 40 < x.score → x.score ≤ 100 → scoreGood tag s = now (x.score - 1) .lost) ∧
    (x.state = .lost → x.score ≤ 40 →
      (s.permissive.tag = some tag → s.permissive.last = none ∧ s.permissive.healthy = false) →
      let t := scoreGood tag s
      (∀ n : ArmId,
        let others := ∃ k u, (s.config n).injector.get k = some u ∧ u ≠ tag ∧ s.nodeLost u = true ∧
          s.dosesSlot n k = true
        ((∃ k, (s.config n).injector.get k = some tag) → ¬others →
          t.arm n = { s.arm n with causes := { (s.arm n).causes with injectorLost := false } }) ∧
        ((others ∨ ¬∃ k, (s.config n).injector.get k = some tag) → t.arm n = s.arm n)) ∧
      t = { s with
        nodes := s.nodes.set tag.toNat
          { x with score := x.score - 1, state := .ok, slowDue := none, slowMark := false }
        scans := s.scans.map fun e =>
          if e.tag = tag then { e with lastStart := none, dueMark := false } else e
        permissive :=
          if s.permissive.tag = some tag then { s.permissive with bayPermit := false } else s.permissive
        arms := t.arms })) ∧
  (∀ (s : State) (n : ArmId),
    let lost : State :=
      { s with
        metering := s.metering.set n { s.meter n with baseline := none, run := 0 }
        status := { s.status with flags := { s.status.flags with meterFault := true } } }
    ((s.armState n = .idle ∨ s.armState n = .blocked) → meterNodeLost n s = lost) ∧
    ∀ c, s.heldComp n = some c →
      let t := meterNodeLost n s
      ((s.armState n).isLoading = true →
        t.armState n = .blocked ∧ (t.arm n).blockCause = some .meter ∧ (t.arm n).held = none ∧
        (t.arm n).commanded = .closed ∧ (t.arm n).trip = (s.arm n).trip ∧ (t.arm n).causes = {} ∧
        (∃ y ∈ t.session.comps, y.number = c.number ∧ y.state = .short ∧ y.flags.short = true ∧
          y.flags.meterFault = true ∧ (c.closing = none → y.closing = some (s.arm n).totalizer)) ∧
        t.status.flags.meterFault = true ∧ (∀ m, m ≠ n → t.arm m = s.arm m) ∧
        t = { lost with
          arms := t.arms, session := t.session, banks := t.banks, dosing := t.dosing, notes := t.notes
          cmdQueue := t.cmdQueue, status := t.status }) ∧
      (s.armState n = .armed → ∀ bank, c.bank = some bank →
        t.arm n =
          { s.arm n with state := .blocked, held := none, blockCause := some .meter, armedDeadline := none } ∧
        t.session.comps = s.session.comps.map (fun y =>
          if y.number = c.number then
            { y with state := .pending, arm := none, bank := none, additive := ⟨none, none⟩ }
          else y) ∧
        t.banks.count bank = s.banks.count bank - 1 ∧ (∀ m, m ≠ n → t.arm m = s.arm m) ∧
        t = { lost with arms := t.arms, session := t.session, banks := t.banks, cmdQueue := t.cmdQueue })) ∧
  (∀ (s : State) (n : ArmId),
    ((s.armState n = .idle ∨ s.armState n = .blocked) →
      valveNodeLost n s = { s with arms := s.arms.set n { s.arm n with lastValve := none } }) ∧
    ∀ c, s.heldComp n = some c →
      let t := valveNodeLost n s
      ((s.armState n).isLoading = true ∨ s.armState n = .armed →
        t.armState n = .blocked ∧ (t.arm n).blockCause = some .valve ∧ (t.arm n).held = none ∧
        (t.arm n).lastValve = none ∧ (t.arm n).trip = true ∧ t.status.flags.valveFault = true ∧
        t.permissive = { s.permissive with bayPermit := false } ∧
        (∀ m, m ≠ n → s.permissive.bayPermit = false ∨ (s.armState m).isMoving = false → t.arm m = s.arm m) ∧
        (∀ m, m ≠ n → s.permissive.bayPermit = true → (s.armState m).isMoving = true →
          t.armState m = .halted ∧ (t.arm m).commanded = .closed ∧
          (t.arm m).causes = { (s.arm m).causes with driverStop := true }) ∧
        t = { s with
          arms := t.arms, session := t.session, banks := t.banks, dosing := t.dosing, notes := t.notes
          cmdQueue := t.cmdQueue, status := t.status, permissive := t.permissive }) ∧
      ((s.armState n).isLoading = true →
        (t.arm n).commanded = .closed ∧
        ∃ y ∈ t.session.comps, y.number = c.number ∧ y.state = .short ∧ y.flags.short = true ∧
          y.flags.valveFault = true ∧ (c.closing = none → y.closing = some (s.arm n).totalizer)) ∧
      (s.armState n = .armed → ∀ bank, c.bank = some bank →
        t.banks.count bank = s.banks.count bank - 1 ∧
        ∃ y ∈ t.session.comps, y.number = c.number ∧ y.state = .pending ∧ y.arm = none ∧ y.bank = none ∧
          y.additive = ⟨none, none⟩)) ∧
  (∀ (s : State) (n : ArmId) (k : Slot),
    let t := injectorLost n k s
    t.dose n k =
      { s.dose n k with
        baseline := none, outstanding := none
        deadline := if (s.dose n k).outstanding.isSome then none else (s.dose n k).deadline } ∧
    (∀ m j, m ≠ n ∨ j ≠ k → t.dose m j = s.dose m j) ∧ (∀ m, m ≠ n → t.arm m = s.arm m) ∧
    (∀ c a x, s.heldComp n = some c → c.additive.get k = some a → (s.dose n k).outstanding = some x →
      ∃ y ∈ t.session.comps, y.number = c.number ∧
        y.additive.get k = some { a with commanded := a.commanded - x.size }) ∧
    (s.dosesSlot n k = true → (s.armState n).isActive = true →
      t.armState n = .halted ∧ (t.arm n).causes = { (s.arm n).causes with injectorLost := true }) ∧
    (s.dosesSlot n k = true → s.armState n = .halted →
      t.arm n = { s.arm n with causes := { (s.arm n).causes with injectorLost := true } }) ∧
    (s.dosesSlot n k = false ∨ (s.armState n).isLoading = false →
      t.arm n = s.arm n ∧ t.cmdQueue = s.cmdQueue ∧
      ((s.dose n k).outstanding = none → t.session = s.session)) ∧
    t = { s with arms := t.arms, session := t.session, dosing := t.dosing, cmdQueue := t.cmdQueue }) ∧
  ∀ s : State,
    (let t := permissiveNodeLost s
     t.permissive =
      { s.permissive with
        last := none, ageDeadline := none, deadmanBase := none, healthy := false, bayPermit := false } ∧
     (s.permissive.healthy = true → ∀ n, (s.armState n).isActive = true →
      t.armState n = .halted ∧ (t.arm n).causes = { (s.arm n).causes with permissive := true }) ∧
     (∀ n, s.permissive.healthy = false ∨ (s.armState n).isActive = false → t.arm n = s.arm n) ∧
     t = { s with arms := t.arms, session := t.session, cmdQueue := t.cmdQueue, permissive := t.permissive }) ∧
    ∀ tag : Tag,
      ((s.session.state ≠ .codeEntry ∨ s.session.readerTag ≠ some tag) → readerNodeLost tag s = s) ∧
      (s.session.state = .codeEntry → s.session.readerTag = some tag →
        readerNodeLost tag s =
          { s with
            session := { readerTag := some tag }, notes := { s.notes with held := none }
            mode := if s.mode = .servicePending then .service else s.mode
            permissive :=
              if s.mode = .servicePending then { s.permissive with bayPermit := false } else s.permissive })

/-- A good response that answers the part's own exchange frees the line, lowers its tag's score by 1, and is delivered:
DATA goes to the owner its class names, if its payload fits the format of 10, and anything else goes nowhere (R167,
R175 to R177, R193). The class of a frame is that of the first acceptance entry it matches, else PASS (R175). A frame
that fails the response test is discarded and moves no counter and no score; the exchange goes on waiting, or ends as a
timeout at its last byte once the 20 ms are over (R167). When no exchange awaits a response every frame is discarded
so, good or damaged (R167, R183). That a response counts although the command is still being sent, and that none is
awaited while the command waits for the turnaround gap, are the model's choices (log 18), and that the 20 ms are a
difference of readings of the millisecond counter its reading of R197 (log 52). -/
def Obligations.FieldFramesAreTakenOrDiscarded : Prop :=
  (∀ (s : State) (f : Frame) (bytes : List Byte),
    s.fieldListens → f.payload.length ≤ 48 → bytes.length ≤ 55 →
    (∀ e i, s.awaits e → e.source = .scan i → e.dropped = false → f.dir = .response → f.tag = e.tag →
      exec (.fieldGoodResponse f) s = .next
        (deliver (classify s.acceptance f) f (scoreGood f.tag s.lineFreed)) ∧
      (isNodeTag f.tag = true → (s.node f.tag).state = .ok → (s.node f.tag).score < 40 →
        scoreGood f.tag s.lineFreed = s.lineFreed.withScore f.tag ((s.node f.tag).score - 1))) ∧
    ((s.awaitsNothing ∨
        ∃ e, s.awaits e ∧ e.source.isRoll = false ∧ (f.dir = .command ∨ f.tag ≠ e.tag) ∧
          (0 < e.toSend ∨ (s.clock.ms - e.waitFrom).toNat < 20)) →
      exec (.fieldFrameDiscarded f) s = .next s.fieldHeardNow) ∧
    (∀ e i, s.awaits e → e.source = .scan i → e.dropped = false → (f.dir = .command ∨ f.tag ≠ e.tag) →
      e.toSend = 0 → 20 ≤ (s.clock.ms - e.waitFrom).toNat →
      exec (.fieldFrameDiscarded f) s = .next
        (scoreFailed e.tag { s.lineFreed with status := s.status.linkEvent .fieldTimeouts })) ∧
    (s.awaitsNothing → rxStatus bytes = .whole false →
      exec (.fieldDamagedResponse bytes) s = .next s.fieldHeardNow)) ∧
  (∀ (table : List AcceptanceEntry) (f : Frame),
    let fits (e : AcceptanceEntry) : Prop :=
      (e.dir = .either ∨ e.dir = .response ∧ f.dir = .response ∨ e.dir = .command ∧ f.dir = .command) ∧
      e.kinds.getLsbD f.kind.toNat = true ∧
      (∀ i, e.tagMask.getLsbD i = true → f.tag.getLsbD i = e.tagVal.getLsbD i) ∧
      ∀ i, e.objMask.getLsbD i = true → f.addr.getLsbD i = e.objVal.getLsbD i
    ((∀ e ∈ table, ¬fits e) → classify table f = { action := .pass, arm := none, slot := none }) ∧
    ∀ before e after, table = before ++ e :: after → (∀ x ∈ before, ¬fits x) → fits e →
      classify table f = e.cls) ∧
  (∀ (s : State) (f : Frame) (c : FrameClass),
    ((f.kind ≠ 0 ∨ c.action = .pass ∨ c.action = .actuator ∨ c.action = .block) → deliver c f s = s) ∧
    (f.kind = 0 →
      (c.action = .permissive →
        (readPermissive f.payload s.clock.ms = none → deliver c f s = s) ∧
        ∀ r count, readPermissive f.payload s.clock.ms = some (r, count) →
          deliver c f s = permissiveReport f.tag r count s) ∧
      (c.action = .reader →
        (readReader f.payload = none → deliver c f s = s) ∧
        ∀ r, readReader f.payload = some r → deliver c f s = readerReport f.tag r s) ∧
      ∀ n, c.arm = some n →
        (c.action = .meterCount →
          (readMeterCount f.payload = none → deliver c f s = s) ∧
          ∀ count ok, readMeterCount f.payload = some (count, ok) →
            deliver c f s = meterReport n f.tag count ok s) ∧
        (c.action = .temperature →
          (readTemperature f.payload = none → deliver c f s = s) ∧
          ∀ x valid, readTemperature f.payload = some (x, valid) →
            deliver c f s = temperatureReport n f.tag x valid s) ∧
        (c.action = .valveStatus →
          (readValveStatus f.payload = none → deliver c f s = s) ∧
          ∀ r, readValveStatus f.payload = some r → deliver c f s = valveReport n f.tag r s) ∧
        (c.action = .injectorReport → ∀ k, c.slot = some k →
          (readInjector f.payload = none → deliver c f s = s) ∧
          ∀ d last, readInjector f.payload = some (d, last) →
            deliver c f s = injectorReport n k f.tag d last s))) ∧
  ∀ r : List Byte,
    (∀ count ok, readMeterCount r = some (count, ok) ↔
      ∃ h l x : Byte, r = [h, l, x] ∧ x.toNat ≤ 1 ∧ count = 256 * h.toNat + l.toNat ∧ ok = (x == 0)) ∧
    (∀ t valid, readTemperature r = some (t, valid) ↔
      ∃ h l x : Byte, r = [h, l, x] ∧ x.toNat ≤ 1 ∧ valid = (x == 1) ∧
        t = (256 * h.toNat + l.toNat : Nat) - (if h.toNat < 128 then 0 else 65536)) ∧
    (∀ v, readValveStatus r = some v ↔
      ∃ p x : Byte, r = [p, x] ∧ x.toNat ≤ 1 ∧ v.coupler = (x == 1) ∧
        p = match v.position with | .closed => 0 | .low => 1 | .full => 2 | .moving => 3) ∧
    (∀ d last, readInjector r = some (d, last) ↔
      ∃ a b c e x : Byte, r = [a, b, c, e, x] ∧
        d = 16777216 * a.toNat + 65536 * b.toNat + 256 * c.toNat + e.toNat ∧ last = x.toNat) ∧
    (∀ arrival v count, readPermissive r arrival = some (v, count) ↔
      ∃ b x : Byte, r = [b, x] ∧ b.toNat < 16 ∧ count = x.toNat ∧
        v = { ground := b.getLsbD 0, dry := b.getLsbD 1, hose := b.getLsbD 2, estop := b.getLsbD 3
              arrival := arrival }) ∧
    ∀ v, readReader r = some v ↔
      ∃ (cardSeq keySeq : Byte) (card keys : List Byte),
        r = cardSeq :: (card ++ keySeq :: keys) ∧ card.length = 5 ∧ keys.length = 8 ∧
        (∀ b ∈ card, b.toNat / 16 ≤ 9 ∧ b.toNat % 16 ≤ 9) ∧
        v = { cardSeq := cardSeq.toNat
              card := card.foldl (fun v b => v * 100 + b.toNat / 16 * 10 + b.toNat % 16) 0
              keySeq := keySeq.toNat, keys := keys.map fun b => b.toNat }

/-- A relayed exchange is answered once (R173): a good response is delivered like any other (R176) and goes upstream
unchanged; a timeout, or a response whose CRC is bad, is counted, raises the score by 4 and is answered REFUSED NO
RESPONSE (R167, R177); after a LINE BREAK upstream nothing is answered (R184). That the answer is formed after the
count (log 13), and that a response counts although the command is still being sent (log 18), are the model's choices,
and that the 20 ms of a timeout are a difference of readings of the millisecond counter its reading of R197 (log 52).
-/
def Obligations.RelayedExchangeIsAnsweredOnce : Prop :=
  ∀ (s : State) (e : Exchange) (f : Frame) (bytes : List Byte),
    s.fieldListens → s.awaits e → e.source = .relay → e.dropped = false →
    isNodeTag e.tag = true → e.frame.tag = e.tag → (s.node e.tag).state = .ok → (s.node e.tag).score < 36 →
    s.up.outgoing.length < 8 →
    let good : State := s.lineFreed.withScore e.tag ((s.node e.tag).score - 1)
    let failed (heard : State) (c : CounterId) : State :=
      { s.withScore e.tag ((s.node e.tag).score + 4) with
        field := { heard.field with exchange := none }, status := s.status.linkEvent c }
    (f.payload.length ≤ 48 → f.dir = .response → f.tag = e.tag →
      exec (.fieldGoodResponse f) s = .next
        (let delivered := deliver (classify s.acceptance f) f good
         if e.muted then delivered
         else { delivered with up := { s.up with outgoing := s.up.outgoing ++ [{ frame := f }] } })) ∧
    (e.toSend = 0 → 20 ≤ (s.clock.ms - e.waitFrom).toNat →
      exec .fieldTimeout s = .next
        (if e.muted then failed s .fieldTimeouts
         else (failed s .fieldTimeouts).answersRefused e.tag e.frame.addr .noResponse)) ∧
    (bytes.length ≤ 55 → rxStatus bytes = .whole false →
      exec (.fieldDamagedResponse bytes) s = .next
        (if e.muted then failed s.lineFreed .fieldCrc
         else (failed s.lineFreed .fieldCrc).answersRefused e.tag e.frame.addr .noResponse))

/-- The command queue (R169, R170): a position commanded to an arm takes the place of the one queued for it, its retry
count 0 and the tag it was queued with kept (the model's choice, log 47), else it joins the tail; a display SET takes
the place of the one queued, for the reader tag as it stands (the model's reading, log 7); nothing is queued for a LOST
node. A DRIVE without DONE goes back to the head with its retry count raised while that is below 2, a CLOSED that got
no good response with its count as it is, and neither when a newer position is queued. A LOW or FULL dropped after its
retries gives its moving arm a valve fault if it is still the commanded position (R65): CLOSED is commanded, the
compartment is SHORT with VALVE FAULT, the arm BLOCKED. A DONE, or the loss of the node, ends the DRIVE. Each outcome
is taken when the exchange ends (R167) and after it has been scored (R170): after a good response has been delivered
too, and a failed one counted, an order that is the model's choice (log 13); a shot's REFUSED writes it off (R99), and
a display SET, a valve refresh and a slow poll take none (R170, R171, R179). That a response counts although the
command is still being sent is the model's choice (log 18), and that the 20 ms of a timeout are a difference of
readings of the millisecond counter its reading of R197 (log 52). -/
def Obligations.CommandQueueReplacesAndRetries : Prop :=
  (∀ (s : State) (e : Exchange) (f : Frame) (bytes : List Byte),
    s.fieldListens → s.awaits e → e.dropped = false → f.payload.length ≤ 48 → bytes.length ≤ 55 →
    ∀ outcome : Ending → State → State,
      ((∃ n t p retries, e.source = .command (.valve n t p retries) ∧ outcome = driveOutcome n t p retries) ∨
        (∃ n k t number size, e.source = .command (.shot n k t number size) ∧
          outcome = fun x => shotOutcome n k number x.isRefused) ∨
        ((∃ t code, e.source = .command (.display t code)) ∨ (∃ n, e.source = .refresh n) ∨
            (∃ i, e.source = .scan i) ∨ ∃ t, e.source = .slowPoll t) ∧ outcome = fun _ u => u) →
      (f.dir = .response → f.tag = e.tag →
        exec (.fieldGoodResponse f) s = .next
          (outcome (.good f) (deliver (classify s.acceptance f) f (scoreGood f.tag s.lineFreed)))) ∧
      (e.toSend = 0 → 20 ≤ (s.clock.ms - e.waitFrom).toNat →
        exec .fieldTimeout s = .next
          (outcome .timeout
            (scoreFailed e.tag
              { s with
                field := { s.field with exchange := none }, status := s.status.linkEvent .fieldTimeouts }))) ∧
      (rxStatus bytes = .whole false →
        exec (.fieldDamagedResponse bytes) s = .next
          (outcome .damaged
            (scoreFailed e.tag { s.lineFreed with status := s.status.linkEvent .fieldCrc })))) ∧
  (∀ f : Frame,
    ((Ending.good f).isDone = true ↔ f.kind = 1) ∧ ((Ending.good f).isRefused = true ↔ f.kind = 2) ∧
    (Ending.good f).isGood = true ∧
    ∀ x : Ending, (x = .damaged ∨ x = .timeout) → x.isDone = false ∧ x.isRefused = false ∧ x.isGood = false) ∧
  (∀ (s : State) (n : ArmId) (t : Tag) (p : Position) (retries : Nat) (x : Ending),
    (x.isDone = true ∨ s.nodeLost t = true) → driveOutcome n t p retries x s = s) ∧
  ∀ (s : State) (n : ArmId) (t : Tag),
    ((s.config n).valve = some t → s.nodeLost t = false → ∀ p,
      (∀ before after u q retries, s.cmdQueue = before ++ .valve n u q retries :: after →
        (∀ c ∈ before ++ after, c.isValveOf n = false) →
        queueValve n p s = { s with cmdQueue := before ++ .valve n u p 0 :: after }) ∧
      ((∀ c ∈ s.cmdQueue, c.isValveOf n = false) → s.cmdQueue.length < 8 →
        queueValve n p s = { s with cmdQueue := s.cmdQueue ++ [.valve n t p 0] })) ∧
    ((s.config n).valve = some t → s.nodeLost t = true → ∀ p, queueValve n p s = s) ∧
    (s.session.readerTag = none → ∀ code, display code s = s) ∧
    (s.session.readerTag = some t → ∀ code,
      (s.nodeLost t = true → display code s = s) ∧
      (s.nodeLost t = false →
        (∀ before after u old, s.cmdQueue = before ++ .display u old :: after →
          (∀ c ∈ before ++ after, c.isDisplay = false) →
          display code s = { s with cmdQueue := before ++ .display t code :: after }) ∧
        ((∀ c ∈ s.cmdQueue, c.isDisplay = false) →
          (s.valveReserve < 8 - s.cmdQueue.length →
            display code s = { s with cmdQueue := s.cmdQueue ++ [.display t code] }) ∧
          (8 - s.cmdQueue.length ≤ s.valveReserve → display code s = s)))) ∧
    ∀ (p : Position) (retries : Nat) (x : Ending), s.nodeLost t = false → x.isDone = false →
      (s.valveQueued n = true → driveOutcome n t p retries x s = s) ∧
      (s.valveQueued n = false →
        (p = .closed → x.isGood = false →
          driveOutcome n t p retries x s = { s with cmdQueue := .valve n t .closed retries :: s.cmdQueue }) ∧
        ((p ≠ .closed ∨ x.isGood = true) → retries < 2 →
          driveOutcome n t p retries x s = { s with cmdQueue := .valve n t p (retries + 1) :: s.cmdQueue }) ∧
        (p = .closed → x.isGood = true → 2 ≤ retries → driveOutcome n t p retries x s = s) ∧
        (p ≠ .closed → 2 ≤ retries →
          (((s.arm n).commanded ≠ p ∨ (s.armState n).isMoving = false) → driveOutcome n t p retries x s = s) ∧
          ∀ c, (s.arm n).commanded = p → (s.armState n).isMoving = true → s.heldComp n = some c →
            let u := driveOutcome n t p retries x s
            u.armState n = .blocked ∧ (u.arm n).blockCause = some .valve ∧ (u.arm n).trip = true ∧
            (u.arm n).held = none ∧ (u.arm n).commanded = .closed ∧ u.permissive.bayPermit = false ∧
            u.status.flags.valveFault = true ∧
            (∃ y ∈ u.session.comps, y.number = c.number ∧ y.state = .short ∧ y.flags.short = true ∧
              y.flags.valveFault = true) ∧
            u = { s with
              arms := u.arms, session := u.session, banks := u.banks, dosing := u.dosing, notes := u.notes
              cmdQueue := u.cmdQueue, status := u.status, permissive := u.permissive }))

/-- During a ROLL a good chained response is relayed, counted, scored for its own tag and delivered (R191, R176), a
damaged one is only counted (R191). The closing response is BROKEN with both counts after any damage; else DATA with
the count before the object's data; else REFUSED with the reason of a QUERY and the count (R192). The effects of the
read stand: the status flags clear the declared mark, and a slot header's response carries what its sending will clear.
That a response is relayed before it is scored and delivered (log 13), that one counts although the ROLL is still being
sent (log 18), and that a count above 255 is sent modulo 256 in its byte (log 51), are the model's choices, and that
the 10 ms of silence that end it (R191) are a difference of readings of the millisecond counter its reading of R197
(log 52). -/
def Obligations.RollRelaysCountsAndCloses : Prop :=
  ∀ (s : State) (e : Exchange) (f : Frame) (bytes : List Byte) (relayed damaged : Nat),
    s.fieldListens → s.awaits e → e.source = .roll relayed damaged → e.dropped = false →
    e.muted = false → s.up.outgoing.length < 8 →
    (f.payload.length ≤ 48 → f.dir = .response →
      let relays : State :=
        { s with
          up := { s.up with outgoing := s.up.outgoing ++ [{ frame := f }] }
          field :=
            { s.fieldHeardNow.field with
              exchange := s.fieldHeardNow.field.exchange.map fun x =>
                { x with source := .roll (relayed + 1) damaged } } }
      exec (.rollChainedResponse f) s = .next
        (deliver (classify s.acceptance f) f (scoreGood f.tag relays)) ∧
      (isNodeTag f.tag = true → (s.node f.tag).state = .ok → (s.node f.tag).score < 40 →
        scoreGood f.tag relays = relays.withScore f.tag ((s.node f.tag).score - 1))) ∧
    (bytes.length ≤ 55 → rxStatus bytes = .whole false →
      exec (.rollDamagedResponse bytes) s = .next
        { s with
          field :=
            { s.fieldHeardNow.field with
              exchange := s.fieldHeardNow.field.exchange.map fun x =>
                { x with source := .roll relayed (damaged + 1) } }
          status := s.status.linkEvent .fieldCrc }) ∧
    (e.toSend = 0 → 10 ≤ (s.clock.ms - e.waitFrom).toNat →
      let t : State := { s with field := { s.field with exchange := none } }
      (0 < damaged →
        exec .rollEnd s = .next
          (t.answers 3 0 e.frame.addr [s.attention, BitVec.ofNat 8 relayed, BitVec.ofNat 8 damaged])) ∧
      (∀ data, damaged = 0 → queryAddress e.frame.addr t = .ok data →
        objectAt e.frame.addr ≠ some .statusFlags → (∀ i, objectAt e.frame.addr ≠ some (.slotHeader i)) →
        exec .rollEnd s = .next
          (t.answers 0 0 e.frame.addr (s.attention :: BitVec.ofNat 8 relayed :: data))) ∧
      (damaged = 0 → e.frame.addr = 0x0002 →
        ∃ data, queryAddress 0x0002 t = .ok data ∧
          exec .rollEnd s = .next
            (let a := t.answers 0 0 0x0002 (s.attention :: BitVec.ofNat 8 relayed :: data)
             { a with status := { a.status with declared := false } })) ∧
      (∀ (i : Fin 16) (x : NoteSlot), damaged = 0 → e.frame.addr = BitVec.ofNat 16 (0x4000 + i.val) →
        s.notes.slots[i.val]? = some x →
        exec .rollEnd s = .next
          { t with
            up :=
              { s.up with
                outgoing := s.up.outgoing ++
                  [{ frame :=
                      { dir := .response, kind := 0, tag := 0, addr := e.frame.addr
                        payload := s.attention :: BitVec.ofNat 8 relayed ::
                          ([match x.state with | .free => 0 | .reserved => 1 | .updating => 2 | .filled => 3,
                            if x.isNew then 1 else 0, BitVec.ofNat 8 x.written] : List Byte) ++
                          beBytes 4 (x.serial.getD 0) }
                     header :=
                      if x.state = .filled then x.serial.map (fun serial => (i.val, serial)) else none }] } }) ∧
      ∀ reason, damaged = 0 → queryAddress e.frame.addr t = .error reason →
        exec .rollEnd s = .next
          (t.answers 2 0 e.frame.addr [reason.code, s.attention, BitVec.ofNat 8 relayed]))

/-! ### Reports -/

/-- A temperature, valve, injector, permissive or reader report updates its record; one that the arm's configuration
does not name, or from a LOST node, changes nothing (R48, R80, R100, R101, R111, R117, R180). A valve report stands in
the arm record, keeps the closed-seen mark while a close time is present, and is followed by the settle test (R48,
R53). A permissive report decides the health: a loss halts the active arms with PERMISSIVE, their compartments flagged
(R113); a return takes PERMISSIVE out of every set (R114); a change of its deadman counter renews the deadman, to warn
after 75 s and expire after 90 s (R117). A reader report gives a card event when its card count has moved, a key
overrun when its key count has moved by more than 8, and then a key event for each of its last keys, at most 8, in the
order pressed; each records the reader tag (R181, R4). A key in VACANT or ENDING is discarded, and an overrun empties
the digit entry in every state (R4). That a permissive or reader report of tag 0 or 63, which R110 and R180 give no
such tag, is taken like any other is the model's choice (log 43). -/
def Obligations.ReportsUpdateTheirRecords : Prop :=
  ((∀ d, d ≤ 9 → keyOfCode d = some (.digit d)) ∧ keyOfCode 10 = some .enter ∧ keyOfCode 11 = some .start ∧
    keyOfCode 12 = some .stop ∧ keyOfCode 13 = some .finish ∧ ∀ code, 13 < code → keyOfCode code = none) ∧
  (∀ s : State,
    ((s.session.state = .vacant ∨ s.session.state = .ending) →
      (∀ k, keyEvent k s = s) ∧ overrunEvent s = { s with session := { s.session with digits := [] } }) ∧
    ((s.session.state = .codeEntry ∨ s.session.state = .opened) →
      overrunEvent s =
        { s with
          session :=
            { s.session with
              digits := [], lastKey := some s.clock.ms
              idleBase := if s.session.state = .opened then some s.clock.ms else s.session.idleBase } })) ∧
  ∀ (s : State) (n : ArmId) (k : Slot) (tag : Tag),
    (s.nodeLost tag = true → ∀ x valid v d last p count r,
      temperatureReport n tag x valid s = s ∧ valveReport n tag v s = s ∧ injectorReport n k tag d last s = s ∧
      permissiveReport tag p count s = s ∧ readerReport tag r s = s ∧ meterReport n tag count valid s = s) ∧
    (∀ x valid, (s.config n).temp ≠ some tag → temperatureReport n tag x valid s = s) ∧
    (∀ v, (s.config n).valve ≠ some tag → valveReport n tag v s = s) ∧
    (∀ d last, (s.config n).injector.get k ≠ some tag → injectorReport n k tag d last s = s) ∧
    (∀ count ok, (s.config n).meter ≠ some tag → meterReport n tag count ok s = s) ∧
    (s.nodeLost tag = false →
      ((s.config n).temp = some tag → ∀ (x : Int) (valid : Bool),
        (valid = true → -4000 ≤ x → x ≤ 6000 →
          temperatureReport n tag x valid s =
            { s with
              metering := s.metering.set n
                { s.meter n with
                  heldTemp := some (x, s.clock.ms), invalidMark := false, staleMark := false
                  staleDeadline := some (s.clock.ms + BitVec.ofNat 32 10000) }
              arms := s.arms.set n { s.arm n with causes := { (s.arm n).causes with tempStale := false } } }) ∧
        ((valid = false ∨ x < -4000 ∨ 6000 < x) →
          temperatureReport n tag x valid s =
            { s with metering := s.metering.set n { s.meter n with invalidMark := true } })) ∧
      ((s.config n).valve = some tag → (s.arm n).trip = false → ∀ v : ValveReport,
        valveReport n tag v s =
          settleTest n
            { s with
              arms := s.arms.set n
                { s.arm n with
                  lastValve := some v
                  closedSeen :=
                    if (s.arm n).closeTime.isSome then v.position == .closed else (s.arm n).closedSeen } } ∧
        ((s.arm n).closeTime = none →
          valveReport n tag v s = { s with arms := s.arms.set n { s.arm n with lastValve := some v } }) ∧
        ((s.arm n).closeTime.isSome = true → v.position ≠ .closed →
          valveReport n tag v s =
            { s with arms := s.arms.set n { s.arm n with lastValve := some v, closedSeen := false } }) ∧
        ((s.arm n).closeTime.isSome = true → v.position = .closed →
          ((s.arm n).zeroRun < 2 ∨ (s.arm n).settled = true) →
          valveReport n tag v s =
            { s with arms := s.arms.set n { s.arm n with lastValve := some v, closedSeen := true } }) ∧
        ((s.arm n).closeTime.isSome = true → v.position = .closed → 2 ≤ (s.arm n).zeroRun →
          (s.arm n).settled = false → s.armState n = .halted → s.session.hostAbort = false →
          valveReport n tag v s =
            { s with
              arms := s.arms.set n
                { s.arm n with
                  lastValve := some v, closedSeen := true, settled := true, settleDeadline := none } })) ∧
      ((s.config n).valve = some tag → (s.arm n).trip = true → (s.arm n).closeTime = none →
        s.nodeOk tag = true → ∀ v : ValveReport, v.position = .closed →
        (valveReport n tag v s).arm n = { s.arm n with lastValve := some v, trip := false } ∧
        (valveReport n tag v s).permissive.bayPermit = (valveReport n tag v s).bayPermitHolds) ∧
      ((s.config n).injector.get k = some tag → ∀ d last : Nat,
        ((s.dose n k).baseline = none →
          injectorReport n k tag d last s =
            { s with
              dosing := s.dosing.set n ((s.dosing.get n).set k
                { s.dose n k with baseline := some d, nextShot := (last + 1) % 256 }) }) ∧
        ∀ base number, (s.dose n k).baseline = some base → (s.dose n k).outstanding = none →
          (s.armState n).isLoading = true → (s.arm n).held = some number →
          injectorReport n k tag d last s =
            { s with
              dosing := s.dosing.set n ((s.dosing.get n).set k { s.dose n k with baseline := some d })
              session :=
                { s.session with
                  comps := s.session.comps.map fun c =>
                    if c.number = number then
                      c.modAdditive k fun a =>
                        { a with dispensed := min (a.dispensed + (d + 4294967296 - base) % 4294967296) 4294967295 }
                    else c } }) ∧
      (∀ (p : PermissiveReport) (count : Nat),
        let t := permissiveReport tag p count s
        let healthy := p.ground && p.dry && p.hose && p.estop
        let lost (m : ArmId) : Bool := s.permissive.healthy && !healthy && (s.armState m).isActive
        t.permissive.bayPermit = t.bayPermitHolds ∧
        ((s.permissive.tag ≠ some tag ∨ s.permissive.deadmanBase = none ∨ s.permissive.deadmanBase = some count) →
          t.permissive =
            { s.permissive with
              tag := some tag, last := some p, ageDeadline := some (s.clock.ms + BitVec.ofNat 32 2000)
              healthy := healthy, deadmanBase := some count, bayPermit := t.permissive.bayPermit }) ∧
        (s.permissive.tag = some tag → (∃ base, s.permissive.deadmanBase = some base ∧ base ≠ count) →
          t.permissive =
            { s.permissive with
              last := some p, ageDeadline := some (s.clock.ms + BitVec.ofNat 32 2000), healthy := healthy
              deadmanBase := some count, deadman := .live
              warnAt := some (s.clock.ms + BitVec.ofNat 32 75000)
              expireAt := some (s.clock.ms + BitVec.ofNat 32 90000), bayPermit := t.permissive.bayPermit }) ∧
        (∀ m : ArmId,
          (lost m = true → t.arm m = s.haltedArm m { (s.arm m).causes with permissive := true }) ∧
          (s.permissive.healthy = false → healthy = true →
            t.arm m = { s.arm m with causes := { (s.arm m).causes with permissive := false } }) ∧
          (lost m = false → (s.permissive.healthy = true ∨ healthy = false) → t.arm m = s.arm m)) ∧
        ((∀ m, lost m = false ∨ (s.armState m).isMoving = false) → t.cmdQueue = s.cmdQueue) ∧
        t = { s with
          permissive := t.permissive, arms := t.arms, cmdQueue := t.cmdQueue
          session :=
            { s.session with
              comps := s.flagged lost fun f => { f.withHalted with permissive := true } } }) ∧
      ∀ r : ReaderReport,
        ((s.reader.tag ≠ some tag ∨ s.reader.seqs = none) →
          readerReport tag r s =
            { s with reader := { tag := some tag, seqs := some (r.cardSeq, r.keySeq) } }) ∧
        ∀ cardSeq keySeq, s.reader.tag = some tag → s.reader.seqs = some (cardSeq, keySeq) → r.cardSeq < 256 →
          cardSeq < 256 → r.keySeq < 256 → keySeq < 256 →
          let seen (u : State) : State := { u with session := { u.session with readerTag := some tag } }
          let carded := if r.cardSeq = cardSeq then s else cardEvent r.card (seen s)
          let keys := (r.keySeq + 256 - keySeq) % 256
          let overrun := if 8 < keys then overrunEvent (seen carded) else carded
          let keyed := (r.keys.drop (r.keys.length - min keys 8)).foldl
            (fun u code => match keyOfCode code with | none => u | some key => keyEvent key (seen u)) overrun
          readerReport tag r s = { keyed with reader := { tag := some tag, seqs := some (r.cardSeq, r.keySeq) } } ∧
          (r.keySeq = keySeq → keyed = carded))

/-! ### Metering -/

/-- A first count only sets the baseline: no plausibility test, no increment, no zero-delta count, and the
implausible-sample run becomes 0 (R72). -/
def Obligations.FirstCountOnlySetsTheBaseline : Prop :=
  ∀ (s : State) (n : ArmId) (tag : Tag) (count : Nat),
    (s.config n).meter = some tag → s.nodeLost tag = false → (s.meter n).baseline = none →
    meterReport n tag count true s =
      { s with metering := s.metering.set n { s.meter n with baseline := some (count, s.clock.ms), run := 0 } }

/-- A count after the baseline: implausible above twice the maximum flow, the third in a row a meter fault (R73 to R75,
R63); else accepted (R76), and its gross increment credited to the arm's totalizer and, on a loading arm, to the held
compartment (R85), otherwise to the unassigned count (R88). What follows on a loading arm stands in order (R87): the
flags TEMP HELD (R82) and OVERRANGE (R86); the offers of DRIVER STOP at a full accumulator, of TEMP STALE under the
stale mark and of INJECTOR LOST while the node of a slot in use is LOST (R106); the staging test (R52); the owed
additive of both slots and the shot test of each (R96, R97), slot 1 first, which is the model's choice (log 44); and,
if the arm was CLOSING or HALTED, the zero-delta run and the settle test (R53). -/
def Obligations.AcceptedSampleIsCredited : Prop :=
  ∀ (s : State) (n : ArmId) (tag : Tag) (count c0 : Nat) (t0 : Ms),
    (s.config n).meter = some tag → s.nodeLost tag = false → (s.meter n).baseline = some (c0, t0) →
    let k := (s.config n).kFactor
    let delta := (count + 65536 - c0) % 65536
    let rate := delta * 60000000 / (k * max 20 (min 5000 (s.clock.ms - t0).toNat))
    (∀ ok : Bool, (ok = false ∨ 2 * (s.config n).maxFlow < rate) →
      ((s.meter n).run < 2 →
        meterReport n tag count ok s =
          { s with
            status :=
              { s.status with
                counters :=
                  { s.status.counters with implausible := min (s.status.counters.implausible + 1) 65535 } }
            metering := s.metering.set n { s.meter n with run := (s.meter n).run + 1 } }) ∧
      (2 ≤ (s.meter n).run →
        let t := meterReport n tag count ok s
        t.meter n = { s.meter n with run := 0, baseline := none } ∧ t.status.flags.meterFault = true ∧
        ((s.armState n).isLoading = true → (s.heldComp n).isSome = true →
          t.armState n = .blocked ∧ (t.arm n).blockCause = some .meter ∧ (t.arm n).held = none ∧
          (t.arm n).trip = (s.arm n).trip) ∧
        ((s.armState n = .idle ∨ s.armState n = .blocked) → t.arm n = s.arm n))) ∧
    (rate ≤ 2 * (s.config n).maxFlow →
      let t := meterReport n tag count true s
      t.meter n = { s.meter n with baseline := some (count, s.clock.ms), run := 0 } ∧
      ((s.armState n).isLoading = false →
        let g := grossStep delta 100000 k (s.arm n).unassignedRes
        t = { s with
          metering := s.metering.set n { s.meter n with baseline := some (count, s.clock.ms), run := 0 }
          arms := s.arms.set n
            { s.arm n with
              totalizer := ((s.arm n).totalizer + g.1) % 1000000000000
              unassigned := ((s.arm n).unassigned + g.1) % 1000000000000
              unassignedRes := g.2 }
          status :=
            if 0 < g.1 then { s.status with flags := { s.status.flags with unassignedFlow := true } }
            else s.status }) ∧
      ∀ c, (s.armState n).isLoading = true → s.heldComp n = some c →
        let g := grossStep delta (s.meterFactor n c rate) k c.grossRes
        let st := standardStep g.1 (vcf (s.betaOf c) (s.meter n).temperature) c.standardRes
        (t.arm n).totalizer = ((s.arm n).totalizer + g.1) % 1000000000000 ∧
        (t.arm n).unassigned = (s.arm n).unassigned ∧
        ∃ x ∈ t.session.comps, x.number = c.number ∧
          x.gross = c.gross + min g.1 (99999999 - c.gross) ∧ x.grossRes = g.2 ∧
          x.standard = c.standard + min st.1 (99999999 - c.standard) ∧ x.standardRes = st.2 ∧
          x.tempSum = c.tempSum + (min g.1 (99999999 - c.gross) : Nat) * (s.meter n).temperature ∧
        t = { s with
          metering := t.metering, arms := t.arms, session := t.session, banks := t.banks, dosing := t.dosing
          notes := t.notes, cmdQueue := t.cmdQueue, status := t.status } ∧
        (let m := s.meter n
        let stale : Bool :=
          m.invalidMark || m.staleMark ||
            match m.heldTemp with
              | none => true
              | some (_, arrival) => decide (2000 < (s.clock.ms - arrival).toNat)
        let full : Bool :=
          decide (0 < g.1) && (c.gross + min g.1 (99999999 - c.gross) == 99999999 ||
            c.standard + min st.1 (99999999 - c.standard) == 99999999)
        let lost (k : Slot) : Bool :=
          (c.additive.get k).isSome &&
            match (s.config n).injector.get k with | none => false | some u => s.nodeLost u
        let credited : State :=
          { s with
            metering := s.metering.set n { m with baseline := some (count, s.clock.ms), run := 0 }
            arms := s.arms.set n
              { s.arm n with totalizer := ((s.arm n).totalizer + g.1) % 1000000000000 }
            session :=
              { s.session with
                comps := s.session.comps.map fun x =>
                  if x.number = c.number then
                    { x with
                      gross := x.gross + min g.1 (99999999 - x.gross), grossRes := g.2
                      standard := x.standard + min st.1 (99999999 - x.standard), standardRes := st.2
                      tempSum := x.tempSum + (min g.1 (99999999 - x.gross) : Nat) * m.temperature
                      flags :=
                        { x.flags with
                          tempHeld := x.flags.tempHeld || stale, overrange := x.flags.overrange || full } }
                  else x } }
        let u1 := if full then offerCause n .driverStop credited else credited
        let u2 := if m.staleMark then offerCause n .tempStale u1 else u1
        let u3 := if lost .s1 || lost .s2 then offerCause n .injectorLost u2 else u2
        let u4 := recomputeOwed n .s2 (recomputeOwed n .s1 (stagingTest n u3))
        let u5 := paceSlot n .s2 (paceSlot n .s1 u4)
        (s.armState n ≠ .closing → s.armState n ≠ .halted → t = u5) ∧
        ((s.armState n = .closing ∨ s.armState n = .halted) →
          ((u5.arm n).closeTime = none → t = settleTest n u5) ∧
          ((u5.arm n).closeTime.isSome = true →
            t = settleTest n
              { u5 with
                arms := u5.arms.set n
                  { u5.arm n with
                    zeroRun := if delta = 0 then min ((u5.arm n).zeroRun + 1) 2 else 0 } }))))

/-- The arithmetic of metering: gross and standard increments carry their remainders, so that nothing is lost (R79,
R84). The volume correction factor is 1,000,000 less the expansion coefficient's share of the distance from 15 °C, to
the nearest with halves to even, which lies within 932,500 to 1,082,500 ppm (R83). The meter factor is that of the
curve's first point up to its rate, of its last point from its rate on, and between two points the nearest to the
straight line, halves away from zero, so that it lies between theirs (R78); the rate is held to 9,999 and the curve is
the one the product names for the arm in the captured bank (R77). Owed additive is the whole number of microlitres at
or above the ratio's share (R96). -/
def Obligations.MeteringArithmeticLosesNothing : Prop :=
  (∀ k residue delta factor : Nat, 0 < k →
    let g := grossStep delta factor k residue
    g.1 * (k * 100000) + g.2 = delta * 1000000 * factor + residue ∧ g.2 < k * 100000) ∧
  (∀ incG factor residue : Nat,
    let x := standardStep incG (factor : Int) residue
    x.1 * 1000000 + x.2 = incG * factor + residue ∧ x.2 < 1000000) ∧
  (∀ (beta : Nat) (t : Int), ∃ corr : Int,
    vcf beta t = 1000000 - corr ∧ 2 * (100 * corr - beta * (t - 1500)).natAbs ≤ 100 ∧
    (2 * (100 * corr - beta * (t - 1500)).natAbs = 100 → corr % 2 = 0)) ∧
  (∀ (beta : Nat) (t : Int), beta ≤ 1500 → -4000 ≤ t → t ≤ 6000 →
    932500 ≤ vcf beta t ∧ vcf beta t ≤ 1082500 ∧ vcf 0 t = 1000000) ∧
  (∀ (points : List CurvePoint) (rate : Nat), points.Pairwise (fun p q => p.rate < q.rate) →
    (∀ p, points.head? = some p → rate ≤ p.rate → curveFactor points rate = p.factor) ∧
    (∀ p, points.getLast? = some p → p.rate ≤ rate → curveFactor points rate = p.factor) ∧
    ∀ i p q, points[i]? = some p → points[i + 1]? = some q → p.rate ≤ rate → rate < q.rate →
      let num : Int := ((q.factor : Int) - p.factor) * ((rate : Int) - p.rate)
      let den : Int := (q.rate : Int) - p.rate
      ∃ rise : Int, (curveFactor points rate : Int) = p.factor + rise ∧
        2 * (den * rise - num).natAbs ≤ den.natAbs ∧
        (2 * (den * rise - num).natAbs = den.natAbs → num.natAbs < (den * rise).natAbs)) ∧
  (∀ (s : State) (n : ArmId) (c : Comp) (rate : Nat) (bank : Bank) (p : Product) (points : List CurvePoint),
    c.bank = some bank → (s.banks.tables bank).product? c.product = some p →
    (s.banks.tables bank).curve? (p.curve.get n) = some points →
    s.meterFactor n c rate = curveFactor points (min rate 9999) ∧ s.betaOf c = p.beta) ∧
  (∀ (p q : CurvePoint) (rate : Nat), p.rate ≤ rate → rate < q.rate →
    min p.factor q.factor ≤ segmentFactor p q rate ∧ segmentFactor p q rate ≤ max p.factor q.factor ∧
    segmentFactor p q p.rate = p.factor) ∧
  ∀ gross ratio : Nat,
    gross * ratio ≤ owedFor gross ratio * 1000 ∧ owedFor gross ratio * 1000 < gross * ratio + 1000

/-- A CLOSING arm that settles completes its compartment: closing totalizer, the learned anticipation, OVERRUN above
the overrun limit, UNDER PRESET more than 10 L short, DONE, and the arm IDLE holding nothing (R54, R56). A HALTED arm
that settles is marked settled; under HOST ABORT its compartment becomes SHORT and the arm is released (R62); an arm
that is not settled, or already marked so, is left as it is (R53). The staging test on the way there takes the first
that applies of close, trim and full flow (R52). The end check at a release flags a slot without an injector ADD UNDER
and any other that lies outside its band ADD UNDER or ADD OVER, sets ADDITIVE FAULT with any of them, and abandons the
outstanding shots (R108). -/
def Obligations.SettledArmCompletesItsCompartment : Prop :=
  (∀ (s : State) (n : ArmId) (c : Comp),
    s.armState n = .closing → s.heldComp n = some c → (s.arm n).closeTime.isSome = true →
    (s.arm n).closedSeen = true → 2 ≤ (s.arm n).zeroRun → (s.arm n).settled = false →
    let t := settleTest n s
    t.armState n = .idle ∧ (t.arm n).held = none ∧ (t.arm n).commanded = (s.arm n).commanded ∧
    (t.arm n).totalizer = (s.arm n).totalizer ∧ (t.arm n).causes = {} ∧
    ((t.arm n).anticipation : Int) =
      max 0 (min 50000 (((s.arm n).anticipation : Int) + ((c.gross : Int) - (c.preset : Int)).tdiv 2)) ∧
    (∃ d ∈ t.session.comps, d.number = c.number ∧ d.state = .done ∧ d.closing = some (s.arm n).totalizer ∧
      d.gross = c.gross ∧
      (d.flags.overrun = true ↔
        c.flags.overrun = true ∨ c.preset + (s.config n).overrunLimit * 1000 < c.gross) ∧
      (d.flags.underPreset = true ↔ c.flags.underPreset = true ∨ c.gross + 10000 < c.preset)) ∧
    (∀ m : ArmId, m ≠ n → t.arm m = s.arm m) ∧
    t = { s with
      arms := t.arms, session := t.session, banks := t.banks, dosing := t.dosing, notes := t.notes
      cmdQueue := t.cmdQueue, status := t.status }) ∧
  (∀ (s : State) (n : ArmId),
    ((s.arm n).closeTime = none ∨ (s.arm n).closedSeen = false ∨ (s.arm n).zeroRun < 2 ∨
        (s.arm n).settled = true →
      settleTest n s = s) ∧
    (s.armState n = .halted → (s.arm n).closeTime.isSome = true → (s.arm n).closedSeen = true →
      2 ≤ (s.arm n).zeroRun → (s.arm n).settled = false →
      (s.session.hostAbort = false →
        settleTest n s =
          { s with arms := s.arms.set n { s.arm n with settled := true, settleDeadline := none } }) ∧
      ∀ c, s.session.hostAbort = true → s.heldComp n = some c →
        let t := settleTest n s
        t.armState n = .idle ∧ (t.arm n).held = none ∧ (t.arm n).causes = {} ∧
        (t.arm n).anticipation = (s.arm n).anticipation ∧
        (∃ d ∈ t.session.comps, d.number = c.number ∧ d.state = .short ∧ d.flags.short = true ∧
          (c.closing = none → d.closing = some (s.arm n).totalizer)) ∧
        (∀ m : ArmId, m ≠ n → t.arm m = s.arm m) ∧
        t = { s with
          arms := t.arms, session := t.session, banks := t.banks, dosing := t.dosing, notes := t.notes
          cmdQueue := t.cmdQueue, status := t.status })) ∧
  (∀ (s : State) (n : ArmId) (c : Comp), s.heldComp n = some c →
    let left := c.preset - c.gross
    let trims := s.armState n = .flowing ∧ left ≤ (s.config n).trimVolume * 1000
    let opens := s.armState n = .starting ∧ (s.config n).startVolume * 1000 ≤ c.gross - (s.arm n).gStart
    ((s.armState n).isMoving = false → stagingTest n s = s) ∧
    ((s.armState n).isMoving = true →
      (left ≤ (s.arm n).anticipation →
        stagingTest n s =
          { s with
            arms := s.arms.set n
              { s.arm n with
                state := .closing, commanded := .closed, closeTime := some s.clock.ms, closedSeen := false
                settled := false, zeroRun := 0
                settleDeadline := some (s.clock.ms + BitVec.ofNat 32 15000) }
            cmdQueue := (queueValve n .closed s).cmdQueue }) ∧
      ((s.arm n).anticipation < left →
        (trims →
          stagingTest n s =
            { s with
              arms := s.arms.set n { s.arm n with state := .trimming, commanded := .low }
              cmdQueue := (queueValve n .low s).cmdQueue }) ∧
        (opens →
          stagingTest n s =
            { s with
              arms := s.arms.set n { s.arm n with state := .flowing, commanded := .full }
              cmdQueue := (queueValve n .full s).cmdQueue }) ∧
        (¬trims → ¬opens → stagingTest n s = s)))) ∧
  ∀ (s : State) (n : ArmId) (c : Comp), s.heldComp n = some c →
    let served (k : Slot) (p : RecipeSlot) :=
      (s.config n).injector.get k ≠ none ∧
      (c.bank.bind fun bank => s.banks.prescription bank c.product k) = some p
    let tooLow (k : Slot) := ∃ a, c.additive.get k = some a ∧
      ((s.config n).injector.get k = none ∨
        ∃ p, served k p ∧ a.owed * p.tolerance / 100 + p.shot < a.owed - a.dispensed)
    let tooHigh (k : Slot) := ∃ a, c.additive.get k = some a ∧
      ∃ p, served k p ∧ a.owed * p.tolerance / 100 + p.shot < a.dispensed - a.owed
    let t := endCheck n s
    (∃ y ∈ t.session.comps,
      (y.flags.addUnder = true ↔ c.flags.addUnder = true ∨ ∃ k, tooLow k) ∧
      (y.flags.addOver = true ↔ c.flags.addOver = true ∨ ∃ k, tooHigh k) ∧
      y = { c with flags := { c.flags with addUnder := y.flags.addUnder, addOver := y.flags.addOver } }) ∧
    (t.status.flags.additiveFault = true ↔ s.status.flags.additiveFault = true ∨ ∃ k, tooLow k ∨ tooHigh k) ∧
    (∀ k, t.dose n k = { s.dose n k with outstanding := none, deadline := none }) ∧
    (∀ m k, m ≠ n → t.dose m k = s.dose m k) ∧
    t = { s with
      session := { s.session with comps := t.session.comps }, dosing := t.dosing
      status :=
        { s.status with flags := { s.status.flags with additiveFault := t.status.flags.additiveFault } } }

/-! ### The session -/

/-- The admission of a card in VACANT (R36, R5): the first check that fails gives its message; a card that passes all
nine goes to CODE ENTRY, or to OPEN when its permit has no driver code, consuming its order and reserving the
lowest-numbered FREE note slot (R9). In the other states another card is told BAY BUSY (R6). In OPEN the keys select a
compartment (R11): a seventh digit and an ENTER of a number that is not PENDING ask for SELECT COMPARTMENT, the checks
follow in order, and the first arm that suits is taken: ARMED with its deadline 120 s ahead, its bank captured and its
additive fields set up (R12, R42, R49, R95). That ENTER under HOST ABORT, which does no more, empties the digit entry is
the model's reading (log 21). -/
def Obligations.AdmissionChecksInOrder : Prop :=
  (∀ (s : State) (card : Nat),
    (s.session.state ≠ .vacant →
      cardEvent card s = if s.session.card = some card then s else display 11 s) ∧
    (s.session.state = .vacant →
      (s.mode ≠ .run ∨ s.status.hostLost = true → cardEvent card s = display 12 s) ∧
      (s.mode = .run → s.status.hostLost = false →
        ((∀ p ∈ s.store.permits, p.card ≠ card) → cardEvent card s = display 5 s) ∧
        ∀ p, findPermit s.store.permits card = some p →
          (p.status = .locked → cardEvent card s = display 4 s) ∧
          (p.status = .suspended → cardEvent card s = display 5 s) ∧
          (p.status = .active → p.expiry < s.clock.day → cardEvent card s = display 6 s) ∧
          (p.status = .active → s.clock.day ≤ p.expiry →
            ((∀ o ∈ s.store.orders, o.card ≠ card) → cardEvent card s = display 7 s) ∧
            ∀ o, findOrder s.store.orders card = some o →
              let permitted := ∀ e ∈ o.entries, ∃ r,
                (s.banks.tables s.banks.active).product? e.product = some r ∧ p.classes.getLsbD r.cls = true
              (¬permitted → cardEvent card s = display 8 s) ∧
              (permitted → p.maxLoad < (o.entries.map fun e => e.preset).sum →
                cardEvent card s = display 9 s) ∧
              (permitted → (o.entries.map fun e => e.preset).sum ≤ p.maxLoad →
                ((∀ x ∈ s.notes.slots, x.state ≠ .free) → cardEvent card s = display 10 s) ∧
                ∀ (i : Nat) (x : NoteSlot), s.notes.slots[i]? = some x → x.state = .free →
                  (∀ j y, j < i → s.notes.slots[j]? = some y → y.state ≠ .free) →
                  (∀ code, p.code = some code →
                    cardEvent card s = display 2
                      { s with
                        session :=
                          { s.session with
                            state := .codeEntry, card := some card, carrier := some p.carrier, digits := []
                            codeDeadline := some (s.clock.ms + BitVec.ofNat 32 30000) } }) ∧
                  (p.code = none →
                    cardEvent card s = display 1
                      { s with
                        session :=
                          { s.session with
                            state := .opened, card := some card, carrier := some p.carrier
                            orderRef := some o.ref, vehicle := o.vehicle
                            openTime := some (s.clock.day, s.clock.second), hostAbort := false
                            hostLostDuring := false, digits := [], lastKey := some s.clock.ms
                            idleBase := some s.clock.ms, codeDeadline := none
                            comps := o.entries.map fun e =>
                              { number := e.number, product := e.product, preset := e.preset * 1000 } }
                        store := { s.store with orders := s.store.orders.filter fun y => y.card != card }
                        notes :=
                          { s.notes with
                            slots := s.notes.slots.set i { x with state := .reserved }, held := some i } })))))) ∧
  ∀ s : State, s.session.state = .opened →
    let entry (digits : List Nat) : State :=
      { s with
        session :=
          { s.session with digits := digits, lastKey := some s.clock.ms, idleBase := some s.clock.ms } }
    (∀ d,
      (s.session.digits.length < 6 → keyEvent (.digit d) s = entry (s.session.digits ++ [d])) ∧
      (6 ≤ s.session.digits.length → keyEvent (.digit d) s = display 13 (entry []))) ∧
    ((s.session.digits = [] ∨ s.session.hostAbort = true) → keyEvent .enter s = entry []) ∧
    ∀ card, s.session.card = some card → s.session.digits ≠ [] → s.session.hostAbort = false →
      let number := s.session.digits.foldl (fun v d => v * 10 + d) 0
      ((∀ c ∈ s.session.comps, ¬(c.number = number ∧ c.state = .pending)) →
        keyEvent .enter s = display 13 (entry [])) ∧
      ∀ before c after, s.session.comps = before ++ c :: after → c.number = number → c.state = .pending →
        (∀ x ∈ before, ¬(x.number = number ∧ x.state = .pending)) →
        let permitted := ∃ p, findPermit s.store.permits card = some p ∧ p.status = .active ∧
          s.clock.day ≤ p.expiry ∧
          ∀ r, (s.banks.tables s.banks.active).product? c.product = some r → p.classes.getLsbD r.cls = true
        (¬permitted → keyEvent .enter s = display 19 (entry [])) ∧
        (permitted → (s.banks.tables s.banks.active).product? c.product = none →
          keyEvent .enter s = display 8 (entry [])) ∧
        ∀ r, permitted → (s.banks.tables s.banks.active).product? c.product = some r →
          let suits (a : ArmId) :=
            s.armState a = .idle ∧ (∃ v, (s.arm a).lastValve = some v ∧ v.coupler = true) ∧
            (∃ u, (s.config a).meter = some u ∧ s.nodeOk u = true) ∧
            (∃ u, (s.config a).valve = some u ∧ s.nodeOk u = true) ∧ r.curve.get a ≠ 0
          let additive (product : Nat) (k : Slot) : Option Additive :=
            (s.banks.prescription s.banks.active product k).map fun _ => {}
          (s.status.hostLost = true → keyEvent .enter s = display 12 (entry [])) ∧
          (s.status.hostLost = false → (∀ a, ¬suits a) → keyEvent .enter s = display 14 (entry [])) ∧
          ∀ a, s.status.hostLost = false → suits a → (∀ m, armNumber m < armNumber a → ¬suits m) →
            keyEvent .enter s = display 15
              { s with
                session :=
                  { s.session with
                    digits := [], lastKey := some s.clock.ms, idleBase := some s.clock.ms
                    comps := s.session.comps.map fun x =>
                      if x.number = c.number then
                        { x with
                          state := .armed, arm := some a, bank := some s.banks.active
                          additive := ⟨additive x.product .s1, additive x.product .s2⟩ }
                      else x }
                arms := s.arms.set a
                  { s.arm a with
                    state := .armed, held := some c.number, causes := {}, closedSeen := false, settled := false
                    zeroRun := 0, closeTime := none, haltEntry := none
                    armedDeadline := some (s.clock.ms + BitVec.ofNat 32 120000) }
                banks :=
                  { s.banks with
                    countA := s.banks.countA + (if s.banks.active = .a then 1 else 0)
                    countB := s.banks.countB + (if s.banks.active = .b then 1 else 0) } }

/-- The driver-code check (R39): a permit that is gone or SUSPENDED, or LOCKED, is withdrawn with its message; a code
that matches clears the failed attempts; one that does not is charged, and the third locks the permit out and sets
the flag LOCKOUT (R40). Nothing else changes. The keys of CODE ENTRY (R7): up to 6 digits are entered; ENTER submits
them and a seventh digit submits a wrong code, the entry emptied and the deadline 30 s ahead; START, STOP and END are
discarded. The outcome (R8, R38): a correct code repeats the checks of host lost and of the order, and opens the session
(R9) or returns it to VACANT with the message of the first that fails; a wrong one asks for CODE WRONG; one locked out
or withdrawn returns the session to VACANT with its message. -/
def Obligations.DriverCodeIsCheckedAndCharged : Prop :=
  (∀ (s : State) (card : Nat) (entered : Option (List Nat)),
    ((∀ p ∈ s.store.permits, p.card ≠ card) → codeCheck card entered s = (s, .withdrawn 5)) ∧
    ∀ p, findPermit s.store.permits card = some p →
      let written (attempts : Nat) (status : PermitStatus) : State :=
        { s with
          store :=
            { s.store with
              permits := s.store.permits.map fun q =>
                if q.card = card then { q with attempts := attempts, status := status } else q } }
      (p.status = .suspended → codeCheck card entered s = (s, .withdrawn 5)) ∧
      (p.status = .locked → codeCheck card entered s = (s, .withdrawn 4)) ∧
      (p.status = .active →
        ((p.code = none ∨ entered.isSome = true ∧ entered = p.code) →
          codeCheck card entered s = (written 0 .active, .correct)) ∧
        (p.code.isSome = true → entered ≠ p.code →
          (p.attempts + 1 < 3 → codeCheck card entered s = (written (p.attempts + 1) .active, .wrong)) ∧
          (2 ≤ p.attempts →
            codeCheck card entered s =
              ({ written 3 .locked with
                  status := { s.status with flags := { s.status.flags with lockout := true } } }, .lockedOut))))) ∧
  ∀ (s : State) (card : Nat), s.session.state = .codeEntry → s.session.card = some card →
    let entry (digits : List Nat) : State :=
      { s with session := { s.session with digits := digits, lastKey := some s.clock.ms } }
    (∀ d, s.session.digits.length < 6 → keyEvent (.digit d) s = entry (s.session.digits ++ [d])) ∧
    (s.session.digits = [] → keyEvent .enter s = entry []) ∧
    (∀ k, (k = .start ∨ k = .stop ∨ k = .finish) → keyEvent k s = entry s.session.digits) ∧
    ∀ (k : Key) (entered : Option (List Nat)),
      (k = .enter ∧ s.session.digits ≠ [] ∧ entered = some s.session.digits ∨
        (∃ d, k = .digit d) ∧ 6 ≤ s.session.digits.length ∧ entered = none) →
      let u : State :=
        { s with
          session :=
            { s.session with
              digits := [], lastKey := some s.clock.ms
              codeDeadline := some (s.clock.ms + BitVec.ofNat 32 30000) } }
      let v := (codeCheck card entered u).1
      let vacated (w : State) : State :=
        { w with
          session := { readerTag := s.session.readerTag }, notes := { w.notes with held := none }
          mode := if s.mode = .servicePending then .service else s.mode
          permissive :=
            if s.mode = .servicePending then { s.permissive with bayPermit := false } else s.permissive }
      ((codeCheck card entered u).2 = .wrong → keyEvent k s = display 3 v) ∧
      ((codeCheck card entered u).2 = .lockedOut → keyEvent k s = vacated (display 4 v)) ∧
      (∀ m, (codeCheck card entered u).2 = .withdrawn m → keyEvent k s = vacated (display m v)) ∧
      ((codeCheck card entered u).2 = .correct → ∀ p, findPermit s.store.permits card = some p →
        (s.status.hostLost = true → keyEvent k s = vacated (display 12 v)) ∧
        (s.status.hostLost = false →
          ((∀ o ∈ s.store.orders, o.card ≠ card) → keyEvent k s = vacated (display 7 v)) ∧
          ∀ o, findOrder s.store.orders card = some o →
            let permitted := ∀ x ∈ o.entries, ∃ r,
              (s.banks.tables s.banks.active).product? x.product = some r ∧ p.classes.getLsbD r.cls = true
            (¬permitted → keyEvent k s = vacated (display 8 v)) ∧
            (permitted → p.maxLoad < (o.entries.map fun x => x.preset).sum →
              keyEvent k s = vacated (display 9 v)) ∧
            (permitted → (o.entries.map fun x => x.preset).sum ≤ p.maxLoad →
              ∀ (i : Nat) (x : NoteSlot), s.notes.slots[i]? = some x → x.state = .free →
                (∀ j y, j < i → s.notes.slots[j]? = some y → y.state ≠ .free) →
                keyEvent k s = display 1
                  { v with
                    session :=
                      { s.session with
                        state := .opened, orderRef := some o.ref, vehicle := o.vehicle
                        openTime := some (s.clock.day, s.clock.second), hostAbort := false
                        hostLostDuring := false, digits := [], lastKey := some s.clock.ms
                        idleBase := some s.clock.ms, codeDeadline := none
                        comps := o.entries.map fun x =>
                          { number := x.number, product := x.product, preset := x.preset * 1000 } }
                    store := { v.store with orders := s.store.orders.filter fun y => y.card != card }
                    notes :=
                      { s.notes with
                        slots := s.notes.slots.set i { x with state := .reserved }, held := some i } })))

/-- START in OPEN (R14, R50, R60, R120): told SYSTEM OFFLINE outside RUN and STOPPED without health; else the deadman
is renewed, each ARMED arm starts its compartment, a settled HALTED arm with no other cause resumes, and a HALTED arm
that cannot resume only loses the causes START removes; LOADING is asked for when an arm was started or resumed, and
nothing otherwise. STOP (R15) halts the moving arms with DRIVER STOP, gives the ARMED ones back and asks for STOPPED;
the other arms stay. END (R16) asks for ARMS ACTIVE while an arm is active; else it gives the ARMED arms back, makes
the compartments of HALTED arms SHORT and releases the arms, makes what is PENDING NOT LOADED and enters ENDING, where
the compile begins (R21, R129). The digit entry is emptied by each, by END under HOST ABORT too, which does no more;
START under HOST ABORT is discarded with the digits kept (the model's reading, log 21). No two arms hold one
compartment (R44). -/
def Obligations.StartMovesArmedAndSettledArms : Prop :=
  (∀ s : State, s.session.hostAbort = false →
    let emptied : State := { s with session := { s.session with digits := [] } }
    (s.mode ≠ .run → startKey s = display 12 emptied) ∧
    (s.mode = .run → s.permissive.healthy = false → startKey s = display 17 emptied) ∧
    (s.mode = .run → s.permissive.healthy = true →
      (∀ n m : ArmId, n ≠ m → (s.arm n).held ≠ none → (s.arm n).held ≠ (s.arm m).held) →
      let t := startKey s
      t.permissive =
        { s.permissive with
          deadman := .live, warnAt := some (s.clock.ms + BitVec.ofNat 32 75000)
          expireAt := some (s.clock.ms + BitVec.ofNat 32 90000) } ∧
      ∀ n : ArmId,
        (s.armState n = .armed → ∀ c, s.heldComp n = some c →
          t.arm n = { s.arm n with state := .starting, commanded := .low, gStart := 0, armedDeadline := none } ∧
          ∃ x ∈ t.session.comps, x.number = c.number ∧ x.state = .active ∧ x.gross = 0 ∧ x.standard = 0 ∧
            x.tempSum = 0 ∧ x.opening = some (s.arm n).totalizer) ∧
        (s.armState n = .halted →
          let left := { (s.arm n).causes with driverStop := false, deadman := false, additive := false }
          ((s.arm n).settled = true → left = {} → ∀ c, s.heldComp n = some c →
            t.arm n =
              { s.arm n with
                state := .starting, commanded := .low, causes := {}, gStart := c.gross, haltEntry := none
                haltDeadline := none }) ∧
          (((s.arm n).settled = false ∨ left ≠ {}) → t.arm n = { s.arm n with causes := left })) ∧
        (s.armState n ≠ .armed → s.armState n ≠ .halted → t.arm n = s.arm n) ∧
        t.session = { s.session with digits := [], comps := t.session.comps } ∧
        (let moves := ∃ m : ArmId, s.armState m = .armed ∨ s.armState m = .halted ∧ (s.arm m).settled = true ∧
          { (s.arm m).causes with driverStop := false, deadman := false, additive := false } = ({} : Causes)
        ∃ u : State, (moves → t = display 16 u) ∧ (¬moves → t = u) ∧
          u.cmdQueue.filter Cmd.isDisplay = s.cmdQueue.filter Cmd.isDisplay) ∧
        t = { s with arms := t.arms, session := t.session, permissive := t.permissive, cmdQueue := t.cmdQueue })) ∧
  (∀ s : State, s.session.hostAbort = true →
    startKey s = s ∧ endKey s = { s with session := { s.session with digits := [] } }) ∧
  (∀ s : State, s.session.state = .opened →
    let marked : State :=
      { s with session := { s.session with lastKey := some s.clock.ms, idleBase := some s.clock.ms } }
    keyEvent .start s = startKey marked ∧ keyEvent .stop s = stopKey marked ∧ keyEvent .finish s = endKey marked) ∧
  ∀ s : State,
    (∀ n m : ArmId, n ≠ m → (s.arm n).held ≠ none → (s.arm n).held ≠ (s.arm m).held) →
    let emptied : State := { s with session := { s.session with digits := [] } }
    let captured (bank : Bank) (st : ArmState → Bool) : Nat := s.capturedBy bank fun n => st (s.armState n)
    (∃ t : State, stopKey s = display 17 t ∧
      (∀ n : ArmId,
        ((s.armState n).isMoving = true →
          t.armState n = .halted ∧ (t.arm n).commanded = .closed ∧ (t.arm n).held = (s.arm n).held ∧
          (t.arm n).causes = { (s.arm n).causes with driverStop := true } ∧
          (t.arm n).closeTime = some s.clock.ms ∧ (t.arm n).haltEntry = some s.clock.ms) ∧
        (s.armState n = .armed →
          t.arm n = { s.arm n with state := .idle, held := none, armedDeadline := none } ∧
          ∀ c, s.heldComp n = some c → ∃ y ∈ t.session.comps, y.number = c.number ∧ y.state = .pending ∧
            y.arm = none ∧ y.bank = none ∧ y.additive = ⟨none, none⟩) ∧
        ((s.armState n).isMoving = false → s.armState n ≠ .armed → t.arm n = s.arm n)) ∧
      t.banks =
        { s.banks with
          countA := s.banks.countA - captured .a (fun st => st == .armed)
          countB := s.banks.countB - captured .b (fun st => st == .armed) } ∧
      t.session =
        { s.session with digits := [], comps := t.session.comps, idleBase := t.session.idleBase } ∧
      t = { s with arms := t.arms, session := t.session, banks := t.banks, cmdQueue := t.cmdQueue }) ∧
    (s.session.hostAbort = false → (∃ n : ArmId, (s.armState n).isActive = true) →
      endKey s = display 20 emptied) ∧
    (s.session.hostAbort = false → (∀ n : ArmId, (s.armState n).isActive = false) →
      let t := endKey s
      t.session.state = .ending ∧ t.session.closeTime = some (s.clock.day, s.clock.second) ∧
      t.session.digits = [] ∧ t.notes = s.compileBegun ∧ (∀ y ∈ t.session.comps, y.state ≠ .pending) ∧
      (∀ n : ArmId,
        (s.armState n = .armed →
          t.arm n = { s.arm n with state := .idle, held := none, armedDeadline := none } ∧
          ∀ c, s.heldComp n = some c → ∃ y ∈ t.session.comps, y.number = c.number ∧ y.state = .notLoaded ∧
            y.arm = none ∧ y.bank = none) ∧
        (∀ c, s.armState n = .halted → s.heldComp n = some c →
          t.armState n = .idle ∧ (t.arm n).held = none ∧ (t.arm n).causes = {} ∧
          (t.arm n).totalizer = (s.arm n).totalizer ∧
          ∃ y ∈ t.session.comps, y.number = c.number ∧ y.state = .short ∧ y.flags.short = true ∧
            (c.closing = none → y.closing = some (s.arm n).totalizer)) ∧
        (s.armState n = .idle ∨ s.armState n = .blocked → t.arm n = s.arm n)) ∧
      (∀ c ∈ s.session.comps, c.state = .pending → (∀ n, (s.arm n).held ≠ some c.number) →
        { c with state := .notLoaded } ∈ t.session.comps) ∧
      t.banks =
        { s.banks with
          countA := s.banks.countA - captured .a (fun st => st == .armed || st == .halted)
          countB := s.banks.countB - captured .b (fun st => st == .armed || st == .halted) } ∧
      t = { s with
        arms := t.arms, session := t.session, banks := t.banks, dosing := t.dosing, notes := t.notes
        status := t.status })

/-! ### Deadlines -/

/-- The code-entry limit returns the session to VACANT (R10), and the session idle limit ends it: what is PENDING
becomes NOT LOADED, the session enters ENDING and the compile into its slot begins, with the next serial (R17, R21,
R129). The automatic end rule does the same once every compartment is DONE, SHORT or NOT LOADED and no arm is held, and
else asks for SELECT COMPARTMENT while one is PENDING and no arm but a HALTED one is held, unless HOST ABORT is set
(R18). -/
def Obligations.SessionLimitsEndTheSession : Prop :=
  (∀ (s : State) (d : Ms),
    (s.session.state = .codeEntry → s.session.codeDeadline = some d → (s.clock.ms - d).toNat < 2147483648 →
      ∃ t : State, exec .codeEntryTimeout s = .next t ∧ t.session = { readerTag := s.session.readerTag } ∧
        t.mode = (if s.mode = .servicePending then .service else s.mode) ∧ t.store = s.store ∧
        t.cmdQueue = s.cmdQueue ∧ t.notes = { s.notes with held := none }) ∧
    (s.session.state = .opened → (∀ n : ArmId, (s.armState n).isHeld = false) → s.session.idleBase = some d →
      (s.clock.ms - (d + BitVec.ofNat 32 1800000)).toNat < 2147483648 →
      ∃ t : State, exec .sessionIdleTimeout s = .next t ∧ t.session.state = .ending ∧
        t.session.closeTime = some (s.clock.day, s.clock.second) ∧
        t.session.comps = s.session.comps.map (fun c =>
          if c.state = .pending then { c with state := .notLoaded } else c) ∧
        t.notes = s.compileBegun ∧
        (∀ i x, s.notes.held = some i → s.notes.slots[i]? = some x →
          t.notes.slots[i]? = some
            { x with
              state := .updating, serial := some s.notes.nextSerial, written := 0, header := none, pages := [] } ∧
          (∀ j, j ≠ i → t.notes.slots[j]? = s.notes.slots[j]?) ∧
          t.notes.nextSerial = (s.notes.nextSerial + 1) % 4294967296) ∧
        t = { s with session := t.session, notes := t.notes })) ∧
  ∀ s : State,
    let ends := s.session.state = .opened ∧
      (∀ c ∈ s.session.comps, c.state = .done ∨ c.state = .short ∨ c.state = .notLoaded) ∧
      ∀ n : ArmId, (s.armState n).isHeld = false
    let asks := s.session.state = .opened ∧ s.session.hostAbort = false ∧
      (∃ c ∈ s.session.comps, c.state = .pending) ∧
      ∀ n : ArmId, s.armState n = .idle ∨ s.armState n = .blocked ∨ s.armState n = .halted
    (ends →
      examine s =
        { s with
          session :=
            { s.session with
              state := .ending, closeTime := some (s.clock.day, s.clock.second), idleBase := none }
          notes := s.compileBegun }) ∧
    (asks → examine s = display 13 s) ∧ (¬ends → ¬asks → examine s = s)

/-- The ARMED limit returns the arm to IDLE and its compartment to PENDING, and lowers the capture count (R13). The
settle deadline makes the compartment SHORT with VALVE FAULT, raises the trip, blocks the arm and de-energizes BAY
PERMIT (R55, R66, R121). The halt timeout makes it SHORT with its closing totalizer, and the arm IDLE (R61). -/
def Obligations.ArmLimitsReleaseTheArm : Prop :=
  (∀ (s : State) (n : ArmId) (d : Ms) (c : Comp) (bank : Bank),
      s.armState n = .armed → (s.arm n).armedDeadline = some d → (s.clock.ms - d).toNat < 2147483648 →
      s.heldComp n = some c → c.bank = some bank →
      ∃ t : State, exec (.armedTimeout n) s = .next t ∧
        t.arm n = { s.arm n with state := .idle, held := none, armedDeadline := none } ∧
        (∀ m : ArmId, m ≠ n → t.arm m = s.arm m) ∧
        t.session.comps = s.session.comps.map (fun x =>
          if x.number = c.number then
            { x with state := .pending, arm := none, bank := none, additive := ⟨none, none⟩ }
          else x) ∧
        t.banks.count bank = s.banks.count bank - 1 ∧ t.banks.active = s.banks.active ∧
        t = { s with arms := t.arms, session := t.session, banks := t.banks, cmdQueue := t.cmdQueue }) ∧
  (∀ (s : State) (n : ArmId) (d : Ms) (c : Comp),
      (s.armState n = .closing ∨ s.armState n = .halted) → (s.arm n).settled = false →
      (s.arm n).settleDeadline = some d → (s.clock.ms - d).toNat < 2147483648 → s.heldComp n = some c →
      ∃ t : State, exec (.settleTimeout n) s = .next t ∧
        t.armState n = .blocked ∧ (t.arm n).blockCause = some .valve ∧ (t.arm n).trip = true ∧
        (t.arm n).held = none ∧ (t.arm n).anticipation = (s.arm n).anticipation ∧
        t.permissive = { s.permissive with bayPermit := false } ∧ t.status.flags.valveFault = true ∧
        (∃ x ∈ t.session.comps, x.number = c.number ∧ x.state = .short ∧ x.flags.short = true ∧
          x.flags.valveFault = true ∧ x.closing = some (s.arm n).totalizer) ∧
        t = { s with
          arms := t.arms, session := t.session, banks := t.banks, dosing := t.dosing, notes := t.notes
          cmdQueue := t.cmdQueue, status := t.status, permissive := t.permissive }) ∧
  (∀ (s : State) (n : ArmId) (d : Ms) (c : Comp),
      s.armState n = .halted → (s.arm n).haltDeadline = some d → (s.clock.ms - d).toNat < 2147483648 →
      s.heldComp n = some c → c.closing = none →
      ∃ t : State, exec (.haltTimeout n) s = .next t ∧
        t.armState n = .idle ∧ (t.arm n).held = none ∧ (t.arm n).causes = {} ∧
        (t.arm n).totalizer = (s.arm n).totalizer ∧
        (∃ x ∈ t.session.comps, x.number = c.number ∧ x.state = .short ∧ x.flags.short = true ∧
          x.closing = some (s.arm n).totalizer) ∧
        (∀ m : ArmId, m ≠ n → t.arm m = s.arm m) ∧
        t = { s with
          arms := t.arms, session := t.session, banks := t.banks, dosing := t.dosing, notes := t.notes
          cmdQueue := t.cmdQueue, status := t.status })

/-- No valid temperature for 10 s (R81), and a shot outstanding for 3 s (R103): the cause is offered, and the metering
or dosing record is marked. Before that, the additive owed by a slot follows the gross (R96); a shot is commanded when
every condition of R97 holds and the command queue has room (R98); its DRIVE's REFUSED writes it off and every other
outcome changes nothing (R99); a report whose last number has reached it completes it, and the running check of R104
may then offer ADDITIVE (R102). -/
def Obligations.StaleTemperatureAndOverdueShotOfferTheirCause : Prop :=
  (∀ (s : State) (n : ArmId) (k : Slot) (d : Ms) (x : Shot),
    ((s.meter n).staleDeadline = some d → (s.clock.ms - d).toNat < 2147483648 →
      ∃ t : State, exec (.tempStale n) s = .next t ∧
        t.meter n = { s.meter n with staleMark := true, staleDeadline := none } ∧
        ((s.armState n).isActive = true → t.armState n = .halted ∧ (t.arm n).causes.tempStale = true) ∧
        (s.armState n = .halted →
          t.arm n = { s.arm n with causes := { (s.arm n).causes with tempStale := true } }) ∧
        ((s.armState n).isLoading = false → t.arm n = s.arm n) ∧
        t = { s with
          metering := t.metering, arms := t.arms, session := t.session, cmdQueue := t.cmdQueue }) ∧
    ((s.dose n k).outstanding = some x → (s.dose n k).deadline = some d → (s.clock.ms - d).toNat < 2147483648 →
      ∃ t : State, exec (.shotTimeout n k) s = .next t ∧
        t.dose n k = { s.dose n k with deadline := none } ∧ t.status.flags.additiveFault = true ∧
        t.status.counters.injector = min (s.status.counters.injector + 1) 65535 ∧
        ((s.armState n).isActive = true → t.armState n = .halted ∧ (t.arm n).causes.additive = true) ∧
        (s.armState n = .halted →
          t.arm n = { s.arm n with causes := { (s.arm n).causes with additive := true } }) ∧
        ((s.armState n).isLoading = false → t.arm n = s.arm n) ∧
        t = { s with
          dosing := t.dosing, arms := t.arms, session := t.session, cmdQueue := t.cmdQueue, status := t.status })) ∧
  (∀ (s : State) (n : ArmId) (k : Slot),
    ((s.heldComp n).bind (fun c => c.bank.bind fun bank => s.banks.prescription bank c.product k) = none →
      recomputeOwed n k s = s) ∧
    ∀ c p, s.heldComp n = some c → (c.bank.bind fun bank => s.banks.prescription bank c.product k) = some p →
      recomputeOwed n k s =
        { s with
          session :=
            { s.session with
              comps := s.session.comps.map fun y =>
                if y.number = c.number then
                  y.modAdditive k fun z => { z with owed := (y.gross * p.ratio + 999) / 1000 }
                else y } }) ∧
  (∀ (s : State) (n : ArmId) (k : Slot) (c : Comp) (a : Additive) (p : RecipeSlot),
    s.heldComp n = some c → c.additive.get k = some a →
    (c.bank.bind fun bank => s.banks.prescription bank c.product k) = some p →
    let ready := a.commanded + p.shot ≤ a.owed ∧ (s.dose n k).outstanding = none ∧ (s.armState n).isMoving = true ∧
      (∃ t, (s.config n).injector.get k = some t ∧ s.nodeOk t = true) ∧ (s.dose n k).baseline.isSome = true
    ((¬ready ∨ 8 - s.cmdQueue.length ≤ s.valveReserve) → paceSlot n k s = s) ∧
    ∀ t, ready → (s.config n).injector.get k = some t → s.valveReserve < 8 - s.cmdQueue.length →
      paceSlot n k s =
        { s with
          cmdQueue := s.cmdQueue ++ [.shot n k t (s.dose n k).nextShot p.shot]
          dosing := s.dosing.set n ((s.dosing.get n).set k
            { s.dose n k with
              outstanding := some { number := (s.dose n k).nextShot, size := p.shot }
              nextShot := ((s.dose n k).nextShot + 1) % 256
              deadline := some (s.clock.ms + BitVec.ofNat 32 3000) })
          session :=
            { s.session with
              comps := s.session.comps.map fun y =>
                if y.number = c.number then
                  y.modAdditive k fun z => { z with commanded := z.commanded + p.shot }
                else y } }) ∧
  (∀ (s : State) (n : ArmId) (k : Slot) (number : Nat),
    (∀ refused, (refused = false ∨ ∀ x, (s.dose n k).outstanding = some x → x.number ≠ number) →
      shotOutcome n k number refused s = s) ∧
    ∀ x h, (s.dose n k).outstanding = some x → x.number = number → (s.arm n).held = some h →
      shotOutcome n k number true s =
        { s with
          dosing := s.dosing.set n ((s.dosing.get n).set k
            { s.dose n k with outstanding := none, deadline := none })
          session :=
            { s.session with
              comps := s.session.comps.map fun y =>
                if y.number = h then y.modAdditive k fun z => { z with commanded := z.commanded - x.size }
                else y } }) ∧
  ∀ (s : State) (n : ArmId) (k : Slot) (last : Nat),
    (∀ tag d base number, (s.config n).injector.get k = some tag → s.nodeLost tag = false →
      (s.dose n k).baseline = some base → (s.arm n).held = some number →
      injectorReport n k tag d last s =
        completeShot n k last
          { s with
            dosing := s.dosing.set n ((s.dosing.get n).set k { s.dose n k with baseline := some d })
            session :=
              if (s.armState n).isLoading then
                { s.session with
                  comps := s.session.comps.map fun c =>
                    if c.number = number then
                      c.modAdditive k fun a =>
                        { a with dispensed := min (a.dispensed + (d + 4294967296 - base) % 4294967296) 4294967295 }
                    else c }
              else s.session }) ∧
    ((∀ x, (s.dose n k).outstanding = some x → 128 ≤ (last + 256 - x.number) % 256) → completeShot n k last s = s) ∧
    ∀ x, (s.dose n k).outstanding = some x → (last + 256 - x.number) % 256 < 128 →
      let done : State :=
        { s with
          dosing := s.dosing.set n ((s.dosing.get n).set k
            { s.dose n k with outstanding := none, deadline := none }) }
      ((s.armState n).isLoading = false → completeShot n k last s = done) ∧
      ((∀ c, s.heldComp n = some c → c.additive.get k = none) → completeShot n k last s = done) ∧
      ∀ c a p, (s.armState n).isLoading = true → s.heldComp n = some c → c.additive.get k = some a →
        (c.bank.bind fun bank => s.banks.prescription bank c.product k) = some p →
        let limit := a.commanded * p.tolerance / 100 + p.shot / 2
        let fails := 4 * p.shot ≤ a.commanded ∧
          (limit < a.dispensed - a.commanded ∨ limit < a.commanded - a.dispensed)
        (¬fails → completeShot n k last s = done) ∧
        (fails →
          let t := completeShot n k last s
          ((s.armState n).isActive = true →
            t.armState n = .halted ∧ (t.arm n).causes = { (s.arm n).causes with additive := true }) ∧
          (s.armState n = .halted →
            t.arm n = { s.arm n with causes := { (s.arm n).causes with additive := true } }) ∧
          (∃ y ∈ t.session.comps, y.number = c.number ∧ y.flags.addHalt = true ∧ y.additive = c.additive) ∧
          (∀ m, m ≠ n → t.arm m = s.arm m) ∧
          t = { done with
            arms := t.arms, session := { s.session with comps := t.session.comps }, cmdQueue := t.cmdQueue
            status := { s.status with flags := { s.status.flags with additiveFault := true } } })

/-- The expiry of the report age makes the unit UNHEALTHY: a loss of health halts the active arms, and the last
report and BAY PERMIT stay (R115, R113). The warning time makes the deadman WARNED and requests the message only while
an arm moves (R118); the deadline makes it EXPIRED and halts the moving arms with DEADMAN (R119). -/
def Obligations.PermissiveDeadlinesHaltTheArms : Prop :=
  (∀ (s : State) (d : Ms), s.permissive.ageDeadline = some d → (s.clock.ms - d).toNat < 2147483648 →
      ∃ t : State, exec .reportAgeExpiry s = .next t ∧
        t.permissive = { s.permissive with ageDeadline := none, healthy := false } ∧
        (s.permissive.healthy = true → ∀ n : ArmId, (s.armState n).isActive = true →
          t.armState n = .halted ∧ (t.arm n).causes.permissive = true) ∧
        (∀ n : ArmId, (s.armState n).isActive = false → t.arm n = s.arm n) ∧
        (s.permissive.healthy = false → t = { s with permissive := t.permissive }) ∧
        t = { s with permissive := t.permissive, arms := t.arms, session := t.session, cmdQueue := t.cmdQueue }) ∧
  (∀ (s : State) (d : Ms), (s.clock.ms - d).toNat < 2147483648 →
      (s.permissive.deadman = .live → s.permissive.warnAt = some d →
        ∃ t : State, exec .deadmanWarning s = .next t ∧
          t.permissive = { s.permissive with deadman := .warned, warnAt := none } ∧
          ((∃ n : ArmId, (s.armState n).isMoving = true) →
            t = display 18 { s with permissive := { s.permissive with deadman := .warned, warnAt := none } }) ∧
          ((∀ n : ArmId, (s.armState n).isMoving = false) → t.cmdQueue = s.cmdQueue) ∧
          t = { s with permissive := t.permissive, cmdQueue := t.cmdQueue }) ∧
      ((s.permissive.deadman = .live ∨ s.permissive.deadman = .warned) → s.permissive.expireAt = some d →
        ∃ t : State, exec .deadmanExpiry s = .next t ∧
          t.permissive = { s.permissive with deadman := .expired, warnAt := none, expireAt := none } ∧
          (∀ n : ArmId, (s.armState n).isMoving = true →
            t.armState n = .halted ∧ (t.arm n).commanded = .closed ∧
            (t.arm n).causes = { (s.arm n).causes with deadman := true }) ∧
          (∀ n : ArmId, (s.armState n).isMoving = false → t.arm n = s.arm n) ∧
          t = { s with permissive := t.permissive, arms := t.arms, session := t.session, cmdQueue := t.cmdQueue }))

/-- The compile writes the header and then one page for each compartment, in the order of the session's list, each
whole from its record (R130, R133, R134, R137 to R139): litres are rounded to the nearest, halves to even (R135), the
average temperature to the nearest tenth of a degree, halves away from zero (R136). After the last page the slot is
FILLED and NEW, NOTE READY is set, LOAD COMPLETE is requested and the session is VACANT (R131). With no slot being
compiled nothing happens. An additive code that has left the captured bank reads 0 (the model's reading, log 36). -/
def Obligations.CompileWritesPagesThenFillsTheSlot : Prop :=
  (∀ v : Nat,
    let w := noteThousands v
    2 * v ≤ 2000 * w + 1000 ∧ 2000 * w ≤ 2 * v + 1000 ∧ (v % 1000 = 500 → w % 2 = 0)) ∧
  (∀ c : Comp,
    (c.gross = 0 → averageTemp c = none) ∧
    (0 < c.gross →
      ∃ a : Int, averageTemp c = some a ∧
        2 * (10 * (c.gross : Int) * a - c.tempSum).natAbs ≤ 10 * c.gross ∧
        (2 * (10 * (c.gross : Int) * a - c.tempSum).natAbs = 10 * c.gross →
          c.tempSum.natAbs < (10 * (c.gross : Int) * a).natAbs))) ∧
  ∀ s : State,
    (s.compiling = none → exec .notePageWrite s = .next s) ∧
    ∀ (i : Nat) (x : NoteSlot), s.notes.held = some i → s.notes.slots[i]? = some x → x.state = .updating →
      let additive (c : Comp) (k : Slot) : Option (Nat × Nat) :=
        (c.additive.get k).map fun a =>
          (((c.bank.bind fun bank => s.banks.prescription bank c.product k).map fun p => p.code).getD 0,
            noteThousands a.dispensed)
      let page (c : Comp) : CompPage :=
        { number := c.number, product := c.product, state := c.state, arm := c.arm, bank := c.bank
          preset := c.preset / 1000, gross := noteThousands c.gross, standard := noteThousands c.standard
          average := averageTemp c
          totalizer := c.opening.bind fun o => c.closing.map fun e => (o / 1000, e / 1000)
          additive := ⟨additive c .s1, additive c .s2⟩, flags := c.flags }
      let wrote (y : NoteSlot) : State :=
        { s with notes := { s.notes with slots := s.notes.slots.set i y, pageTimer := 0 } }
      (x.written = 0 → s.session.comps ≠ [] →
        exec .notePageWrite s = .next
          (wrote
            { x with
              written := 1
              header := some
                { serial := x.serial.getD 0, card := s.session.card.getD 0
                  carrier := s.session.carrier.getD 0, orderRef := s.session.orderRef.getD 0
                  vehicle := s.session.vehicle, openTime := s.session.openTime.getD (0, 0)
                  closeTime := s.session.closeTime.getD (0, 0), hostAbort := s.session.hostAbort
                  hostLostDuring := s.session.hostLostDuring, count := s.session.comps.length } })) ∧
      ∀ c, 0 < x.written → s.session.comps[x.written - 1]? = some c →
        let y : NoteSlot := { x with written := x.written + 1, pages := x.pages ++ [page c] }
        (x.written < s.session.comps.length → exec .notePageWrite s = .next (wrote y)) ∧
        (x.written = s.session.comps.length →
          exec .notePageWrite s = .next
            (let t : State := display 21
              { wrote { y with state := .filled, isNew := true } with
                status := { s.status with flags := { s.status.flags with noteReady := true } } }
             { t with
               session := { readerTag := s.session.readerTag }, notes := { t.notes with held := none }
               mode := if s.mode = .servicePending then .service else s.mode
               permissive :=
                 if s.mode = .servicePending then { s.permissive with bayPermit := false }
                 else s.permissive }))

end
end

