-- ==== Sys2Proof/Laws/State.lean ====
section
/-! SUPPORT. What each update of the state changes and leaves: one lemma for each field and update. -/

namespace Sys2Proof.Machine

/-! ### modClock -/

@[simp] theorem modClock_clock (s : State) (f : Clock → Clock) :
    (s.modClock f).clock = f s.clock := rfl
@[simp] theorem modClock_mode (s : State) (f : Clock → Clock) : (s.modClock f).mode = s.mode := rfl
@[simp] theorem modClock_status (s : State) (f : Clock → Clock) : (s.modClock f).status = s.status := rfl
@[simp] theorem modClock_session (s : State) (f : Clock → Clock) : (s.modClock f).session = s.session := rfl
@[simp] theorem modClock_store (s : State) (f : Clock → Clock) : (s.modClock f).store = s.store := rfl
@[simp] theorem modClock_banks (s : State) (f : Clock → Clock) : (s.modClock f).banks = s.banks := rfl
@[simp] theorem modClock_configs (s : State) (f : Clock → Clock) : (s.modClock f).configs = s.configs := rfl
@[simp] theorem modClock_arms (s : State) (f : Clock → Clock) : (s.modClock f).arms = s.arms := rfl
@[simp] theorem modClock_metering (s : State) (f : Clock → Clock) : (s.modClock f).metering = s.metering := rfl
@[simp] theorem modClock_dosing (s : State) (f : Clock → Clock) : (s.modClock f).dosing = s.dosing := rfl
@[simp] theorem modClock_permissive (s : State) (f : Clock → Clock) : (s.modClock f).permissive = s.permissive := rfl
@[simp] theorem modClock_notes (s : State) (f : Clock → Clock) : (s.modClock f).notes = s.notes := rfl
@[simp] theorem modClock_nodes (s : State) (f : Clock → Clock) : (s.modClock f).nodes = s.nodes := rfl
@[simp] theorem modClock_scans (s : State) (f : Clock → Clock) : (s.modClock f).scans = s.scans := rfl
@[simp] theorem modClock_acceptance (s : State) (f : Clock → Clock) : (s.modClock f).acceptance = s.acceptance := rfl
@[simp] theorem modClock_cmdQueue (s : State) (f : Clock → Clock) : (s.modClock f).cmdQueue = s.cmdQueue := rfl
@[simp] theorem modClock_relayQueue (s : State) (f : Clock → Clock) : (s.modClock f).relayQueue = s.relayQueue := rfl
@[simp] theorem modClock_field (s : State) (f : Clock → Clock) : (s.modClock f).field = s.field := rfl
@[simp] theorem modClock_reader (s : State) (f : Clock → Clock) : (s.modClock f).reader = s.reader := rfl
@[simp] theorem modClock_up (s : State) (f : Clock → Clock) : (s.modClock f).up = s.up := rfl
@[simp] theorem modClock_freeCount (s : State) (f : Clock → Clock) : (s.modClock f).freeCount = s.freeCount := rfl
@[simp] theorem modClock_pending (s : State) (f : Clock → Clock) : (s.modClock f).pending = s.pending := rfl

/-! ### setMode -/

@[simp] theorem setMode_clock (s : State) (m : Mode) : (s.setMode m).clock = s.clock := rfl
@[simp] theorem setMode_mode (s : State) (m : Mode) :
    (s.setMode m).mode = m := rfl
@[simp] theorem setMode_status (s : State) (m : Mode) : (s.setMode m).status = s.status := rfl
@[simp] theorem setMode_session (s : State) (m : Mode) : (s.setMode m).session = s.session := rfl
@[simp] theorem setMode_store (s : State) (m : Mode) : (s.setMode m).store = s.store := rfl
@[simp] theorem setMode_banks (s : State) (m : Mode) : (s.setMode m).banks = s.banks := rfl
@[simp] theorem setMode_configs (s : State) (m : Mode) : (s.setMode m).configs = s.configs := rfl
@[simp] theorem setMode_arms (s : State) (m : Mode) : (s.setMode m).arms = s.arms := rfl
@[simp] theorem setMode_metering (s : State) (m : Mode) : (s.setMode m).metering = s.metering := rfl
@[simp] theorem setMode_dosing (s : State) (m : Mode) : (s.setMode m).dosing = s.dosing := rfl
@[simp] theorem setMode_permissive (s : State) (m : Mode) : (s.setMode m).permissive = s.permissive := rfl
@[simp] theorem setMode_notes (s : State) (m : Mode) : (s.setMode m).notes = s.notes := rfl
@[simp] theorem setMode_nodes (s : State) (m : Mode) : (s.setMode m).nodes = s.nodes := rfl
@[simp] theorem setMode_scans (s : State) (m : Mode) : (s.setMode m).scans = s.scans := rfl
@[simp] theorem setMode_acceptance (s : State) (m : Mode) : (s.setMode m).acceptance = s.acceptance := rfl
@[simp] theorem setMode_cmdQueue (s : State) (m : Mode) : (s.setMode m).cmdQueue = s.cmdQueue := rfl
@[simp] theorem setMode_relayQueue (s : State) (m : Mode) : (s.setMode m).relayQueue = s.relayQueue := rfl
@[simp] theorem setMode_field (s : State) (m : Mode) : (s.setMode m).field = s.field := rfl
@[simp] theorem setMode_reader (s : State) (m : Mode) : (s.setMode m).reader = s.reader := rfl
@[simp] theorem setMode_up (s : State) (m : Mode) : (s.setMode m).up = s.up := rfl
@[simp] theorem setMode_freeCount (s : State) (m : Mode) : (s.setMode m).freeCount = s.freeCount := rfl
@[simp] theorem setMode_pending (s : State) (m : Mode) : (s.setMode m).pending = s.pending := rfl

/-! ### modStatus -/

@[simp] theorem modStatus_clock (s : State) (f : Status → Status) : (s.modStatus f).clock = s.clock := rfl
@[simp] theorem modStatus_mode (s : State) (f : Status → Status) : (s.modStatus f).mode = s.mode := rfl
@[simp] theorem modStatus_status (s : State) (f : Status → Status) :
    (s.modStatus f).status = f s.status := rfl
@[simp] theorem modStatus_session (s : State) (f : Status → Status) : (s.modStatus f).session = s.session := rfl
@[simp] theorem modStatus_store (s : State) (f : Status → Status) : (s.modStatus f).store = s.store := rfl
@[simp] theorem modStatus_banks (s : State) (f : Status → Status) : (s.modStatus f).banks = s.banks := rfl
@[simp] theorem modStatus_configs (s : State) (f : Status → Status) : (s.modStatus f).configs = s.configs := rfl
@[simp] theorem modStatus_arms (s : State) (f : Status → Status) : (s.modStatus f).arms = s.arms := rfl
@[simp] theorem modStatus_metering (s : State) (f : Status → Status) : (s.modStatus f).metering = s.metering := rfl
@[simp] theorem modStatus_dosing (s : State) (f : Status → Status) : (s.modStatus f).dosing = s.dosing := rfl
@[simp] theorem modStatus_permissive (s : State) (f : Status → Status) : (s.modStatus f).permissive = s.permissive := rfl
@[simp] theorem modStatus_notes (s : State) (f : Status → Status) : (s.modStatus f).notes = s.notes := rfl
@[simp] theorem modStatus_nodes (s : State) (f : Status → Status) : (s.modStatus f).nodes = s.nodes := rfl
@[simp] theorem modStatus_scans (s : State) (f : Status → Status) : (s.modStatus f).scans = s.scans := rfl
@[simp] theorem modStatus_acceptance (s : State) (f : Status → Status) : (s.modStatus f).acceptance = s.acceptance := rfl
@[simp] theorem modStatus_cmdQueue (s : State) (f : Status → Status) : (s.modStatus f).cmdQueue = s.cmdQueue := rfl
@[simp] theorem modStatus_relayQueue (s : State) (f : Status → Status) : (s.modStatus f).relayQueue = s.relayQueue := rfl
@[simp] theorem modStatus_field (s : State) (f : Status → Status) : (s.modStatus f).field = s.field := rfl
@[simp] theorem modStatus_reader (s : State) (f : Status → Status) : (s.modStatus f).reader = s.reader := rfl
@[simp] theorem modStatus_up (s : State) (f : Status → Status) : (s.modStatus f).up = s.up := rfl
@[simp] theorem modStatus_freeCount (s : State) (f : Status → Status) : (s.modStatus f).freeCount = s.freeCount := rfl
@[simp] theorem modStatus_pending (s : State) (f : Status → Status) : (s.modStatus f).pending = s.pending := rfl

/-! ### modSession -/

@[simp] theorem modSession_clock (s : State) (f : Session → Session) : (s.modSession f).clock = s.clock := rfl
@[simp] theorem modSession_mode (s : State) (f : Session → Session) : (s.modSession f).mode = s.mode := rfl
@[simp] theorem modSession_status (s : State) (f : Session → Session) : (s.modSession f).status = s.status := rfl
@[simp] theorem modSession_session (s : State) (f : Session → Session) :
    (s.modSession f).session = f s.session := rfl
@[simp] theorem modSession_store (s : State) (f : Session → Session) : (s.modSession f).store = s.store := rfl
@[simp] theorem modSession_banks (s : State) (f : Session → Session) : (s.modSession f).banks = s.banks := rfl
@[simp] theorem modSession_configs (s : State) (f : Session → Session) : (s.modSession f).configs = s.configs := rfl
@[simp] theorem modSession_arms (s : State) (f : Session → Session) : (s.modSession f).arms = s.arms := rfl
@[simp] theorem modSession_metering (s : State) (f : Session → Session) : (s.modSession f).metering = s.metering := rfl
@[simp] theorem modSession_dosing (s : State) (f : Session → Session) : (s.modSession f).dosing = s.dosing := rfl
@[simp] theorem modSession_permissive (s : State) (f : Session → Session) : (s.modSession f).permissive = s.permissive := rfl
@[simp] theorem modSession_notes (s : State) (f : Session → Session) : (s.modSession f).notes = s.notes := rfl
@[simp] theorem modSession_nodes (s : State) (f : Session → Session) : (s.modSession f).nodes = s.nodes := rfl
@[simp] theorem modSession_scans (s : State) (f : Session → Session) : (s.modSession f).scans = s.scans := rfl
@[simp] theorem modSession_acceptance (s : State) (f : Session → Session) : (s.modSession f).acceptance = s.acceptance := rfl
@[simp] theorem modSession_cmdQueue (s : State) (f : Session → Session) : (s.modSession f).cmdQueue = s.cmdQueue := rfl
@[simp] theorem modSession_relayQueue (s : State) (f : Session → Session) : (s.modSession f).relayQueue = s.relayQueue := rfl
@[simp] theorem modSession_field (s : State) (f : Session → Session) : (s.modSession f).field = s.field := rfl
@[simp] theorem modSession_reader (s : State) (f : Session → Session) : (s.modSession f).reader = s.reader := rfl
@[simp] theorem modSession_up (s : State) (f : Session → Session) : (s.modSession f).up = s.up := rfl
@[simp] theorem modSession_freeCount (s : State) (f : Session → Session) : (s.modSession f).freeCount = s.freeCount := rfl
@[simp] theorem modSession_pending (s : State) (f : Session → Session) : (s.modSession f).pending = s.pending := rfl

/-! ### modStore -/

@[simp] theorem modStore_clock (s : State) (f : PermitStore → PermitStore) : (s.modStore f).clock = s.clock := rfl
@[simp] theorem modStore_mode (s : State) (f : PermitStore → PermitStore) : (s.modStore f).mode = s.mode := rfl
@[simp] theorem modStore_status (s : State) (f : PermitStore → PermitStore) : (s.modStore f).status = s.status := rfl
@[simp] theorem modStore_session (s : State) (f : PermitStore → PermitStore) : (s.modStore f).session = s.session := rfl
@[simp] theorem modStore_store (s : State) (f : PermitStore → PermitStore) :
    (s.modStore f).store = f s.store := rfl
@[simp] theorem modStore_banks (s : State) (f : PermitStore → PermitStore) : (s.modStore f).banks = s.banks := rfl
@[simp] theorem modStore_configs (s : State) (f : PermitStore → PermitStore) : (s.modStore f).configs = s.configs := rfl
@[simp] theorem modStore_arms (s : State) (f : PermitStore → PermitStore) : (s.modStore f).arms = s.arms := rfl
@[simp] theorem modStore_metering (s : State) (f : PermitStore → PermitStore) : (s.modStore f).metering = s.metering := rfl
@[simp] theorem modStore_dosing (s : State) (f : PermitStore → PermitStore) : (s.modStore f).dosing = s.dosing := rfl
@[simp] theorem modStore_permissive (s : State) (f : PermitStore → PermitStore) : (s.modStore f).permissive = s.permissive := rfl
@[simp] theorem modStore_notes (s : State) (f : PermitStore → PermitStore) : (s.modStore f).notes = s.notes := rfl
@[simp] theorem modStore_nodes (s : State) (f : PermitStore → PermitStore) : (s.modStore f).nodes = s.nodes := rfl
@[simp] theorem modStore_scans (s : State) (f : PermitStore → PermitStore) : (s.modStore f).scans = s.scans := rfl
@[simp] theorem modStore_acceptance (s : State) (f : PermitStore → PermitStore) : (s.modStore f).acceptance = s.acceptance := rfl
@[simp] theorem modStore_cmdQueue (s : State) (f : PermitStore → PermitStore) : (s.modStore f).cmdQueue = s.cmdQueue := rfl
@[simp] theorem modStore_relayQueue (s : State) (f : PermitStore → PermitStore) : (s.modStore f).relayQueue = s.relayQueue := rfl
@[simp] theorem modStore_field (s : State) (f : PermitStore → PermitStore) : (s.modStore f).field = s.field := rfl
@[simp] theorem modStore_reader (s : State) (f : PermitStore → PermitStore) : (s.modStore f).reader = s.reader := rfl
@[simp] theorem modStore_up (s : State) (f : PermitStore → PermitStore) : (s.modStore f).up = s.up := rfl
@[simp] theorem modStore_freeCount (s : State) (f : PermitStore → PermitStore) : (s.modStore f).freeCount = s.freeCount := rfl
@[simp] theorem modStore_pending (s : State) (f : PermitStore → PermitStore) : (s.modStore f).pending = s.pending := rfl

/-! ### modBanks -/

@[simp] theorem modBanks_clock (s : State) (f : Banks → Banks) : (s.modBanks f).clock = s.clock := rfl
@[simp] theorem modBanks_mode (s : State) (f : Banks → Banks) : (s.modBanks f).mode = s.mode := rfl
@[simp] theorem modBanks_status (s : State) (f : Banks → Banks) : (s.modBanks f).status = s.status := rfl
@[simp] theorem modBanks_session (s : State) (f : Banks → Banks) : (s.modBanks f).session = s.session := rfl
@[simp] theorem modBanks_store (s : State) (f : Banks → Banks) : (s.modBanks f).store = s.store := rfl
@[simp] theorem modBanks_banks (s : State) (f : Banks → Banks) :
    (s.modBanks f).banks = f s.banks := rfl
@[simp] theorem modBanks_configs (s : State) (f : Banks → Banks) : (s.modBanks f).configs = s.configs := rfl
@[simp] theorem modBanks_arms (s : State) (f : Banks → Banks) : (s.modBanks f).arms = s.arms := rfl
@[simp] theorem modBanks_metering (s : State) (f : Banks → Banks) : (s.modBanks f).metering = s.metering := rfl
@[simp] theorem modBanks_dosing (s : State) (f : Banks → Banks) : (s.modBanks f).dosing = s.dosing := rfl
@[simp] theorem modBanks_permissive (s : State) (f : Banks → Banks) : (s.modBanks f).permissive = s.permissive := rfl
@[simp] theorem modBanks_notes (s : State) (f : Banks → Banks) : (s.modBanks f).notes = s.notes := rfl
@[simp] theorem modBanks_nodes (s : State) (f : Banks → Banks) : (s.modBanks f).nodes = s.nodes := rfl
@[simp] theorem modBanks_scans (s : State) (f : Banks → Banks) : (s.modBanks f).scans = s.scans := rfl
@[simp] theorem modBanks_acceptance (s : State) (f : Banks → Banks) : (s.modBanks f).acceptance = s.acceptance := rfl
@[simp] theorem modBanks_cmdQueue (s : State) (f : Banks → Banks) : (s.modBanks f).cmdQueue = s.cmdQueue := rfl
@[simp] theorem modBanks_relayQueue (s : State) (f : Banks → Banks) : (s.modBanks f).relayQueue = s.relayQueue := rfl
@[simp] theorem modBanks_field (s : State) (f : Banks → Banks) : (s.modBanks f).field = s.field := rfl
@[simp] theorem modBanks_reader (s : State) (f : Banks → Banks) : (s.modBanks f).reader = s.reader := rfl
@[simp] theorem modBanks_up (s : State) (f : Banks → Banks) : (s.modBanks f).up = s.up := rfl
@[simp] theorem modBanks_freeCount (s : State) (f : Banks → Banks) : (s.modBanks f).freeCount = s.freeCount := rfl
@[simp] theorem modBanks_pending (s : State) (f : Banks → Banks) : (s.modBanks f).pending = s.pending := rfl

/-! ### setConfig -/

@[simp] theorem setConfig_clock (s : State) (n : ArmId) (c : ArmConfig) : (s.setConfig n c).clock = s.clock := rfl
@[simp] theorem setConfig_mode (s : State) (n : ArmId) (c : ArmConfig) : (s.setConfig n c).mode = s.mode := rfl
@[simp] theorem setConfig_status (s : State) (n : ArmId) (c : ArmConfig) : (s.setConfig n c).status = s.status := rfl
@[simp] theorem setConfig_session (s : State) (n : ArmId) (c : ArmConfig) : (s.setConfig n c).session = s.session := rfl
@[simp] theorem setConfig_store (s : State) (n : ArmId) (c : ArmConfig) : (s.setConfig n c).store = s.store := rfl
@[simp] theorem setConfig_banks (s : State) (n : ArmId) (c : ArmConfig) : (s.setConfig n c).banks = s.banks := rfl
@[simp] theorem setConfig_configs (s : State) (n : ArmId) (c : ArmConfig) :
    (s.setConfig n c).configs = s.configs.set n c := rfl
@[simp] theorem setConfig_arms (s : State) (n : ArmId) (c : ArmConfig) : (s.setConfig n c).arms = s.arms := rfl
@[simp] theorem setConfig_metering (s : State) (n : ArmId) (c : ArmConfig) : (s.setConfig n c).metering = s.metering := rfl
@[simp] theorem setConfig_dosing (s : State) (n : ArmId) (c : ArmConfig) : (s.setConfig n c).dosing = s.dosing := rfl
@[simp] theorem setConfig_permissive (s : State) (n : ArmId) (c : ArmConfig) : (s.setConfig n c).permissive = s.permissive := rfl
@[simp] theorem setConfig_notes (s : State) (n : ArmId) (c : ArmConfig) : (s.setConfig n c).notes = s.notes := rfl
@[simp] theorem setConfig_nodes (s : State) (n : ArmId) (c : ArmConfig) : (s.setConfig n c).nodes = s.nodes := rfl
@[simp] theorem setConfig_scans (s : State) (n : ArmId) (c : ArmConfig) : (s.setConfig n c).scans = s.scans := rfl
@[simp] theorem setConfig_acceptance (s : State) (n : ArmId) (c : ArmConfig) : (s.setConfig n c).acceptance = s.acceptance := rfl
@[simp] theorem setConfig_cmdQueue (s : State) (n : ArmId) (c : ArmConfig) : (s.setConfig n c).cmdQueue = s.cmdQueue := rfl
@[simp] theorem setConfig_relayQueue (s : State) (n : ArmId) (c : ArmConfig) : (s.setConfig n c).relayQueue = s.relayQueue := rfl
@[simp] theorem setConfig_field (s : State) (n : ArmId) (c : ArmConfig) : (s.setConfig n c).field = s.field := rfl
@[simp] theorem setConfig_reader (s : State) (n : ArmId) (c : ArmConfig) : (s.setConfig n c).reader = s.reader := rfl
@[simp] theorem setConfig_up (s : State) (n : ArmId) (c : ArmConfig) : (s.setConfig n c).up = s.up := rfl
@[simp] theorem setConfig_freeCount (s : State) (n : ArmId) (c : ArmConfig) : (s.setConfig n c).freeCount = s.freeCount := rfl
@[simp] theorem setConfig_pending (s : State) (n : ArmId) (c : ArmConfig) : (s.setConfig n c).pending = s.pending := rfl

/-! ### modArm -/

@[simp] theorem modArm_clock (s : State) (n : ArmId) (f : Arm → Arm) : (s.modArm n f).clock = s.clock := rfl
@[simp] theorem modArm_mode (s : State) (n : ArmId) (f : Arm → Arm) : (s.modArm n f).mode = s.mode := rfl
@[simp] theorem modArm_status (s : State) (n : ArmId) (f : Arm → Arm) : (s.modArm n f).status = s.status := rfl
@[simp] theorem modArm_session (s : State) (n : ArmId) (f : Arm → Arm) : (s.modArm n f).session = s.session := rfl
@[simp] theorem modArm_store (s : State) (n : ArmId) (f : Arm → Arm) : (s.modArm n f).store = s.store := rfl
@[simp] theorem modArm_banks (s : State) (n : ArmId) (f : Arm → Arm) : (s.modArm n f).banks = s.banks := rfl
@[simp] theorem modArm_configs (s : State) (n : ArmId) (f : Arm → Arm) : (s.modArm n f).configs = s.configs := rfl
@[simp] theorem modArm_arms (s : State) (n : ArmId) (f : Arm → Arm) :
    (s.modArm n f).arms = s.arms.set n (f (s.arms.get n)) := rfl
@[simp] theorem modArm_metering (s : State) (n : ArmId) (f : Arm → Arm) : (s.modArm n f).metering = s.metering := rfl
@[simp] theorem modArm_dosing (s : State) (n : ArmId) (f : Arm → Arm) : (s.modArm n f).dosing = s.dosing := rfl
@[simp] theorem modArm_permissive (s : State) (n : ArmId) (f : Arm → Arm) : (s.modArm n f).permissive = s.permissive := rfl
@[simp] theorem modArm_notes (s : State) (n : ArmId) (f : Arm → Arm) : (s.modArm n f).notes = s.notes := rfl
@[simp] theorem modArm_nodes (s : State) (n : ArmId) (f : Arm → Arm) : (s.modArm n f).nodes = s.nodes := rfl
@[simp] theorem modArm_scans (s : State) (n : ArmId) (f : Arm → Arm) : (s.modArm n f).scans = s.scans := rfl
@[simp] theorem modArm_acceptance (s : State) (n : ArmId) (f : Arm → Arm) : (s.modArm n f).acceptance = s.acceptance := rfl
@[simp] theorem modArm_cmdQueue (s : State) (n : ArmId) (f : Arm → Arm) : (s.modArm n f).cmdQueue = s.cmdQueue := rfl
@[simp] theorem modArm_relayQueue (s : State) (n : ArmId) (f : Arm → Arm) : (s.modArm n f).relayQueue = s.relayQueue := rfl
@[simp] theorem modArm_field (s : State) (n : ArmId) (f : Arm → Arm) : (s.modArm n f).field = s.field := rfl
@[simp] theorem modArm_reader (s : State) (n : ArmId) (f : Arm → Arm) : (s.modArm n f).reader = s.reader := rfl
@[simp] theorem modArm_up (s : State) (n : ArmId) (f : Arm → Arm) : (s.modArm n f).up = s.up := rfl
@[simp] theorem modArm_freeCount (s : State) (n : ArmId) (f : Arm → Arm) : (s.modArm n f).freeCount = s.freeCount := rfl
@[simp] theorem modArm_pending (s : State) (n : ArmId) (f : Arm → Arm) : (s.modArm n f).pending = s.pending := rfl

/-! ### modMeter -/

@[simp] theorem modMeter_clock (s : State) (n : ArmId) (f : Metering → Metering) : (s.modMeter n f).clock = s.clock := rfl
@[simp] theorem modMeter_mode (s : State) (n : ArmId) (f : Metering → Metering) : (s.modMeter n f).mode = s.mode := rfl
@[simp] theorem modMeter_status (s : State) (n : ArmId) (f : Metering → Metering) : (s.modMeter n f).status = s.status := rfl
@[simp] theorem modMeter_session (s : State) (n : ArmId) (f : Metering → Metering) : (s.modMeter n f).session = s.session := rfl
@[simp] theorem modMeter_store (s : State) (n : ArmId) (f : Metering → Metering) : (s.modMeter n f).store = s.store := rfl
@[simp] theorem modMeter_banks (s : State) (n : ArmId) (f : Metering → Metering) : (s.modMeter n f).banks = s.banks := rfl
@[simp] theorem modMeter_configs (s : State) (n : ArmId) (f : Metering → Metering) : (s.modMeter n f).configs = s.configs := rfl
@[simp] theorem modMeter_arms (s : State) (n : ArmId) (f : Metering → Metering) : (s.modMeter n f).arms = s.arms := rfl
@[simp] theorem modMeter_metering (s : State) (n : ArmId) (f : Metering → Metering) :
    (s.modMeter n f).metering = s.metering.set n (f (s.metering.get n)) := rfl
@[simp] theorem modMeter_dosing (s : State) (n : ArmId) (f : Metering → Metering) : (s.modMeter n f).dosing = s.dosing := rfl
@[simp] theorem modMeter_permissive (s : State) (n : ArmId) (f : Metering → Metering) : (s.modMeter n f).permissive = s.permissive := rfl
@[simp] theorem modMeter_notes (s : State) (n : ArmId) (f : Metering → Metering) : (s.modMeter n f).notes = s.notes := rfl
@[simp] theorem modMeter_nodes (s : State) (n : ArmId) (f : Metering → Metering) : (s.modMeter n f).nodes = s.nodes := rfl
@[simp] theorem modMeter_scans (s : State) (n : ArmId) (f : Metering → Metering) : (s.modMeter n f).scans = s.scans := rfl
@[simp] theorem modMeter_acceptance (s : State) (n : ArmId) (f : Metering → Metering) : (s.modMeter n f).acceptance = s.acceptance := rfl
@[simp] theorem modMeter_cmdQueue (s : State) (n : ArmId) (f : Metering → Metering) : (s.modMeter n f).cmdQueue = s.cmdQueue := rfl
@[simp] theorem modMeter_relayQueue (s : State) (n : ArmId) (f : Metering → Metering) : (s.modMeter n f).relayQueue = s.relayQueue := rfl
@[simp] theorem modMeter_field (s : State) (n : ArmId) (f : Metering → Metering) : (s.modMeter n f).field = s.field := rfl
@[simp] theorem modMeter_reader (s : State) (n : ArmId) (f : Metering → Metering) : (s.modMeter n f).reader = s.reader := rfl
@[simp] theorem modMeter_up (s : State) (n : ArmId) (f : Metering → Metering) : (s.modMeter n f).up = s.up := rfl
@[simp] theorem modMeter_freeCount (s : State) (n : ArmId) (f : Metering → Metering) : (s.modMeter n f).freeCount = s.freeCount := rfl
@[simp] theorem modMeter_pending (s : State) (n : ArmId) (f : Metering → Metering) : (s.modMeter n f).pending = s.pending := rfl

/-! ### modDose -/

@[simp] theorem modDose_clock (s : State) (n : ArmId) (k : Slot) (f : Dosing → Dosing) : (s.modDose n k f).clock = s.clock := rfl
@[simp] theorem modDose_mode (s : State) (n : ArmId) (k : Slot) (f : Dosing → Dosing) : (s.modDose n k f).mode = s.mode := rfl
@[simp] theorem modDose_status (s : State) (n : ArmId) (k : Slot) (f : Dosing → Dosing) : (s.modDose n k f).status = s.status := rfl
@[simp] theorem modDose_session (s : State) (n : ArmId) (k : Slot) (f : Dosing → Dosing) : (s.modDose n k f).session = s.session := rfl
@[simp] theorem modDose_store (s : State) (n : ArmId) (k : Slot) (f : Dosing → Dosing) : (s.modDose n k f).store = s.store := rfl
@[simp] theorem modDose_banks (s : State) (n : ArmId) (k : Slot) (f : Dosing → Dosing) : (s.modDose n k f).banks = s.banks := rfl
@[simp] theorem modDose_configs (s : State) (n : ArmId) (k : Slot) (f : Dosing → Dosing) : (s.modDose n k f).configs = s.configs := rfl
@[simp] theorem modDose_arms (s : State) (n : ArmId) (k : Slot) (f : Dosing → Dosing) : (s.modDose n k f).arms = s.arms := rfl
@[simp] theorem modDose_metering (s : State) (n : ArmId) (k : Slot) (f : Dosing → Dosing) : (s.modDose n k f).metering = s.metering := rfl
@[simp] theorem modDose_dosing (s : State) (n : ArmId) (k : Slot) (f : Dosing → Dosing) :
    (s.modDose n k f).dosing = s.dosing.set n ((s.dosing.get n).set k (f ((s.dosing.get n).get k))) := rfl
@[simp] theorem modDose_permissive (s : State) (n : ArmId) (k : Slot) (f : Dosing → Dosing) : (s.modDose n k f).permissive = s.permissive := rfl
@[simp] theorem modDose_notes (s : State) (n : ArmId) (k : Slot) (f : Dosing → Dosing) : (s.modDose n k f).notes = s.notes := rfl
@[simp] theorem modDose_nodes (s : State) (n : ArmId) (k : Slot) (f : Dosing → Dosing) : (s.modDose n k f).nodes = s.nodes := rfl
@[simp] theorem modDose_scans (s : State) (n : ArmId) (k : Slot) (f : Dosing → Dosing) : (s.modDose n k f).scans = s.scans := rfl
@[simp] theorem modDose_acceptance (s : State) (n : ArmId) (k : Slot) (f : Dosing → Dosing) : (s.modDose n k f).acceptance = s.acceptance := rfl
@[simp] theorem modDose_cmdQueue (s : State) (n : ArmId) (k : Slot) (f : Dosing → Dosing) : (s.modDose n k f).cmdQueue = s.cmdQueue := rfl
@[simp] theorem modDose_relayQueue (s : State) (n : ArmId) (k : Slot) (f : Dosing → Dosing) : (s.modDose n k f).relayQueue = s.relayQueue := rfl
@[simp] theorem modDose_field (s : State) (n : ArmId) (k : Slot) (f : Dosing → Dosing) : (s.modDose n k f).field = s.field := rfl
@[simp] theorem modDose_reader (s : State) (n : ArmId) (k : Slot) (f : Dosing → Dosing) : (s.modDose n k f).reader = s.reader := rfl
@[simp] theorem modDose_up (s : State) (n : ArmId) (k : Slot) (f : Dosing → Dosing) : (s.modDose n k f).up = s.up := rfl
@[simp] theorem modDose_freeCount (s : State) (n : ArmId) (k : Slot) (f : Dosing → Dosing) : (s.modDose n k f).freeCount = s.freeCount := rfl
@[simp] theorem modDose_pending (s : State) (n : ArmId) (k : Slot) (f : Dosing → Dosing) : (s.modDose n k f).pending = s.pending := rfl

/-! ### modPermissive -/

@[simp] theorem modPermissive_clock (s : State) (f : Permissive → Permissive) : (s.modPermissive f).clock = s.clock := rfl
@[simp] theorem modPermissive_mode (s : State) (f : Permissive → Permissive) : (s.modPermissive f).mode = s.mode := rfl
@[simp] theorem modPermissive_status (s : State) (f : Permissive → Permissive) : (s.modPermissive f).status = s.status := rfl
@[simp] theorem modPermissive_session (s : State) (f : Permissive → Permissive) : (s.modPermissive f).session = s.session := rfl
@[simp] theorem modPermissive_store (s : State) (f : Permissive → Permissive) : (s.modPermissive f).store = s.store := rfl
@[simp] theorem modPermissive_banks (s : State) (f : Permissive → Permissive) : (s.modPermissive f).banks = s.banks := rfl
@[simp] theorem modPermissive_configs (s : State) (f : Permissive → Permissive) : (s.modPermissive f).configs = s.configs := rfl
@[simp] theorem modPermissive_arms (s : State) (f : Permissive → Permissive) : (s.modPermissive f).arms = s.arms := rfl
@[simp] theorem modPermissive_metering (s : State) (f : Permissive → Permissive) : (s.modPermissive f).metering = s.metering := rfl
@[simp] theorem modPermissive_dosing (s : State) (f : Permissive → Permissive) : (s.modPermissive f).dosing = s.dosing := rfl
@[simp] theorem modPermissive_permissive (s : State) (f : Permissive → Permissive) :
    (s.modPermissive f).permissive = f s.permissive := rfl
@[simp] theorem modPermissive_notes (s : State) (f : Permissive → Permissive) : (s.modPermissive f).notes = s.notes := rfl
@[simp] theorem modPermissive_nodes (s : State) (f : Permissive → Permissive) : (s.modPermissive f).nodes = s.nodes := rfl
@[simp] theorem modPermissive_scans (s : State) (f : Permissive → Permissive) : (s.modPermissive f).scans = s.scans := rfl
@[simp] theorem modPermissive_acceptance (s : State) (f : Permissive → Permissive) : (s.modPermissive f).acceptance = s.acceptance := rfl
@[simp] theorem modPermissive_cmdQueue (s : State) (f : Permissive → Permissive) : (s.modPermissive f).cmdQueue = s.cmdQueue := rfl
@[simp] theorem modPermissive_relayQueue (s : State) (f : Permissive → Permissive) : (s.modPermissive f).relayQueue = s.relayQueue := rfl
@[simp] theorem modPermissive_field (s : State) (f : Permissive → Permissive) : (s.modPermissive f).field = s.field := rfl
@[simp] theorem modPermissive_reader (s : State) (f : Permissive → Permissive) : (s.modPermissive f).reader = s.reader := rfl
@[simp] theorem modPermissive_up (s : State) (f : Permissive → Permissive) : (s.modPermissive f).up = s.up := rfl
@[simp] theorem modPermissive_freeCount (s : State) (f : Permissive → Permissive) : (s.modPermissive f).freeCount = s.freeCount := rfl
@[simp] theorem modPermissive_pending (s : State) (f : Permissive → Permissive) : (s.modPermissive f).pending = s.pending := rfl

/-! ### modNotes -/

@[simp] theorem modNotes_clock (s : State) (f : NoteStore → NoteStore) : (s.modNotes f).clock = s.clock := rfl
@[simp] theorem modNotes_mode (s : State) (f : NoteStore → NoteStore) : (s.modNotes f).mode = s.mode := rfl
@[simp] theorem modNotes_status (s : State) (f : NoteStore → NoteStore) : (s.modNotes f).status = s.status := rfl
@[simp] theorem modNotes_session (s : State) (f : NoteStore → NoteStore) : (s.modNotes f).session = s.session := rfl
@[simp] theorem modNotes_store (s : State) (f : NoteStore → NoteStore) : (s.modNotes f).store = s.store := rfl
@[simp] theorem modNotes_banks (s : State) (f : NoteStore → NoteStore) : (s.modNotes f).banks = s.banks := rfl
@[simp] theorem modNotes_configs (s : State) (f : NoteStore → NoteStore) : (s.modNotes f).configs = s.configs := rfl
@[simp] theorem modNotes_arms (s : State) (f : NoteStore → NoteStore) : (s.modNotes f).arms = s.arms := rfl
@[simp] theorem modNotes_metering (s : State) (f : NoteStore → NoteStore) : (s.modNotes f).metering = s.metering := rfl
@[simp] theorem modNotes_dosing (s : State) (f : NoteStore → NoteStore) : (s.modNotes f).dosing = s.dosing := rfl
@[simp] theorem modNotes_permissive (s : State) (f : NoteStore → NoteStore) : (s.modNotes f).permissive = s.permissive := rfl
@[simp] theorem modNotes_notes (s : State) (f : NoteStore → NoteStore) :
    (s.modNotes f).notes = f s.notes := rfl
@[simp] theorem modNotes_nodes (s : State) (f : NoteStore → NoteStore) : (s.modNotes f).nodes = s.nodes := rfl
@[simp] theorem modNotes_scans (s : State) (f : NoteStore → NoteStore) : (s.modNotes f).scans = s.scans := rfl
@[simp] theorem modNotes_acceptance (s : State) (f : NoteStore → NoteStore) : (s.modNotes f).acceptance = s.acceptance := rfl
@[simp] theorem modNotes_cmdQueue (s : State) (f : NoteStore → NoteStore) : (s.modNotes f).cmdQueue = s.cmdQueue := rfl
@[simp] theorem modNotes_relayQueue (s : State) (f : NoteStore → NoteStore) : (s.modNotes f).relayQueue = s.relayQueue := rfl
@[simp] theorem modNotes_field (s : State) (f : NoteStore → NoteStore) : (s.modNotes f).field = s.field := rfl
@[simp] theorem modNotes_reader (s : State) (f : NoteStore → NoteStore) : (s.modNotes f).reader = s.reader := rfl
@[simp] theorem modNotes_up (s : State) (f : NoteStore → NoteStore) : (s.modNotes f).up = s.up := rfl
@[simp] theorem modNotes_freeCount (s : State) (f : NoteStore → NoteStore) : (s.modNotes f).freeCount = s.freeCount := rfl
@[simp] theorem modNotes_pending (s : State) (f : NoteStore → NoteStore) : (s.modNotes f).pending = s.pending := rfl

/-! ### modNode -/

@[simp] theorem modNode_clock (s : State) (t : Tag) (f : Node → Node) : (s.modNode t f).clock = s.clock := rfl
@[simp] theorem modNode_mode (s : State) (t : Tag) (f : Node → Node) : (s.modNode t f).mode = s.mode := rfl
@[simp] theorem modNode_status (s : State) (t : Tag) (f : Node → Node) : (s.modNode t f).status = s.status := rfl
@[simp] theorem modNode_session (s : State) (t : Tag) (f : Node → Node) : (s.modNode t f).session = s.session := rfl
@[simp] theorem modNode_store (s : State) (t : Tag) (f : Node → Node) : (s.modNode t f).store = s.store := rfl
@[simp] theorem modNode_banks (s : State) (t : Tag) (f : Node → Node) : (s.modNode t f).banks = s.banks := rfl
@[simp] theorem modNode_configs (s : State) (t : Tag) (f : Node → Node) : (s.modNode t f).configs = s.configs := rfl
@[simp] theorem modNode_arms (s : State) (t : Tag) (f : Node → Node) : (s.modNode t f).arms = s.arms := rfl
@[simp] theorem modNode_metering (s : State) (t : Tag) (f : Node → Node) : (s.modNode t f).metering = s.metering := rfl
@[simp] theorem modNode_dosing (s : State) (t : Tag) (f : Node → Node) : (s.modNode t f).dosing = s.dosing := rfl
@[simp] theorem modNode_permissive (s : State) (t : Tag) (f : Node → Node) : (s.modNode t f).permissive = s.permissive := rfl
@[simp] theorem modNode_notes (s : State) (t : Tag) (f : Node → Node) : (s.modNode t f).notes = s.notes := rfl
@[simp] theorem modNode_nodes (s : State) (t : Tag) (f : Node → Node) :
    (s.modNode t f).nodes = if isNodeTag t then s.nodes.set t.toNat (f (s.nodes.getD t.toNat {})) else s.nodes := rfl
@[simp] theorem modNode_scans (s : State) (t : Tag) (f : Node → Node) : (s.modNode t f).scans = s.scans := rfl
@[simp] theorem modNode_acceptance (s : State) (t : Tag) (f : Node → Node) : (s.modNode t f).acceptance = s.acceptance := rfl
@[simp] theorem modNode_cmdQueue (s : State) (t : Tag) (f : Node → Node) : (s.modNode t f).cmdQueue = s.cmdQueue := rfl
@[simp] theorem modNode_relayQueue (s : State) (t : Tag) (f : Node → Node) : (s.modNode t f).relayQueue = s.relayQueue := rfl
@[simp] theorem modNode_field (s : State) (t : Tag) (f : Node → Node) : (s.modNode t f).field = s.field := rfl
@[simp] theorem modNode_reader (s : State) (t : Tag) (f : Node → Node) : (s.modNode t f).reader = s.reader := rfl
@[simp] theorem modNode_up (s : State) (t : Tag) (f : Node → Node) : (s.modNode t f).up = s.up := rfl
@[simp] theorem modNode_freeCount (s : State) (t : Tag) (f : Node → Node) : (s.modNode t f).freeCount = s.freeCount := rfl
@[simp] theorem modNode_pending (s : State) (t : Tag) (f : Node → Node) : (s.modNode t f).pending = s.pending := rfl

/-! ### setNodes -/

@[simp] theorem setNodes_clock (s : State) (q : List Node) : (s.setNodes q).clock = s.clock := rfl
@[simp] theorem setNodes_mode (s : State) (q : List Node) : (s.setNodes q).mode = s.mode := rfl
@[simp] theorem setNodes_status (s : State) (q : List Node) : (s.setNodes q).status = s.status := rfl
@[simp] theorem setNodes_session (s : State) (q : List Node) : (s.setNodes q).session = s.session := rfl
@[simp] theorem setNodes_store (s : State) (q : List Node) : (s.setNodes q).store = s.store := rfl
@[simp] theorem setNodes_banks (s : State) (q : List Node) : (s.setNodes q).banks = s.banks := rfl
@[simp] theorem setNodes_configs (s : State) (q : List Node) : (s.setNodes q).configs = s.configs := rfl
@[simp] theorem setNodes_arms (s : State) (q : List Node) : (s.setNodes q).arms = s.arms := rfl
@[simp] theorem setNodes_metering (s : State) (q : List Node) : (s.setNodes q).metering = s.metering := rfl
@[simp] theorem setNodes_dosing (s : State) (q : List Node) : (s.setNodes q).dosing = s.dosing := rfl
@[simp] theorem setNodes_permissive (s : State) (q : List Node) : (s.setNodes q).permissive = s.permissive := rfl
@[simp] theorem setNodes_notes (s : State) (q : List Node) : (s.setNodes q).notes = s.notes := rfl
@[simp] theorem setNodes_nodes (s : State) (q : List Node) :
    (s.setNodes q).nodes = q := rfl
@[simp] theorem setNodes_scans (s : State) (q : List Node) : (s.setNodes q).scans = s.scans := rfl
@[simp] theorem setNodes_acceptance (s : State) (q : List Node) : (s.setNodes q).acceptance = s.acceptance := rfl
@[simp] theorem setNodes_cmdQueue (s : State) (q : List Node) : (s.setNodes q).cmdQueue = s.cmdQueue := rfl
@[simp] theorem setNodes_relayQueue (s : State) (q : List Node) : (s.setNodes q).relayQueue = s.relayQueue := rfl
@[simp] theorem setNodes_field (s : State) (q : List Node) : (s.setNodes q).field = s.field := rfl
@[simp] theorem setNodes_reader (s : State) (q : List Node) : (s.setNodes q).reader = s.reader := rfl
@[simp] theorem setNodes_up (s : State) (q : List Node) : (s.setNodes q).up = s.up := rfl
@[simp] theorem setNodes_freeCount (s : State) (q : List Node) : (s.setNodes q).freeCount = s.freeCount := rfl
@[simp] theorem setNodes_pending (s : State) (q : List Node) : (s.setNodes q).pending = s.pending := rfl

/-! ### modScans -/

@[simp] theorem modScans_clock (s : State) (f : List ScanEntry → List ScanEntry) : (s.modScans f).clock = s.clock := rfl
@[simp] theorem modScans_mode (s : State) (f : List ScanEntry → List ScanEntry) : (s.modScans f).mode = s.mode := rfl
@[simp] theorem modScans_status (s : State) (f : List ScanEntry → List ScanEntry) : (s.modScans f).status = s.status := rfl
@[simp] theorem modScans_session (s : State) (f : List ScanEntry → List ScanEntry) : (s.modScans f).session = s.session := rfl
@[simp] theorem modScans_store (s : State) (f : List ScanEntry → List ScanEntry) : (s.modScans f).store = s.store := rfl
@[simp] theorem modScans_banks (s : State) (f : List ScanEntry → List ScanEntry) : (s.modScans f).banks = s.banks := rfl
@[simp] theorem modScans_configs (s : State) (f : List ScanEntry → List ScanEntry) : (s.modScans f).configs = s.configs := rfl
@[simp] theorem modScans_arms (s : State) (f : List ScanEntry → List ScanEntry) : (s.modScans f).arms = s.arms := rfl
@[simp] theorem modScans_metering (s : State) (f : List ScanEntry → List ScanEntry) : (s.modScans f).metering = s.metering := rfl
@[simp] theorem modScans_dosing (s : State) (f : List ScanEntry → List ScanEntry) : (s.modScans f).dosing = s.dosing := rfl
@[simp] theorem modScans_permissive (s : State) (f : List ScanEntry → List ScanEntry) : (s.modScans f).permissive = s.permissive := rfl
@[simp] theorem modScans_notes (s : State) (f : List ScanEntry → List ScanEntry) : (s.modScans f).notes = s.notes := rfl
@[simp] theorem modScans_nodes (s : State) (f : List ScanEntry → List ScanEntry) : (s.modScans f).nodes = s.nodes := rfl
@[simp] theorem modScans_scans (s : State) (f : List ScanEntry → List ScanEntry) :
    (s.modScans f).scans = f s.scans := rfl
@[simp] theorem modScans_acceptance (s : State) (f : List ScanEntry → List ScanEntry) : (s.modScans f).acceptance = s.acceptance := rfl
@[simp] theorem modScans_cmdQueue (s : State) (f : List ScanEntry → List ScanEntry) : (s.modScans f).cmdQueue = s.cmdQueue := rfl
@[simp] theorem modScans_relayQueue (s : State) (f : List ScanEntry → List ScanEntry) : (s.modScans f).relayQueue = s.relayQueue := rfl
@[simp] theorem modScans_field (s : State) (f : List ScanEntry → List ScanEntry) : (s.modScans f).field = s.field := rfl
@[simp] theorem modScans_reader (s : State) (f : List ScanEntry → List ScanEntry) : (s.modScans f).reader = s.reader := rfl
@[simp] theorem modScans_up (s : State) (f : List ScanEntry → List ScanEntry) : (s.modScans f).up = s.up := rfl
@[simp] theorem modScans_freeCount (s : State) (f : List ScanEntry → List ScanEntry) : (s.modScans f).freeCount = s.freeCount := rfl
@[simp] theorem modScans_pending (s : State) (f : List ScanEntry → List ScanEntry) : (s.modScans f).pending = s.pending := rfl

/-! ### modAcceptance -/

@[simp] theorem modAcceptance_clock (s : State) (f : List AcceptanceEntry → List AcceptanceEntry) : (s.modAcceptance f).clock = s.clock := rfl
@[simp] theorem modAcceptance_mode (s : State) (f : List AcceptanceEntry → List AcceptanceEntry) : (s.modAcceptance f).mode = s.mode := rfl
@[simp] theorem modAcceptance_status (s : State) (f : List AcceptanceEntry → List AcceptanceEntry) : (s.modAcceptance f).status = s.status := rfl
@[simp] theorem modAcceptance_session (s : State) (f : List AcceptanceEntry → List AcceptanceEntry) : (s.modAcceptance f).session = s.session := rfl
@[simp] theorem modAcceptance_store (s : State) (f : List AcceptanceEntry → List AcceptanceEntry) : (s.modAcceptance f).store = s.store := rfl
@[simp] theorem modAcceptance_banks (s : State) (f : List AcceptanceEntry → List AcceptanceEntry) : (s.modAcceptance f).banks = s.banks := rfl
@[simp] theorem modAcceptance_configs (s : State) (f : List AcceptanceEntry → List AcceptanceEntry) : (s.modAcceptance f).configs = s.configs := rfl
@[simp] theorem modAcceptance_arms (s : State) (f : List AcceptanceEntry → List AcceptanceEntry) : (s.modAcceptance f).arms = s.arms := rfl
@[simp] theorem modAcceptance_metering (s : State) (f : List AcceptanceEntry → List AcceptanceEntry) : (s.modAcceptance f).metering = s.metering := rfl
@[simp] theorem modAcceptance_dosing (s : State) (f : List AcceptanceEntry → List AcceptanceEntry) : (s.modAcceptance f).dosing = s.dosing := rfl
@[simp] theorem modAcceptance_permissive (s : State) (f : List AcceptanceEntry → List AcceptanceEntry) : (s.modAcceptance f).permissive = s.permissive := rfl
@[simp] theorem modAcceptance_notes (s : State) (f : List AcceptanceEntry → List AcceptanceEntry) : (s.modAcceptance f).notes = s.notes := rfl
@[simp] theorem modAcceptance_nodes (s : State) (f : List AcceptanceEntry → List AcceptanceEntry) : (s.modAcceptance f).nodes = s.nodes := rfl
@[simp] theorem modAcceptance_scans (s : State) (f : List AcceptanceEntry → List AcceptanceEntry) : (s.modAcceptance f).scans = s.scans := rfl
@[simp] theorem modAcceptance_acceptance (s : State) (f : List AcceptanceEntry → List AcceptanceEntry) :
    (s.modAcceptance f).acceptance = f s.acceptance := rfl
@[simp] theorem modAcceptance_cmdQueue (s : State) (f : List AcceptanceEntry → List AcceptanceEntry) : (s.modAcceptance f).cmdQueue = s.cmdQueue := rfl
@[simp] theorem modAcceptance_relayQueue (s : State) (f : List AcceptanceEntry → List AcceptanceEntry) : (s.modAcceptance f).relayQueue = s.relayQueue := rfl
@[simp] theorem modAcceptance_field (s : State) (f : List AcceptanceEntry → List AcceptanceEntry) : (s.modAcceptance f).field = s.field := rfl
@[simp] theorem modAcceptance_reader (s : State) (f : List AcceptanceEntry → List AcceptanceEntry) : (s.modAcceptance f).reader = s.reader := rfl
@[simp] theorem modAcceptance_up (s : State) (f : List AcceptanceEntry → List AcceptanceEntry) : (s.modAcceptance f).up = s.up := rfl
@[simp] theorem modAcceptance_freeCount (s : State) (f : List AcceptanceEntry → List AcceptanceEntry) : (s.modAcceptance f).freeCount = s.freeCount := rfl
@[simp] theorem modAcceptance_pending (s : State) (f : List AcceptanceEntry → List AcceptanceEntry) : (s.modAcceptance f).pending = s.pending := rfl

/-! ### setCmdQueue -/

@[simp] theorem setCmdQueue_clock (s : State) (q : List Cmd) : (s.setCmdQueue q).clock = s.clock := rfl
@[simp] theorem setCmdQueue_mode (s : State) (q : List Cmd) : (s.setCmdQueue q).mode = s.mode := rfl
@[simp] theorem setCmdQueue_status (s : State) (q : List Cmd) : (s.setCmdQueue q).status = s.status := rfl
@[simp] theorem setCmdQueue_session (s : State) (q : List Cmd) : (s.setCmdQueue q).session = s.session := rfl
@[simp] theorem setCmdQueue_store (s : State) (q : List Cmd) : (s.setCmdQueue q).store = s.store := rfl
@[simp] theorem setCmdQueue_banks (s : State) (q : List Cmd) : (s.setCmdQueue q).banks = s.banks := rfl
@[simp] theorem setCmdQueue_configs (s : State) (q : List Cmd) : (s.setCmdQueue q).configs = s.configs := rfl
@[simp] theorem setCmdQueue_arms (s : State) (q : List Cmd) : (s.setCmdQueue q).arms = s.arms := rfl
@[simp] theorem setCmdQueue_metering (s : State) (q : List Cmd) : (s.setCmdQueue q).metering = s.metering := rfl
@[simp] theorem setCmdQueue_dosing (s : State) (q : List Cmd) : (s.setCmdQueue q).dosing = s.dosing := rfl
@[simp] theorem setCmdQueue_permissive (s : State) (q : List Cmd) : (s.setCmdQueue q).permissive = s.permissive := rfl
@[simp] theorem setCmdQueue_notes (s : State) (q : List Cmd) : (s.setCmdQueue q).notes = s.notes := rfl
@[simp] theorem setCmdQueue_nodes (s : State) (q : List Cmd) : (s.setCmdQueue q).nodes = s.nodes := rfl
@[simp] theorem setCmdQueue_scans (s : State) (q : List Cmd) : (s.setCmdQueue q).scans = s.scans := rfl
@[simp] theorem setCmdQueue_acceptance (s : State) (q : List Cmd) : (s.setCmdQueue q).acceptance = s.acceptance := rfl
@[simp] theorem setCmdQueue_cmdQueue (s : State) (q : List Cmd) :
    (s.setCmdQueue q).cmdQueue = q := rfl
@[simp] theorem setCmdQueue_relayQueue (s : State) (q : List Cmd) : (s.setCmdQueue q).relayQueue = s.relayQueue := rfl
@[simp] theorem setCmdQueue_field (s : State) (q : List Cmd) : (s.setCmdQueue q).field = s.field := rfl
@[simp] theorem setCmdQueue_reader (s : State) (q : List Cmd) : (s.setCmdQueue q).reader = s.reader := rfl
@[simp] theorem setCmdQueue_up (s : State) (q : List Cmd) : (s.setCmdQueue q).up = s.up := rfl
@[simp] theorem setCmdQueue_freeCount (s : State) (q : List Cmd) : (s.setCmdQueue q).freeCount = s.freeCount := rfl
@[simp] theorem setCmdQueue_pending (s : State) (q : List Cmd) : (s.setCmdQueue q).pending = s.pending := rfl

/-! ### setRelayQueue -/

@[simp] theorem setRelayQueue_clock (s : State) (q : List Relayed) : (s.setRelayQueue q).clock = s.clock := rfl
@[simp] theorem setRelayQueue_mode (s : State) (q : List Relayed) : (s.setRelayQueue q).mode = s.mode := rfl
@[simp] theorem setRelayQueue_status (s : State) (q : List Relayed) : (s.setRelayQueue q).status = s.status := rfl
@[simp] theorem setRelayQueue_session (s : State) (q : List Relayed) : (s.setRelayQueue q).session = s.session := rfl
@[simp] theorem setRelayQueue_store (s : State) (q : List Relayed) : (s.setRelayQueue q).store = s.store := rfl
@[simp] theorem setRelayQueue_banks (s : State) (q : List Relayed) : (s.setRelayQueue q).banks = s.banks := rfl
@[simp] theorem setRelayQueue_configs (s : State) (q : List Relayed) : (s.setRelayQueue q).configs = s.configs := rfl
@[simp] theorem setRelayQueue_arms (s : State) (q : List Relayed) : (s.setRelayQueue q).arms = s.arms := rfl
@[simp] theorem setRelayQueue_metering (s : State) (q : List Relayed) : (s.setRelayQueue q).metering = s.metering := rfl
@[simp] theorem setRelayQueue_dosing (s : State) (q : List Relayed) : (s.setRelayQueue q).dosing = s.dosing := rfl
@[simp] theorem setRelayQueue_permissive (s : State) (q : List Relayed) : (s.setRelayQueue q).permissive = s.permissive := rfl
@[simp] theorem setRelayQueue_notes (s : State) (q : List Relayed) : (s.setRelayQueue q).notes = s.notes := rfl
@[simp] theorem setRelayQueue_nodes (s : State) (q : List Relayed) : (s.setRelayQueue q).nodes = s.nodes := rfl
@[simp] theorem setRelayQueue_scans (s : State) (q : List Relayed) : (s.setRelayQueue q).scans = s.scans := rfl
@[simp] theorem setRelayQueue_acceptance (s : State) (q : List Relayed) : (s.setRelayQueue q).acceptance = s.acceptance := rfl
@[simp] theorem setRelayQueue_cmdQueue (s : State) (q : List Relayed) : (s.setRelayQueue q).cmdQueue = s.cmdQueue := rfl
@[simp] theorem setRelayQueue_relayQueue (s : State) (q : List Relayed) :
    (s.setRelayQueue q).relayQueue = q := rfl
@[simp] theorem setRelayQueue_field (s : State) (q : List Relayed) : (s.setRelayQueue q).field = s.field := rfl
@[simp] theorem setRelayQueue_reader (s : State) (q : List Relayed) : (s.setRelayQueue q).reader = s.reader := rfl
@[simp] theorem setRelayQueue_up (s : State) (q : List Relayed) : (s.setRelayQueue q).up = s.up := rfl
@[simp] theorem setRelayQueue_freeCount (s : State) (q : List Relayed) : (s.setRelayQueue q).freeCount = s.freeCount := rfl
@[simp] theorem setRelayQueue_pending (s : State) (q : List Relayed) : (s.setRelayQueue q).pending = s.pending := rfl

/-! ### modField -/

@[simp] theorem modField_clock (s : State) (f : FieldLine → FieldLine) : (s.modField f).clock = s.clock := rfl
@[simp] theorem modField_mode (s : State) (f : FieldLine → FieldLine) : (s.modField f).mode = s.mode := rfl
@[simp] theorem modField_status (s : State) (f : FieldLine → FieldLine) : (s.modField f).status = s.status := rfl
@[simp] theorem modField_session (s : State) (f : FieldLine → FieldLine) : (s.modField f).session = s.session := rfl
@[simp] theorem modField_store (s : State) (f : FieldLine → FieldLine) : (s.modField f).store = s.store := rfl
@[simp] theorem modField_banks (s : State) (f : FieldLine → FieldLine) : (s.modField f).banks = s.banks := rfl
@[simp] theorem modField_configs (s : State) (f : FieldLine → FieldLine) : (s.modField f).configs = s.configs := rfl
@[simp] theorem modField_arms (s : State) (f : FieldLine → FieldLine) : (s.modField f).arms = s.arms := rfl
@[simp] theorem modField_metering (s : State) (f : FieldLine → FieldLine) : (s.modField f).metering = s.metering := rfl
@[simp] theorem modField_dosing (s : State) (f : FieldLine → FieldLine) : (s.modField f).dosing = s.dosing := rfl
@[simp] theorem modField_permissive (s : State) (f : FieldLine → FieldLine) : (s.modField f).permissive = s.permissive := rfl
@[simp] theorem modField_notes (s : State) (f : FieldLine → FieldLine) : (s.modField f).notes = s.notes := rfl
@[simp] theorem modField_nodes (s : State) (f : FieldLine → FieldLine) : (s.modField f).nodes = s.nodes := rfl
@[simp] theorem modField_scans (s : State) (f : FieldLine → FieldLine) : (s.modField f).scans = s.scans := rfl
@[simp] theorem modField_acceptance (s : State) (f : FieldLine → FieldLine) : (s.modField f).acceptance = s.acceptance := rfl
@[simp] theorem modField_cmdQueue (s : State) (f : FieldLine → FieldLine) : (s.modField f).cmdQueue = s.cmdQueue := rfl
@[simp] theorem modField_relayQueue (s : State) (f : FieldLine → FieldLine) : (s.modField f).relayQueue = s.relayQueue := rfl
@[simp] theorem modField_field (s : State) (f : FieldLine → FieldLine) :
    (s.modField f).field = f s.field := rfl
@[simp] theorem modField_reader (s : State) (f : FieldLine → FieldLine) : (s.modField f).reader = s.reader := rfl
@[simp] theorem modField_up (s : State) (f : FieldLine → FieldLine) : (s.modField f).up = s.up := rfl
@[simp] theorem modField_freeCount (s : State) (f : FieldLine → FieldLine) : (s.modField f).freeCount = s.freeCount := rfl
@[simp] theorem modField_pending (s : State) (f : FieldLine → FieldLine) : (s.modField f).pending = s.pending := rfl

/-! ### setReader -/

@[simp] theorem setReader_clock (s : State) (r : Extraction) : (s.setReader r).clock = s.clock := rfl
@[simp] theorem setReader_mode (s : State) (r : Extraction) : (s.setReader r).mode = s.mode := rfl
@[simp] theorem setReader_status (s : State) (r : Extraction) : (s.setReader r).status = s.status := rfl
@[simp] theorem setReader_session (s : State) (r : Extraction) : (s.setReader r).session = s.session := rfl
@[simp] theorem setReader_store (s : State) (r : Extraction) : (s.setReader r).store = s.store := rfl
@[simp] theorem setReader_banks (s : State) (r : Extraction) : (s.setReader r).banks = s.banks := rfl
@[simp] theorem setReader_configs (s : State) (r : Extraction) : (s.setReader r).configs = s.configs := rfl
@[simp] theorem setReader_arms (s : State) (r : Extraction) : (s.setReader r).arms = s.arms := rfl
@[simp] theorem setReader_metering (s : State) (r : Extraction) : (s.setReader r).metering = s.metering := rfl
@[simp] theorem setReader_dosing (s : State) (r : Extraction) : (s.setReader r).dosing = s.dosing := rfl
@[simp] theorem setReader_permissive (s : State) (r : Extraction) : (s.setReader r).permissive = s.permissive := rfl
@[simp] theorem setReader_notes (s : State) (r : Extraction) : (s.setReader r).notes = s.notes := rfl
@[simp] theorem setReader_nodes (s : State) (r : Extraction) : (s.setReader r).nodes = s.nodes := rfl
@[simp] theorem setReader_scans (s : State) (r : Extraction) : (s.setReader r).scans = s.scans := rfl
@[simp] theorem setReader_acceptance (s : State) (r : Extraction) : (s.setReader r).acceptance = s.acceptance := rfl
@[simp] theorem setReader_cmdQueue (s : State) (r : Extraction) : (s.setReader r).cmdQueue = s.cmdQueue := rfl
@[simp] theorem setReader_relayQueue (s : State) (r : Extraction) : (s.setReader r).relayQueue = s.relayQueue := rfl
@[simp] theorem setReader_field (s : State) (r : Extraction) : (s.setReader r).field = s.field := rfl
@[simp] theorem setReader_reader (s : State) (r : Extraction) :
    (s.setReader r).reader = r := rfl
@[simp] theorem setReader_up (s : State) (r : Extraction) : (s.setReader r).up = s.up := rfl
@[simp] theorem setReader_freeCount (s : State) (r : Extraction) : (s.setReader r).freeCount = s.freeCount := rfl
@[simp] theorem setReader_pending (s : State) (r : Extraction) : (s.setReader r).pending = s.pending := rfl

/-! ### modUp -/

@[simp] theorem modUp_clock (s : State) (f : Upstream → Upstream) : (s.modUp f).clock = s.clock := rfl
@[simp] theorem modUp_mode (s : State) (f : Upstream → Upstream) : (s.modUp f).mode = s.mode := rfl
@[simp] theorem modUp_status (s : State) (f : Upstream → Upstream) : (s.modUp f).status = s.status := rfl
@[simp] theorem modUp_session (s : State) (f : Upstream → Upstream) : (s.modUp f).session = s.session := rfl
@[simp] theorem modUp_store (s : State) (f : Upstream → Upstream) : (s.modUp f).store = s.store := rfl
@[simp] theorem modUp_banks (s : State) (f : Upstream → Upstream) : (s.modUp f).banks = s.banks := rfl
@[simp] theorem modUp_configs (s : State) (f : Upstream → Upstream) : (s.modUp f).configs = s.configs := rfl
@[simp] theorem modUp_arms (s : State) (f : Upstream → Upstream) : (s.modUp f).arms = s.arms := rfl
@[simp] theorem modUp_metering (s : State) (f : Upstream → Upstream) : (s.modUp f).metering = s.metering := rfl
@[simp] theorem modUp_dosing (s : State) (f : Upstream → Upstream) : (s.modUp f).dosing = s.dosing := rfl
@[simp] theorem modUp_permissive (s : State) (f : Upstream → Upstream) : (s.modUp f).permissive = s.permissive := rfl
@[simp] theorem modUp_notes (s : State) (f : Upstream → Upstream) : (s.modUp f).notes = s.notes := rfl
@[simp] theorem modUp_nodes (s : State) (f : Upstream → Upstream) : (s.modUp f).nodes = s.nodes := rfl
@[simp] theorem modUp_scans (s : State) (f : Upstream → Upstream) : (s.modUp f).scans = s.scans := rfl
@[simp] theorem modUp_acceptance (s : State) (f : Upstream → Upstream) : (s.modUp f).acceptance = s.acceptance := rfl
@[simp] theorem modUp_cmdQueue (s : State) (f : Upstream → Upstream) : (s.modUp f).cmdQueue = s.cmdQueue := rfl
@[simp] theorem modUp_relayQueue (s : State) (f : Upstream → Upstream) : (s.modUp f).relayQueue = s.relayQueue := rfl
@[simp] theorem modUp_field (s : State) (f : Upstream → Upstream) : (s.modUp f).field = s.field := rfl
@[simp] theorem modUp_reader (s : State) (f : Upstream → Upstream) : (s.modUp f).reader = s.reader := rfl
@[simp] theorem modUp_up (s : State) (f : Upstream → Upstream) :
    (s.modUp f).up = f s.up := rfl
@[simp] theorem modUp_freeCount (s : State) (f : Upstream → Upstream) : (s.modUp f).freeCount = s.freeCount := rfl
@[simp] theorem modUp_pending (s : State) (f : Upstream → Upstream) : (s.modUp f).pending = s.pending := rfl

/-! ### One value for each arm and slot -/

@[simp] theorem perArm_get_set_same {α : Type} (p : PerArm α) (n : ArmId) (x : α) : (p.set n x).get n = x := by
  cases n <;> rfl

theorem perArm_get_set_other {α : Type} (p : PerArm α) (n m : ArmId) (x : α) (h : m ≠ n) :
    (p.set n x).get m = p.get m := by
  cases n <;> cases m <;> first | rfl | exact absurd rfl h

@[simp] theorem perSlot_get_set_same {α : Type} (p : PerSlot α) (k : Slot) (x : α) : (p.set k x).get k = x := by
  cases k <;> rfl

theorem perSlot_get_set_other {α : Type} (p : PerSlot α) (k j : Slot) (x : α) (h : j ≠ k) :
    (p.set k x).get j = p.get j := by
  cases k <;> cases j <;> first | rfl | exact absurd rfl h

/-- An arm after an update of an arm. -/
theorem arm_modArm (s : State) (n m : ArmId) (f : Arm → Arm) :
    (s.modArm n f).arm m = if m = n then f (s.arm n) else s.arm m := by
  cases n <;> cases m <;> rfl

/-- A metering record after an update of one. -/
theorem meter_modMeter (s : State) (n m : ArmId) (f : Metering → Metering) :
    (s.modMeter n f).meter m = if m = n then f (s.meter n) else s.meter m := by
  cases n <;> cases m <;> rfl

/-- A configuration after one is written. -/
theorem config_setConfig (s : State) (n m : ArmId) (c : ArmConfig) :
    (s.setConfig n c).config m = if m = n then c else s.config m := by
  cases n <;> cases m <;> rfl

/-! ### Compartments -/

/-- An update of a compartment changes the session's list alone. -/
theorem modComp_frame (s : State) (k : Nat) (f : Comp → Comp) :
    s.modComp k f = { s with session := (s.modComp k f).session } := rfl

/-- What an update of a compartment leaves. -/
@[simp] theorem modComp_leaves (s : State) (k : Nat) (f : Comp → Comp) :
    (s.modComp k f).clock = s.clock ∧
    (s.modComp k f).mode = s.mode ∧
    (s.modComp k f).status = s.status ∧
    (s.modComp k f).store = s.store ∧
    (s.modComp k f).banks = s.banks ∧
    (s.modComp k f).configs = s.configs ∧
    (s.modComp k f).arms = s.arms ∧
    (s.modComp k f).metering = s.metering ∧
    (s.modComp k f).dosing = s.dosing ∧
    (s.modComp k f).permissive = s.permissive ∧
    (s.modComp k f).notes = s.notes ∧
    (s.modComp k f).nodes = s.nodes ∧
    (s.modComp k f).scans = s.scans ∧
    (s.modComp k f).acceptance = s.acceptance ∧
    (s.modComp k f).cmdQueue = s.cmdQueue ∧
    (s.modComp k f).relayQueue = s.relayQueue ∧
    (s.modComp k f).field = s.field ∧
    (s.modComp k f).reader = s.reader ∧
    (s.modComp k f).up = s.up ∧
    (s.modComp k f).freeCount = s.freeCount ∧
    (s.modComp k f).pending = s.pending := by
  simp [State.modComp]

/-- An update of the held compartment changes the session alone. -/
theorem modHeld_frame (s : State) (n : ArmId) (f : Comp → Comp) :
    s.modHeld n f = { s with session := (s.modHeld n f).session } := by
  unfold State.modHeld
  split <;> rfl

/-- What an update of the held compartment leaves. -/
@[simp] theorem modHeld_leaves (s : State) (n : ArmId) (f : Comp → Comp) :
    (s.modHeld n f).clock = s.clock ∧
    (s.modHeld n f).mode = s.mode ∧
    (s.modHeld n f).status = s.status ∧
    (s.modHeld n f).store = s.store ∧
    (s.modHeld n f).banks = s.banks ∧
    (s.modHeld n f).configs = s.configs ∧
    (s.modHeld n f).arms = s.arms ∧
    (s.modHeld n f).metering = s.metering ∧
    (s.modHeld n f).dosing = s.dosing ∧
    (s.modHeld n f).permissive = s.permissive ∧
    (s.modHeld n f).notes = s.notes ∧
    (s.modHeld n f).nodes = s.nodes ∧
    (s.modHeld n f).scans = s.scans ∧
    (s.modHeld n f).acceptance = s.acceptance ∧
    (s.modHeld n f).cmdQueue = s.cmdQueue ∧
    (s.modHeld n f).relayQueue = s.relayQueue ∧
    (s.modHeld n f).field = s.field ∧
    (s.modHeld n f).reader = s.reader ∧
    (s.modHeld n f).up = s.up ∧
    (s.modHeld n f).freeCount = s.freeCount ∧
    (s.modHeld n f).pending = s.pending := by
  unfold State.modHeld
  split <;> simp [State.modComp]

end Sys2Proof.Machine
end

