-- ==== Sys2Proof/Laws/Ops.lean ====
section
/-! SUPPORT. What the shared operations of Ops, Banks, Notes and Bay leave: each lemma names every part of the state that its
operation does not touch. -/

set_option linter.unusedTactic false
set_option linter.unnecessarySeqFocus false

namespace Sys2Proof.Machine

/-- What each arm's step leaves, the four steps leave. -/
theorem forArms_keeps {β : Type} (g : State → β) (f : ArmId → State → State) (h : ∀ n t, g (f n t) = g t)
    (s : State) : g (forArms f s) = g s := by
  unfold forArms
  rw [h, h, h, h]

/-- A sticky flag touches the status alone. -/
@[simp] theorem raiseFlag_leaves (s : State) (f : StatusFlag) :
    (s.raiseFlag f).clock = s.clock ∧ (s.raiseFlag f).mode = s.mode ∧ (s.raiseFlag f).session = s.session ∧
    (s.raiseFlag f).store = s.store ∧ (s.raiseFlag f).banks = s.banks ∧ (s.raiseFlag f).configs = s.configs ∧
    (s.raiseFlag f).arms = s.arms ∧ (s.raiseFlag f).metering = s.metering ∧ (s.raiseFlag f).dosing = s.dosing ∧
    (s.raiseFlag f).permissive = s.permissive ∧ (s.raiseFlag f).notes = s.notes ∧
    (s.raiseFlag f).nodes = s.nodes ∧ (s.raiseFlag f).scans = s.scans ∧
    (s.raiseFlag f).acceptance = s.acceptance ∧ (s.raiseFlag f).cmdQueue = s.cmdQueue ∧
    (s.raiseFlag f).relayQueue = s.relayQueue ∧ (s.raiseFlag f).field = s.field ∧
    (s.raiseFlag f).reader = s.reader ∧ (s.raiseFlag f).up = s.up ∧ (s.raiseFlag f).freeCount = s.freeCount ∧
    (s.raiseFlag f).pending = s.pending := by
  unfold State.raiseFlag
  (try dsimp only)
  (repeat' split) <;> (try dsimp only) <;> (repeat' split) <;> simp

/-- Counting touches the status alone. -/
@[simp] theorem countBy_leaves (s : State) (c : CounterId) (k : Nat) :
    (s.countBy c k).clock = s.clock ∧ (s.countBy c k).mode = s.mode ∧ (s.countBy c k).session = s.session ∧
    (s.countBy c k).store = s.store ∧ (s.countBy c k).banks = s.banks ∧ (s.countBy c k).configs = s.configs ∧
    (s.countBy c k).arms = s.arms ∧ (s.countBy c k).metering = s.metering ∧ (s.countBy c k).dosing = s.dosing ∧
    (s.countBy c k).permissive = s.permissive ∧ (s.countBy c k).notes = s.notes ∧
    (s.countBy c k).nodes = s.nodes ∧ (s.countBy c k).scans = s.scans ∧
    (s.countBy c k).acceptance = s.acceptance ∧ (s.countBy c k).cmdQueue = s.cmdQueue ∧
    (s.countBy c k).relayQueue = s.relayQueue ∧ (s.countBy c k).field = s.field ∧
    (s.countBy c k).reader = s.reader ∧ (s.countBy c k).up = s.up ∧ (s.countBy c k).freeCount = s.freeCount ∧
    (s.countBy c k).pending = s.pending := by
  unfold State.countBy
  (try dsimp only)
  (repeat' split) <;> (try dsimp only) <;> (repeat' split) <;> simp

/-- Counting touches the status alone. -/
@[simp] theorem count_leaves (s : State) (c : CounterId) :
    (s.count c).clock = s.clock ∧ (s.count c).mode = s.mode ∧ (s.count c).session = s.session ∧
    (s.count c).store = s.store ∧ (s.count c).banks = s.banks ∧ (s.count c).configs = s.configs ∧
    (s.count c).arms = s.arms ∧ (s.count c).metering = s.metering ∧ (s.count c).dosing = s.dosing ∧
    (s.count c).permissive = s.permissive ∧ (s.count c).notes = s.notes ∧ (s.count c).nodes = s.nodes ∧
    (s.count c).scans = s.scans ∧ (s.count c).acceptance = s.acceptance ∧ (s.count c).cmdQueue = s.cmdQueue ∧
    (s.count c).relayQueue = s.relayQueue ∧ (s.count c).field = s.field ∧ (s.count c).reader = s.reader ∧
    (s.count c).up = s.up ∧ (s.count c).freeCount = s.freeCount ∧ (s.count c).pending = s.pending := by
  unfold State.count
  (try dsimp only)
  (repeat' split) <;> (try dsimp only) <;> (repeat' split) <;> simp

/-- A valve DRIVE offered touches the queue alone (R169). -/
@[simp] theorem queueValve_leaves (s : State) (n : ArmId) (p : Position) :
    (queueValve n p s).clock = s.clock ∧ (queueValve n p s).mode = s.mode ∧
    (queueValve n p s).status = s.status ∧ (queueValve n p s).session = s.session ∧
    (queueValve n p s).store = s.store ∧ (queueValve n p s).banks = s.banks ∧
    (queueValve n p s).configs = s.configs ∧ (queueValve n p s).arms = s.arms ∧
    (queueValve n p s).metering = s.metering ∧ (queueValve n p s).dosing = s.dosing ∧
    (queueValve n p s).permissive = s.permissive ∧ (queueValve n p s).notes = s.notes ∧
    (queueValve n p s).nodes = s.nodes ∧ (queueValve n p s).scans = s.scans ∧
    (queueValve n p s).acceptance = s.acceptance ∧ (queueValve n p s).relayQueue = s.relayQueue ∧
    (queueValve n p s).field = s.field ∧ (queueValve n p s).reader = s.reader ∧ (queueValve n p s).up = s.up ∧
    (queueValve n p s).freeCount = s.freeCount ∧ (queueValve n p s).pending = s.pending := by
  unfold queueValve
  (try dsimp only)
  (repeat' split) <;> (try dsimp only) <;> (repeat' split) <;> simp

/-- A display request touches the queue alone (R22). -/
@[simp] theorem display_leaves (s : State) (code : Nat) :
    (display code s).clock = s.clock ∧ (display code s).mode = s.mode ∧ (display code s).status = s.status ∧
    (display code s).session = s.session ∧ (display code s).store = s.store ∧ (display code s).banks = s.banks ∧
    (display code s).configs = s.configs ∧ (display code s).arms = s.arms ∧
    (display code s).metering = s.metering ∧ (display code s).dosing = s.dosing ∧
    (display code s).permissive = s.permissive ∧ (display code s).notes = s.notes ∧
    (display code s).nodes = s.nodes ∧ (display code s).scans = s.scans ∧
    (display code s).acceptance = s.acceptance ∧ (display code s).relayQueue = s.relayQueue ∧
    (display code s).field = s.field ∧ (display code s).reader = s.reader ∧ (display code s).up = s.up ∧
    (display code s).freeCount = s.freeCount ∧ (display code s).pending = s.pending := by
  unfold display
  (try dsimp only)
  (repeat' split) <;> (try dsimp only) <;> (repeat' split) <;> simp

/-- A commanded position touches the arm and the queue (R47). -/
@[simp] theorem commandValve_leaves (s : State) (n : ArmId) (p : Position) :
    (commandValve n p s).clock = s.clock ∧ (commandValve n p s).mode = s.mode ∧
    (commandValve n p s).status = s.status ∧ (commandValve n p s).session = s.session ∧
    (commandValve n p s).store = s.store ∧ (commandValve n p s).banks = s.banks ∧
    (commandValve n p s).configs = s.configs ∧ (commandValve n p s).metering = s.metering ∧
    (commandValve n p s).dosing = s.dosing ∧ (commandValve n p s).permissive = s.permissive ∧
    (commandValve n p s).notes = s.notes ∧ (commandValve n p s).nodes = s.nodes ∧
    (commandValve n p s).scans = s.scans ∧ (commandValve n p s).acceptance = s.acceptance ∧
    (commandValve n p s).relayQueue = s.relayQueue ∧ (commandValve n p s).field = s.field ∧
    (commandValve n p s).reader = s.reader ∧ (commandValve n p s).up = s.up ∧
    (commandValve n p s).freeCount = s.freeCount ∧ (commandValve n p s).pending = s.pending := by
  unfold commandValve
  (try dsimp only)
  (repeat' split) <;> (try dsimp only) <;> (repeat' split) <;> simp

/-- A halt touches the arm, its compartment and the queue (R58). -/
@[simp] theorem haltArm_leaves (s : State) (n : ArmId) :
    (haltArm n s).clock = s.clock ∧ (haltArm n s).mode = s.mode ∧ (haltArm n s).status = s.status ∧
    (haltArm n s).store = s.store ∧ (haltArm n s).banks = s.banks ∧ (haltArm n s).configs = s.configs ∧
    (haltArm n s).metering = s.metering ∧ (haltArm n s).dosing = s.dosing ∧
    (haltArm n s).permissive = s.permissive ∧ (haltArm n s).notes = s.notes ∧ (haltArm n s).nodes = s.nodes ∧
    (haltArm n s).scans = s.scans ∧ (haltArm n s).acceptance = s.acceptance ∧
    (haltArm n s).relayQueue = s.relayQueue ∧ (haltArm n s).field = s.field ∧ (haltArm n s).reader = s.reader ∧
    (haltArm n s).up = s.up ∧ (haltArm n s).freeCount = s.freeCount ∧ (haltArm n s).pending = s.pending := by
  unfold haltArm
  (try dsimp only)
  (repeat' split) <;> (try dsimp only) <;> (repeat' split) <;> simp

/-- A cause joins a set (R57). -/
@[simp] theorem addCause_leaves (s : State) (n : ArmId) (c : Cause) :
    (addCause n c s).clock = s.clock ∧ (addCause n c s).mode = s.mode ∧ (addCause n c s).status = s.status ∧
    (addCause n c s).store = s.store ∧ (addCause n c s).banks = s.banks ∧ (addCause n c s).configs = s.configs ∧
    (addCause n c s).metering = s.metering ∧ (addCause n c s).dosing = s.dosing ∧
    (addCause n c s).permissive = s.permissive ∧ (addCause n c s).notes = s.notes ∧
    (addCause n c s).nodes = s.nodes ∧ (addCause n c s).scans = s.scans ∧
    (addCause n c s).acceptance = s.acceptance ∧ (addCause n c s).cmdQueue = s.cmdQueue ∧
    (addCause n c s).relayQueue = s.relayQueue ∧ (addCause n c s).field = s.field ∧
    (addCause n c s).reader = s.reader ∧ (addCause n c s).up = s.up ∧ (addCause n c s).freeCount = s.freeCount ∧
    (addCause n c s).pending = s.pending := by
  unfold addCause
  (try dsimp only)
  (repeat' split) <;> (try dsimp only) <;> (repeat' split) <;> simp

/-- A halt cause offered (R57). -/
@[simp] theorem offerCause_leaves (s : State) (n : ArmId) (c : Cause) :
    (offerCause n c s).clock = s.clock ∧ (offerCause n c s).mode = s.mode ∧
    (offerCause n c s).status = s.status ∧ (offerCause n c s).store = s.store ∧
    (offerCause n c s).banks = s.banks ∧ (offerCause n c s).configs = s.configs ∧
    (offerCause n c s).metering = s.metering ∧ (offerCause n c s).dosing = s.dosing ∧
    (offerCause n c s).permissive = s.permissive ∧ (offerCause n c s).notes = s.notes ∧
    (offerCause n c s).nodes = s.nodes ∧ (offerCause n c s).scans = s.scans ∧
    (offerCause n c s).acceptance = s.acceptance ∧ (offerCause n c s).relayQueue = s.relayQueue ∧
    (offerCause n c s).field = s.field ∧ (offerCause n c s).reader = s.reader ∧ (offerCause n c s).up = s.up ∧
    (offerCause n c s).freeCount = s.freeCount ∧ (offerCause n c s).pending = s.pending := by
  unfold offerCause
  (try dsimp only)
  (repeat' split) <;> (try dsimp only) <;> (repeat' split) <;> simp

/-- A cause leaves a set (R59). -/
@[simp] theorem dropCause_leaves (s : State) (n : ArmId) (c : Cause) :
    (dropCause n c s).clock = s.clock ∧ (dropCause n c s).mode = s.mode ∧ (dropCause n c s).status = s.status ∧
    (dropCause n c s).session = s.session ∧ (dropCause n c s).store = s.store ∧
    (dropCause n c s).banks = s.banks ∧ (dropCause n c s).configs = s.configs ∧
    (dropCause n c s).metering = s.metering ∧ (dropCause n c s).dosing = s.dosing ∧
    (dropCause n c s).permissive = s.permissive ∧ (dropCause n c s).notes = s.notes ∧
    (dropCause n c s).nodes = s.nodes ∧ (dropCause n c s).scans = s.scans ∧
    (dropCause n c s).acceptance = s.acceptance ∧ (dropCause n c s).cmdQueue = s.cmdQueue ∧
    (dropCause n c s).relayQueue = s.relayQueue ∧ (dropCause n c s).field = s.field ∧
    (dropCause n c s).reader = s.reader ∧ (dropCause n c s).up = s.up ∧
    (dropCause n c s).freeCount = s.freeCount ∧ (dropCause n c s).pending = s.pending := by
  unfold dropCause
  (try dsimp only)
  (repeat' split) <;> (try dsimp only) <;> (repeat' split) <;> simp

/-- A cause offered to the moving arms. -/
@[simp] theorem offerMoving_leaves (s : State) (c : Cause) :
    (offerMoving c s).clock = s.clock ∧ (offerMoving c s).mode = s.mode ∧ (offerMoving c s).status = s.status ∧
    (offerMoving c s).store = s.store ∧ (offerMoving c s).banks = s.banks ∧
    (offerMoving c s).configs = s.configs ∧ (offerMoving c s).metering = s.metering ∧
    (offerMoving c s).dosing = s.dosing ∧ (offerMoving c s).permissive = s.permissive ∧
    (offerMoving c s).notes = s.notes ∧ (offerMoving c s).nodes = s.nodes ∧ (offerMoving c s).scans = s.scans ∧
    (offerMoving c s).acceptance = s.acceptance ∧ (offerMoving c s).relayQueue = s.relayQueue ∧
    (offerMoving c s).field = s.field ∧ (offerMoving c s).reader = s.reader ∧ (offerMoving c s).up = s.up ∧
    (offerMoving c s).freeCount = s.freeCount ∧ (offerMoving c s).pending = s.pending := by
  unfold offerMoving
  refine ⟨?_, ?_, ?_, ?_, ?_, ?_, ?_, ?_, ?_, ?_, ?_, ?_, ?_, ?_, ?_, ?_, ?_, ?_, ?_⟩
  · exact forArms_keeps State.clock _ (fun n t => by (repeat' split) <;> simp) s
  · exact forArms_keeps State.mode _ (fun n t => by (repeat' split) <;> simp) s
  · exact forArms_keeps State.status _ (fun n t => by (repeat' split) <;> simp) s
  · exact forArms_keeps State.store _ (fun n t => by (repeat' split) <;> simp) s
  · exact forArms_keeps State.banks _ (fun n t => by (repeat' split) <;> simp) s
  · exact forArms_keeps State.configs _ (fun n t => by (repeat' split) <;> simp) s
  · exact forArms_keeps State.metering _ (fun n t => by (repeat' split) <;> simp) s
  · exact forArms_keeps State.dosing _ (fun n t => by (repeat' split) <;> simp) s
  · exact forArms_keeps State.permissive _ (fun n t => by (repeat' split) <;> simp) s
  · exact forArms_keeps State.notes _ (fun n t => by (repeat' split) <;> simp) s
  · exact forArms_keeps State.nodes _ (fun n t => by (repeat' split) <;> simp) s
  · exact forArms_keeps State.scans _ (fun n t => by (repeat' split) <;> simp) s
  · exact forArms_keeps State.acceptance _ (fun n t => by (repeat' split) <;> simp) s
  · exact forArms_keeps State.relayQueue _ (fun n t => by (repeat' split) <;> simp) s
  · exact forArms_keeps State.field _ (fun n t => by (repeat' split) <;> simp) s
  · exact forArms_keeps State.reader _ (fun n t => by (repeat' split) <;> simp) s
  · exact forArms_keeps State.up _ (fun n t => by (repeat' split) <;> simp) s
  · exact forArms_keeps State.freeCount _ (fun n t => by (repeat' split) <;> simp) s
  · exact forArms_keeps State.pending _ (fun n t => by (repeat' split) <;> simp) s

/-- A cause offered to the active arms. -/
@[simp] theorem offerActive_leaves (s : State) (c : Cause) :
    (offerActive c s).clock = s.clock ∧ (offerActive c s).mode = s.mode ∧ (offerActive c s).status = s.status ∧
    (offerActive c s).store = s.store ∧ (offerActive c s).banks = s.banks ∧
    (offerActive c s).configs = s.configs ∧ (offerActive c s).metering = s.metering ∧
    (offerActive c s).dosing = s.dosing ∧ (offerActive c s).permissive = s.permissive ∧
    (offerActive c s).notes = s.notes ∧ (offerActive c s).nodes = s.nodes ∧ (offerActive c s).scans = s.scans ∧
    (offerActive c s).acceptance = s.acceptance ∧ (offerActive c s).relayQueue = s.relayQueue ∧
    (offerActive c s).field = s.field ∧ (offerActive c s).reader = s.reader ∧ (offerActive c s).up = s.up ∧
    (offerActive c s).freeCount = s.freeCount ∧ (offerActive c s).pending = s.pending := by
  unfold offerActive
  refine ⟨?_, ?_, ?_, ?_, ?_, ?_, ?_, ?_, ?_, ?_, ?_, ?_, ?_, ?_, ?_, ?_, ?_, ?_, ?_⟩
  · exact forArms_keeps State.clock _ (fun n t => by (repeat' split) <;> simp) s
  · exact forArms_keeps State.mode _ (fun n t => by (repeat' split) <;> simp) s
  · exact forArms_keeps State.status _ (fun n t => by (repeat' split) <;> simp) s
  · exact forArms_keeps State.store _ (fun n t => by (repeat' split) <;> simp) s
  · exact forArms_keeps State.banks _ (fun n t => by (repeat' split) <;> simp) s
  · exact forArms_keeps State.configs _ (fun n t => by (repeat' split) <;> simp) s
  · exact forArms_keeps State.metering _ (fun n t => by (repeat' split) <;> simp) s
  · exact forArms_keeps State.dosing _ (fun n t => by (repeat' split) <;> simp) s
  · exact forArms_keeps State.permissive _ (fun n t => by (repeat' split) <;> simp) s
  · exact forArms_keeps State.notes _ (fun n t => by (repeat' split) <;> simp) s
  · exact forArms_keeps State.nodes _ (fun n t => by (repeat' split) <;> simp) s
  · exact forArms_keeps State.scans _ (fun n t => by (repeat' split) <;> simp) s
  · exact forArms_keeps State.acceptance _ (fun n t => by (repeat' split) <;> simp) s
  · exact forArms_keeps State.relayQueue _ (fun n t => by (repeat' split) <;> simp) s
  · exact forArms_keeps State.field _ (fun n t => by (repeat' split) <;> simp) s
  · exact forArms_keeps State.reader _ (fun n t => by (repeat' split) <;> simp) s
  · exact forArms_keeps State.up _ (fun n t => by (repeat' split) <;> simp) s
  · exact forArms_keeps State.freeCount _ (fun n t => by (repeat' split) <;> simp) s
  · exact forArms_keeps State.pending _ (fun n t => by (repeat' split) <;> simp) s

/-- BAY PERMIT decided touches the permissive record alone (R121). -/
@[simp] theorem decideBayPermit_leaves (s : State) :
    (decideBayPermit s).clock = s.clock ∧ (decideBayPermit s).mode = s.mode ∧
    (decideBayPermit s).status = s.status ∧ (decideBayPermit s).session = s.session ∧
    (decideBayPermit s).store = s.store ∧ (decideBayPermit s).banks = s.banks ∧
    (decideBayPermit s).configs = s.configs ∧ (decideBayPermit s).arms = s.arms ∧
    (decideBayPermit s).metering = s.metering ∧ (decideBayPermit s).dosing = s.dosing ∧
    (decideBayPermit s).notes = s.notes ∧ (decideBayPermit s).nodes = s.nodes ∧
    (decideBayPermit s).scans = s.scans ∧ (decideBayPermit s).acceptance = s.acceptance ∧
    (decideBayPermit s).cmdQueue = s.cmdQueue ∧ (decideBayPermit s).relayQueue = s.relayQueue ∧
    (decideBayPermit s).field = s.field ∧ (decideBayPermit s).reader = s.reader ∧
    (decideBayPermit s).up = s.up ∧ (decideBayPermit s).freeCount = s.freeCount ∧
    (decideBayPermit s).pending = s.pending := by
  unfold decideBayPermit
  (try dsimp only)
  (repeat' split) <;> (try dsimp only) <;> (repeat' split) <;> simp

/-- A response touches the outgoing list, or the counter of ignored bytes (R185). -/
@[simp] theorem pushResponse_leaves (s : State) (r : Outgoing) :
    (pushResponse r s).clock = s.clock ∧ (pushResponse r s).mode = s.mode ∧
    (pushResponse r s).session = s.session ∧ (pushResponse r s).store = s.store ∧
    (pushResponse r s).banks = s.banks ∧ (pushResponse r s).configs = s.configs ∧
    (pushResponse r s).arms = s.arms ∧ (pushResponse r s).metering = s.metering ∧
    (pushResponse r s).dosing = s.dosing ∧ (pushResponse r s).permissive = s.permissive ∧
    (pushResponse r s).notes = s.notes ∧ (pushResponse r s).nodes = s.nodes ∧
    (pushResponse r s).scans = s.scans ∧ (pushResponse r s).acceptance = s.acceptance ∧
    (pushResponse r s).cmdQueue = s.cmdQueue ∧ (pushResponse r s).relayQueue = s.relayQueue ∧
    (pushResponse r s).field = s.field ∧ (pushResponse r s).reader = s.reader ∧
    (pushResponse r s).freeCount = s.freeCount ∧ (pushResponse r s).pending = s.pending := by
  unfold pushResponse
  (try dsimp only)
  (repeat' split) <;> (try dsimp only) <;> (repeat' split) <;> simp

/-- A response formed (R185). -/
@[simp] theorem respond_leaves (s : State) (t : Tag) (a : ObjAddr) (r : Reply) :
    (respond t a r s).clock = s.clock ∧ (respond t a r s).mode = s.mode ∧
    (respond t a r s).session = s.session ∧ (respond t a r s).store = s.store ∧
    (respond t a r s).banks = s.banks ∧ (respond t a r s).configs = s.configs ∧
    (respond t a r s).arms = s.arms ∧ (respond t a r s).metering = s.metering ∧
    (respond t a r s).dosing = s.dosing ∧ (respond t a r s).permissive = s.permissive ∧
    (respond t a r s).notes = s.notes ∧ (respond t a r s).nodes = s.nodes ∧ (respond t a r s).scans = s.scans ∧
    (respond t a r s).acceptance = s.acceptance ∧ (respond t a r s).cmdQueue = s.cmdQueue ∧
    (respond t a r s).relayQueue = s.relayQueue ∧ (respond t a r s).field = s.field ∧
    (respond t a r s).reader = s.reader ∧ (respond t a r s).freeCount = s.freeCount ∧
    (respond t a r s).pending = s.pending := by
  unfold respond
  (try dsimp only)
  (repeat' split) <;> (try dsimp only) <;> (repeat' split) <;> simp

/-- A capture touches the banks alone (R152). -/
@[simp] theorem captureBank_leaves (s : State) (x : Bank) :
    (captureBank x s).clock = s.clock ∧ (captureBank x s).mode = s.mode ∧ (captureBank x s).status = s.status ∧
    (captureBank x s).session = s.session ∧ (captureBank x s).store = s.store ∧
    (captureBank x s).configs = s.configs ∧ (captureBank x s).arms = s.arms ∧
    (captureBank x s).metering = s.metering ∧ (captureBank x s).dosing = s.dosing ∧
    (captureBank x s).permissive = s.permissive ∧ (captureBank x s).notes = s.notes ∧
    (captureBank x s).nodes = s.nodes ∧ (captureBank x s).scans = s.scans ∧
    (captureBank x s).acceptance = s.acceptance ∧ (captureBank x s).cmdQueue = s.cmdQueue ∧
    (captureBank x s).relayQueue = s.relayQueue ∧ (captureBank x s).field = s.field ∧
    (captureBank x s).reader = s.reader ∧ (captureBank x s).up = s.up ∧
    (captureBank x s).freeCount = s.freeCount ∧ (captureBank x s).pending = s.pending := by
  unfold captureBank
  (try dsimp only)
  (repeat' split) <;> (try dsimp only) <;> (repeat' split) <;> simp

/-- A release of a capture touches the banks alone (R152). -/
@[simp] theorem uncaptureBank_leaves (s : State) (x : Option Bank) :
    (uncaptureBank x s).clock = s.clock ∧ (uncaptureBank x s).mode = s.mode ∧
    (uncaptureBank x s).status = s.status ∧ (uncaptureBank x s).session = s.session ∧
    (uncaptureBank x s).store = s.store ∧ (uncaptureBank x s).configs = s.configs ∧
    (uncaptureBank x s).arms = s.arms ∧ (uncaptureBank x s).metering = s.metering ∧
    (uncaptureBank x s).dosing = s.dosing ∧ (uncaptureBank x s).permissive = s.permissive ∧
    (uncaptureBank x s).notes = s.notes ∧ (uncaptureBank x s).nodes = s.nodes ∧
    (uncaptureBank x s).scans = s.scans ∧ (uncaptureBank x s).acceptance = s.acceptance ∧
    (uncaptureBank x s).cmdQueue = s.cmdQueue ∧ (uncaptureBank x s).relayQueue = s.relayQueue ∧
    (uncaptureBank x s).field = s.field ∧ (uncaptureBank x s).reader = s.reader ∧
    (uncaptureBank x s).up = s.up ∧ (uncaptureBank x s).freeCount = s.freeCount ∧
    (uncaptureBank x s).pending = s.pending := by
  unfold uncaptureBank
  (try dsimp only)
  (repeat' split) <;> (try dsimp only) <;> (repeat' split) <;> simp

/-- A reservation touches the note store alone (R128). -/
@[simp] theorem reserveSlot_leaves (s : State) :
    (reserveSlot s).clock = s.clock ∧ (reserveSlot s).mode = s.mode ∧ (reserveSlot s).status = s.status ∧
    (reserveSlot s).session = s.session ∧ (reserveSlot s).store = s.store ∧ (reserveSlot s).banks = s.banks ∧
    (reserveSlot s).configs = s.configs ∧ (reserveSlot s).arms = s.arms ∧
    (reserveSlot s).metering = s.metering ∧ (reserveSlot s).dosing = s.dosing ∧
    (reserveSlot s).permissive = s.permissive ∧ (reserveSlot s).nodes = s.nodes ∧
    (reserveSlot s).scans = s.scans ∧ (reserveSlot s).acceptance = s.acceptance ∧
    (reserveSlot s).cmdQueue = s.cmdQueue ∧ (reserveSlot s).relayQueue = s.relayQueue ∧
    (reserveSlot s).field = s.field ∧ (reserveSlot s).reader = s.reader ∧ (reserveSlot s).up = s.up ∧
    (reserveSlot s).freeCount = s.freeCount ∧ (reserveSlot s).pending = s.pending := by
  unfold reserveSlot
  (try dsimp only)
  (repeat' split) <;> (try dsimp only) <;> (repeat' split) <;> simp

/-- The start of a compile touches the note store alone (R129). -/
@[simp] theorem beginCompile_leaves (s : State) :
    (beginCompile s).clock = s.clock ∧ (beginCompile s).mode = s.mode ∧ (beginCompile s).status = s.status ∧
    (beginCompile s).session = s.session ∧ (beginCompile s).store = s.store ∧ (beginCompile s).banks = s.banks ∧
    (beginCompile s).configs = s.configs ∧ (beginCompile s).arms = s.arms ∧
    (beginCompile s).metering = s.metering ∧ (beginCompile s).dosing = s.dosing ∧
    (beginCompile s).permissive = s.permissive ∧ (beginCompile s).nodes = s.nodes ∧
    (beginCompile s).scans = s.scans ∧ (beginCompile s).acceptance = s.acceptance ∧
    (beginCompile s).cmdQueue = s.cmdQueue ∧ (beginCompile s).relayQueue = s.relayQueue ∧
    (beginCompile s).field = s.field ∧ (beginCompile s).reader = s.reader ∧ (beginCompile s).up = s.up ∧
    (beginCompile s).freeCount = s.freeCount ∧ (beginCompile s).pending = s.pending := by
  unfold beginCompile
  (try dsimp only)
  (repeat' split) <;> (try dsimp only) <;> (repeat' split) <;> simp

/-- A header read sent touches the note store alone (R140). -/
@[simp] theorem clearNewMark_leaves (s : State) (h : Option (Nat × Nat)) :
    (clearNewMark h s).clock = s.clock ∧ (clearNewMark h s).mode = s.mode ∧
    (clearNewMark h s).status = s.status ∧ (clearNewMark h s).session = s.session ∧
    (clearNewMark h s).store = s.store ∧ (clearNewMark h s).banks = s.banks ∧
    (clearNewMark h s).configs = s.configs ∧ (clearNewMark h s).arms = s.arms ∧
    (clearNewMark h s).metering = s.metering ∧ (clearNewMark h s).dosing = s.dosing ∧
    (clearNewMark h s).permissive = s.permissive ∧ (clearNewMark h s).nodes = s.nodes ∧
    (clearNewMark h s).scans = s.scans ∧ (clearNewMark h s).acceptance = s.acceptance ∧
    (clearNewMark h s).cmdQueue = s.cmdQueue ∧ (clearNewMark h s).relayQueue = s.relayQueue ∧
    (clearNewMark h s).field = s.field ∧ (clearNewMark h s).reader = s.reader ∧ (clearNewMark h s).up = s.up ∧
    (clearNewMark h s).freeCount = s.freeCount ∧ (clearNewMark h s).pending = s.pending := by
  unfold clearNewMark
  (try dsimp only)
  (repeat' split) <;> (try dsimp only) <;> (repeat' split) <;> simp

/-- Return to VACANT (R1, R163). -/
@[simp] theorem returnVacant_leaves (s : State) :
    (returnVacant s).clock = s.clock ∧ (returnVacant s).status = s.status ∧ (returnVacant s).store = s.store ∧
    (returnVacant s).banks = s.banks ∧ (returnVacant s).configs = s.configs ∧ (returnVacant s).arms = s.arms ∧
    (returnVacant s).metering = s.metering ∧ (returnVacant s).dosing = s.dosing ∧
    (returnVacant s).nodes = s.nodes ∧ (returnVacant s).scans = s.scans ∧
    (returnVacant s).acceptance = s.acceptance ∧ (returnVacant s).cmdQueue = s.cmdQueue ∧
    (returnVacant s).relayQueue = s.relayQueue ∧ (returnVacant s).field = s.field ∧
    (returnVacant s).reader = s.reader ∧ (returnVacant s).up = s.up ∧ (returnVacant s).freeCount = s.freeCount ∧
    (returnVacant s).pending = s.pending := by
  unfold returnVacant
  (try dsimp only)
  (repeat' split) <;> (try dsimp only) <;> (repeat' split) <;> simp

/-- The idle limit (R17). -/
@[simp] theorem markIdle_leaves (s : State) :
    (markIdle s).clock = s.clock ∧ (markIdle s).mode = s.mode ∧ (markIdle s).status = s.status ∧
    (markIdle s).store = s.store ∧ (markIdle s).banks = s.banks ∧ (markIdle s).configs = s.configs ∧
    (markIdle s).arms = s.arms ∧ (markIdle s).metering = s.metering ∧ (markIdle s).dosing = s.dosing ∧
    (markIdle s).permissive = s.permissive ∧ (markIdle s).notes = s.notes ∧ (markIdle s).nodes = s.nodes ∧
    (markIdle s).scans = s.scans ∧ (markIdle s).acceptance = s.acceptance ∧ (markIdle s).cmdQueue = s.cmdQueue ∧
    (markIdle s).relayQueue = s.relayQueue ∧ (markIdle s).field = s.field ∧ (markIdle s).reader = s.reader ∧
    (markIdle s).up = s.up ∧ (markIdle s).freeCount = s.freeCount ∧ (markIdle s).pending = s.pending := by
  unfold markIdle
  (try dsimp only)
  (repeat' split) <;> (try dsimp only) <;> (repeat' split) <;> simp

/-- Entry to ENDING (R21). -/
@[simp] theorem enterEnding_leaves (s : State) :
    (enterEnding s).clock = s.clock ∧ (enterEnding s).mode = s.mode ∧ (enterEnding s).status = s.status ∧
    (enterEnding s).store = s.store ∧ (enterEnding s).banks = s.banks ∧ (enterEnding s).configs = s.configs ∧
    (enterEnding s).arms = s.arms ∧ (enterEnding s).metering = s.metering ∧ (enterEnding s).dosing = s.dosing ∧
    (enterEnding s).permissive = s.permissive ∧ (enterEnding s).nodes = s.nodes ∧
    (enterEnding s).scans = s.scans ∧ (enterEnding s).acceptance = s.acceptance ∧
    (enterEnding s).cmdQueue = s.cmdQueue ∧ (enterEnding s).relayQueue = s.relayQueue ∧
    (enterEnding s).field = s.field ∧ (enterEnding s).reader = s.reader ∧ (enterEnding s).up = s.up ∧
    (enterEnding s).freeCount = s.freeCount ∧ (enterEnding s).pending = s.pending := by
  unfold enterEnding
  (try dsimp only)
  (repeat' split) <;> (try dsimp only) <;> (repeat' split) <;> simp

/-- The automatic end rule (R18). -/
@[simp] theorem examine_leaves (s : State) :
    (examine s).clock = s.clock ∧ (examine s).mode = s.mode ∧ (examine s).status = s.status ∧
    (examine s).store = s.store ∧ (examine s).banks = s.banks ∧ (examine s).configs = s.configs ∧
    (examine s).arms = s.arms ∧ (examine s).metering = s.metering ∧ (examine s).dosing = s.dosing ∧
    (examine s).permissive = s.permissive ∧ (examine s).nodes = s.nodes ∧ (examine s).scans = s.scans ∧
    (examine s).acceptance = s.acceptance ∧ (examine s).relayQueue = s.relayQueue ∧
    (examine s).field = s.field ∧ (examine s).reader = s.reader ∧ (examine s).up = s.up ∧
    (examine s).freeCount = s.freeCount ∧ (examine s).pending = s.pending := by
  unfold examine
  (try dsimp only)
  (repeat' split) <;> (try dsimp only) <;> (repeat' split) <;> simp

/-- PENDING compartments become NOT LOADED. -/
@[simp] theorem pendingNotLoaded_leaves (s : State) :
    (pendingNotLoaded s).clock = s.clock ∧ (pendingNotLoaded s).mode = s.mode ∧
    (pendingNotLoaded s).status = s.status ∧ (pendingNotLoaded s).store = s.store ∧
    (pendingNotLoaded s).banks = s.banks ∧ (pendingNotLoaded s).configs = s.configs ∧
    (pendingNotLoaded s).arms = s.arms ∧ (pendingNotLoaded s).metering = s.metering ∧
    (pendingNotLoaded s).dosing = s.dosing ∧ (pendingNotLoaded s).permissive = s.permissive ∧
    (pendingNotLoaded s).notes = s.notes ∧ (pendingNotLoaded s).nodes = s.nodes ∧
    (pendingNotLoaded s).scans = s.scans ∧ (pendingNotLoaded s).acceptance = s.acceptance ∧
    (pendingNotLoaded s).cmdQueue = s.cmdQueue ∧ (pendingNotLoaded s).relayQueue = s.relayQueue ∧
    (pendingNotLoaded s).field = s.field ∧ (pendingNotLoaded s).reader = s.reader ∧
    (pendingNotLoaded s).up = s.up ∧ (pendingNotLoaded s).freeCount = s.freeCount ∧
    (pendingNotLoaded s).pending = s.pending := by
  unfold pendingNotLoaded
  (try dsimp only)
  (repeat' split) <;> (try dsimp only) <;> (repeat' split) <;> simp

end Sys2Proof.Machine
end

