-- ==== Sys2Proof/Laws/Arms.lean ====
section
/-! SUPPORT. What the arm controllers, the dosing engine and the metering engine leave: each lemma names every part of the state that its
operation does not touch. -/

set_option linter.unusedTactic false
set_option linter.unnecessarySeqFocus false

namespace Sys2Proof.Machine

/-- The owed additive (R96). -/
@[simp] theorem recomputeOwed_leaves (s : State) (n : ArmId) (k : Slot) :
    (recomputeOwed n k s).clock = s.clock ∧ (recomputeOwed n k s).mode = s.mode ∧
    (recomputeOwed n k s).status = s.status ∧ (recomputeOwed n k s).store = s.store ∧
    (recomputeOwed n k s).banks = s.banks ∧ (recomputeOwed n k s).configs = s.configs ∧
    (recomputeOwed n k s).arms = s.arms ∧ (recomputeOwed n k s).metering = s.metering ∧
    (recomputeOwed n k s).dosing = s.dosing ∧ (recomputeOwed n k s).permissive = s.permissive ∧
    (recomputeOwed n k s).notes = s.notes ∧ (recomputeOwed n k s).nodes = s.nodes ∧
    (recomputeOwed n k s).scans = s.scans ∧ (recomputeOwed n k s).acceptance = s.acceptance ∧
    (recomputeOwed n k s).cmdQueue = s.cmdQueue ∧ (recomputeOwed n k s).relayQueue = s.relayQueue ∧
    (recomputeOwed n k s).field = s.field ∧ (recomputeOwed n k s).reader = s.reader ∧
    (recomputeOwed n k s).up = s.up ∧ (recomputeOwed n k s).freeCount = s.freeCount ∧
    (recomputeOwed n k s).pending = s.pending := by
  unfold recomputeOwed
  (try dsimp only)
  (repeat' split) <;> (try dsimp only) <;> (repeat' split) <;> simp

/-- A shot commanded (R98). -/
@[simp] theorem commandShot_leaves (s : State) (n : ArmId) (k : Slot) (t : Tag) (z : Nat) :
    (commandShot n k t z s).clock = s.clock ∧ (commandShot n k t z s).mode = s.mode ∧
    (commandShot n k t z s).status = s.status ∧ (commandShot n k t z s).store = s.store ∧
    (commandShot n k t z s).banks = s.banks ∧ (commandShot n k t z s).configs = s.configs ∧
    (commandShot n k t z s).arms = s.arms ∧ (commandShot n k t z s).metering = s.metering ∧
    (commandShot n k t z s).permissive = s.permissive ∧ (commandShot n k t z s).notes = s.notes ∧
    (commandShot n k t z s).nodes = s.nodes ∧ (commandShot n k t z s).scans = s.scans ∧
    (commandShot n k t z s).acceptance = s.acceptance ∧ (commandShot n k t z s).relayQueue = s.relayQueue ∧
    (commandShot n k t z s).field = s.field ∧ (commandShot n k t z s).reader = s.reader ∧
    (commandShot n k t z s).up = s.up ∧ (commandShot n k t z s).freeCount = s.freeCount ∧
    (commandShot n k t z s).pending = s.pending := by
  unfold commandShot
  (try dsimp only)
  (repeat' split) <;> (try dsimp only) <;> (repeat' split) <;> simp

/-- The shot test (R97). -/
@[simp] theorem paceSlot_leaves (s : State) (n : ArmId) (k : Slot) :
    (paceSlot n k s).clock = s.clock ∧ (paceSlot n k s).mode = s.mode ∧ (paceSlot n k s).status = s.status ∧
    (paceSlot n k s).store = s.store ∧ (paceSlot n k s).banks = s.banks ∧ (paceSlot n k s).configs = s.configs ∧
    (paceSlot n k s).arms = s.arms ∧ (paceSlot n k s).metering = s.metering ∧
    (paceSlot n k s).permissive = s.permissive ∧ (paceSlot n k s).notes = s.notes ∧
    (paceSlot n k s).nodes = s.nodes ∧ (paceSlot n k s).scans = s.scans ∧
    (paceSlot n k s).acceptance = s.acceptance ∧ (paceSlot n k s).relayQueue = s.relayQueue ∧
    (paceSlot n k s).field = s.field ∧ (paceSlot n k s).reader = s.reader ∧ (paceSlot n k s).up = s.up ∧
    (paceSlot n k s).freeCount = s.freeCount ∧ (paceSlot n k s).pending = s.pending := by
  unfold paceSlot
  (try dsimp only)
  (repeat' split) <;> (try dsimp only) <;> (repeat' split) <;> simp

/-- Dosing at an increment (R96, R97). -/
@[simp] theorem doseIncrement_leaves (s : State) (n : ArmId) :
    (doseIncrement n s).clock = s.clock ∧ (doseIncrement n s).mode = s.mode ∧
    (doseIncrement n s).status = s.status ∧ (doseIncrement n s).store = s.store ∧
    (doseIncrement n s).banks = s.banks ∧ (doseIncrement n s).configs = s.configs ∧
    (doseIncrement n s).arms = s.arms ∧ (doseIncrement n s).metering = s.metering ∧
    (doseIncrement n s).permissive = s.permissive ∧ (doseIncrement n s).notes = s.notes ∧
    (doseIncrement n s).nodes = s.nodes ∧ (doseIncrement n s).scans = s.scans ∧
    (doseIncrement n s).acceptance = s.acceptance ∧ (doseIncrement n s).relayQueue = s.relayQueue ∧
    (doseIncrement n s).field = s.field ∧ (doseIncrement n s).reader = s.reader ∧
    (doseIncrement n s).up = s.up ∧ (doseIncrement n s).freeCount = s.freeCount ∧
    (doseIncrement n s).pending = s.pending := by
  unfold doseIncrement
  (try dsimp only)
  (repeat' split) <;> (try dsimp only) <;> (repeat' split) <;> simp

/-- A shot written off (R99). -/
@[simp] theorem writeOffShot_leaves (s : State) (n : ArmId) (k : Slot) :
    (writeOffShot n k s).clock = s.clock ∧ (writeOffShot n k s).mode = s.mode ∧
    (writeOffShot n k s).status = s.status ∧ (writeOffShot n k s).store = s.store ∧
    (writeOffShot n k s).banks = s.banks ∧ (writeOffShot n k s).configs = s.configs ∧
    (writeOffShot n k s).arms = s.arms ∧ (writeOffShot n k s).metering = s.metering ∧
    (writeOffShot n k s).permissive = s.permissive ∧ (writeOffShot n k s).notes = s.notes ∧
    (writeOffShot n k s).nodes = s.nodes ∧ (writeOffShot n k s).scans = s.scans ∧
    (writeOffShot n k s).acceptance = s.acceptance ∧ (writeOffShot n k s).cmdQueue = s.cmdQueue ∧
    (writeOffShot n k s).relayQueue = s.relayQueue ∧ (writeOffShot n k s).field = s.field ∧
    (writeOffShot n k s).reader = s.reader ∧ (writeOffShot n k s).up = s.up ∧
    (writeOffShot n k s).freeCount = s.freeCount ∧ (writeOffShot n k s).pending = s.pending := by
  unfold writeOffShot
  (try dsimp only)
  (repeat' split) <;> (try dsimp only) <;> (repeat' split) <;> simp

/-- The outcome of a shot DRIVE (R99). -/
@[simp] theorem shotOutcome_leaves (s : State) (n : ArmId) (k : Slot) (i : Nat) (r : Bool) :
    (shotOutcome n k i r s).clock = s.clock ∧ (shotOutcome n k i r s).mode = s.mode ∧
    (shotOutcome n k i r s).status = s.status ∧ (shotOutcome n k i r s).store = s.store ∧
    (shotOutcome n k i r s).banks = s.banks ∧ (shotOutcome n k i r s).configs = s.configs ∧
    (shotOutcome n k i r s).arms = s.arms ∧ (shotOutcome n k i r s).metering = s.metering ∧
    (shotOutcome n k i r s).permissive = s.permissive ∧ (shotOutcome n k i r s).notes = s.notes ∧
    (shotOutcome n k i r s).nodes = s.nodes ∧ (shotOutcome n k i r s).scans = s.scans ∧
    (shotOutcome n k i r s).acceptance = s.acceptance ∧ (shotOutcome n k i r s).cmdQueue = s.cmdQueue ∧
    (shotOutcome n k i r s).relayQueue = s.relayQueue ∧ (shotOutcome n k i r s).field = s.field ∧
    (shotOutcome n k i r s).reader = s.reader ∧ (shotOutcome n k i r s).up = s.up ∧
    (shotOutcome n k i r s).freeCount = s.freeCount ∧ (shotOutcome n k i r s).pending = s.pending := by
  unfold shotOutcome
  (try dsimp only)
  (repeat' split) <;> (try dsimp only) <;> (repeat' split) <;> simp

/-- Dispensed additive credited (R101). -/
@[simp] theorem creditDispensed_leaves (s : State) (n : ArmId) (k : Slot) (d : Nat) :
    (creditDispensed n k d s).clock = s.clock ∧ (creditDispensed n k d s).mode = s.mode ∧
    (creditDispensed n k d s).status = s.status ∧ (creditDispensed n k d s).store = s.store ∧
    (creditDispensed n k d s).banks = s.banks ∧ (creditDispensed n k d s).configs = s.configs ∧
    (creditDispensed n k d s).arms = s.arms ∧ (creditDispensed n k d s).metering = s.metering ∧
    (creditDispensed n k d s).dosing = s.dosing ∧ (creditDispensed n k d s).permissive = s.permissive ∧
    (creditDispensed n k d s).notes = s.notes ∧ (creditDispensed n k d s).nodes = s.nodes ∧
    (creditDispensed n k d s).scans = s.scans ∧ (creditDispensed n k d s).acceptance = s.acceptance ∧
    (creditDispensed n k d s).cmdQueue = s.cmdQueue ∧ (creditDispensed n k d s).relayQueue = s.relayQueue ∧
    (creditDispensed n k d s).field = s.field ∧ (creditDispensed n k d s).reader = s.reader ∧
    (creditDispensed n k d s).up = s.up ∧ (creditDispensed n k d s).freeCount = s.freeCount ∧
    (creditDispensed n k d s).pending = s.pending := by
  unfold creditDispensed
  (try dsimp only)
  (repeat' split) <;> (try dsimp only) <;> (repeat' split) <;> simp

/-- The running check (R104). -/
@[simp] theorem runningCheck_leaves (s : State) (n : ArmId) (k : Slot) :
    (runningCheck n k s).clock = s.clock ∧ (runningCheck n k s).mode = s.mode ∧
    (runningCheck n k s).store = s.store ∧ (runningCheck n k s).banks = s.banks ∧
    (runningCheck n k s).configs = s.configs ∧ (runningCheck n k s).metering = s.metering ∧
    (runningCheck n k s).dosing = s.dosing ∧ (runningCheck n k s).permissive = s.permissive ∧
    (runningCheck n k s).notes = s.notes ∧ (runningCheck n k s).nodes = s.nodes ∧
    (runningCheck n k s).scans = s.scans ∧ (runningCheck n k s).acceptance = s.acceptance ∧
    (runningCheck n k s).relayQueue = s.relayQueue ∧ (runningCheck n k s).field = s.field ∧
    (runningCheck n k s).reader = s.reader ∧ (runningCheck n k s).up = s.up ∧
    (runningCheck n k s).freeCount = s.freeCount ∧ (runningCheck n k s).pending = s.pending := by
  unfold runningCheck
  (try dsimp only)
  (repeat' split) <;> (try dsimp only) <;> (repeat' split) <;> simp

/-- A shot completed (R102). -/
@[simp] theorem completeShot_leaves (s : State) (n : ArmId) (k : Slot) (l : Nat) :
    (completeShot n k l s).clock = s.clock ∧ (completeShot n k l s).mode = s.mode ∧
    (completeShot n k l s).store = s.store ∧ (completeShot n k l s).banks = s.banks ∧
    (completeShot n k l s).configs = s.configs ∧ (completeShot n k l s).metering = s.metering ∧
    (completeShot n k l s).permissive = s.permissive ∧ (completeShot n k l s).notes = s.notes ∧
    (completeShot n k l s).nodes = s.nodes ∧ (completeShot n k l s).scans = s.scans ∧
    (completeShot n k l s).acceptance = s.acceptance ∧ (completeShot n k l s).relayQueue = s.relayQueue ∧
    (completeShot n k l s).field = s.field ∧ (completeShot n k l s).reader = s.reader ∧
    (completeShot n k l s).up = s.up ∧ (completeShot n k l s).freeCount = s.freeCount ∧
    (completeShot n k l s).pending = s.pending := by
  unfold completeShot
  (try dsimp only)
  (repeat' split) <;> (try dsimp only) <;> (repeat' split) <;> simp

/-- An injector report (R100). -/
@[simp] theorem injectorReport_leaves (s : State) (n : ArmId) (k : Slot) (t : Tag) (d l : Nat) :
    (injectorReport n k t d l s).clock = s.clock ∧ (injectorReport n k t d l s).mode = s.mode ∧
    (injectorReport n k t d l s).store = s.store ∧ (injectorReport n k t d l s).banks = s.banks ∧
    (injectorReport n k t d l s).configs = s.configs ∧ (injectorReport n k t d l s).metering = s.metering ∧
    (injectorReport n k t d l s).permissive = s.permissive ∧ (injectorReport n k t d l s).notes = s.notes ∧
    (injectorReport n k t d l s).nodes = s.nodes ∧ (injectorReport n k t d l s).scans = s.scans ∧
    (injectorReport n k t d l s).acceptance = s.acceptance ∧
    (injectorReport n k t d l s).relayQueue = s.relayQueue ∧ (injectorReport n k t d l s).field = s.field ∧
    (injectorReport n k t d l s).reader = s.reader ∧ (injectorReport n k t d l s).up = s.up ∧
    (injectorReport n k t d l s).freeCount = s.freeCount ∧
    (injectorReport n k t d l s).pending = s.pending := by
  unfold injectorReport
  (try dsimp only)
  (repeat' split) <;> (try dsimp only) <;> (repeat' split) <;> simp

/-- A shot overdue (R103). -/
@[simp] theorem shotExpiry_leaves (s : State) (n : ArmId) (k : Slot) :
    (shotExpiry n k s).clock = s.clock ∧ (shotExpiry n k s).mode = s.mode ∧ (shotExpiry n k s).store = s.store ∧
    (shotExpiry n k s).banks = s.banks ∧ (shotExpiry n k s).configs = s.configs ∧
    (shotExpiry n k s).metering = s.metering ∧ (shotExpiry n k s).permissive = s.permissive ∧
    (shotExpiry n k s).notes = s.notes ∧ (shotExpiry n k s).nodes = s.nodes ∧
    (shotExpiry n k s).scans = s.scans ∧ (shotExpiry n k s).acceptance = s.acceptance ∧
    (shotExpiry n k s).relayQueue = s.relayQueue ∧ (shotExpiry n k s).field = s.field ∧
    (shotExpiry n k s).reader = s.reader ∧ (shotExpiry n k s).up = s.up ∧
    (shotExpiry n k s).freeCount = s.freeCount ∧ (shotExpiry n k s).pending = s.pending := by
  unfold shotExpiry
  (try dsimp only)
  (repeat' split) <;> (try dsimp only) <;> (repeat' split) <;> simp

/-- An injector node LOST (R105). -/
@[simp] theorem injectorLost_leaves (s : State) (n : ArmId) (k : Slot) :
    (injectorLost n k s).clock = s.clock ∧ (injectorLost n k s).mode = s.mode ∧
    (injectorLost n k s).status = s.status ∧ (injectorLost n k s).store = s.store ∧
    (injectorLost n k s).banks = s.banks ∧ (injectorLost n k s).configs = s.configs ∧
    (injectorLost n k s).metering = s.metering ∧ (injectorLost n k s).permissive = s.permissive ∧
    (injectorLost n k s).notes = s.notes ∧ (injectorLost n k s).nodes = s.nodes ∧
    (injectorLost n k s).scans = s.scans ∧ (injectorLost n k s).acceptance = s.acceptance ∧
    (injectorLost n k s).relayQueue = s.relayQueue ∧ (injectorLost n k s).field = s.field ∧
    (injectorLost n k s).reader = s.reader ∧ (injectorLost n k s).up = s.up ∧
    (injectorLost n k s).freeCount = s.freeCount ∧ (injectorLost n k s).pending = s.pending := by
  unfold injectorLost
  (try dsimp only)
  (repeat' split) <;> (try dsimp only) <;> (repeat' split) <;> simp

/-- An injector node recovered (R59). -/
@[simp] theorem injectorRecovered_leaves (s : State) (n : ArmId) :
    (injectorRecovered n s).clock = s.clock ∧ (injectorRecovered n s).mode = s.mode ∧
    (injectorRecovered n s).status = s.status ∧ (injectorRecovered n s).session = s.session ∧
    (injectorRecovered n s).store = s.store ∧ (injectorRecovered n s).banks = s.banks ∧
    (injectorRecovered n s).configs = s.configs ∧ (injectorRecovered n s).metering = s.metering ∧
    (injectorRecovered n s).dosing = s.dosing ∧ (injectorRecovered n s).permissive = s.permissive ∧
    (injectorRecovered n s).notes = s.notes ∧ (injectorRecovered n s).nodes = s.nodes ∧
    (injectorRecovered n s).scans = s.scans ∧ (injectorRecovered n s).acceptance = s.acceptance ∧
    (injectorRecovered n s).cmdQueue = s.cmdQueue ∧ (injectorRecovered n s).relayQueue = s.relayQueue ∧
    (injectorRecovered n s).field = s.field ∧ (injectorRecovered n s).reader = s.reader ∧
    (injectorRecovered n s).up = s.up ∧ (injectorRecovered n s).freeCount = s.freeCount ∧
    (injectorRecovered n s).pending = s.pending := by
  unfold injectorRecovered
  (try dsimp only)
  (repeat' split) <;> (try dsimp only) <;> (repeat' split) <;> simp

/-- The end check of one slot (R108). -/
@[simp] theorem endCheckSlot_leaves (s : State) (n : ArmId) (k : Slot) :
    (endCheckSlot n k s).clock = s.clock ∧ (endCheckSlot n k s).mode = s.mode ∧
    (endCheckSlot n k s).store = s.store ∧ (endCheckSlot n k s).banks = s.banks ∧
    (endCheckSlot n k s).configs = s.configs ∧ (endCheckSlot n k s).arms = s.arms ∧
    (endCheckSlot n k s).metering = s.metering ∧ (endCheckSlot n k s).dosing = s.dosing ∧
    (endCheckSlot n k s).permissive = s.permissive ∧ (endCheckSlot n k s).notes = s.notes ∧
    (endCheckSlot n k s).nodes = s.nodes ∧ (endCheckSlot n k s).scans = s.scans ∧
    (endCheckSlot n k s).acceptance = s.acceptance ∧ (endCheckSlot n k s).cmdQueue = s.cmdQueue ∧
    (endCheckSlot n k s).relayQueue = s.relayQueue ∧ (endCheckSlot n k s).field = s.field ∧
    (endCheckSlot n k s).reader = s.reader ∧ (endCheckSlot n k s).up = s.up ∧
    (endCheckSlot n k s).freeCount = s.freeCount ∧ (endCheckSlot n k s).pending = s.pending := by
  unfold endCheckSlot
  (try dsimp only)
  (repeat' split) <;> (try dsimp only) <;> (repeat' split) <;> simp

/-- A shot abandoned (R108). -/
@[simp] theorem abandonShot_leaves (s : State) (n : ArmId) (k : Slot) :
    (abandonShot n k s).clock = s.clock ∧ (abandonShot n k s).mode = s.mode ∧
    (abandonShot n k s).status = s.status ∧ (abandonShot n k s).session = s.session ∧
    (abandonShot n k s).store = s.store ∧ (abandonShot n k s).banks = s.banks ∧
    (abandonShot n k s).configs = s.configs ∧ (abandonShot n k s).arms = s.arms ∧
    (abandonShot n k s).metering = s.metering ∧ (abandonShot n k s).permissive = s.permissive ∧
    (abandonShot n k s).notes = s.notes ∧ (abandonShot n k s).nodes = s.nodes ∧
    (abandonShot n k s).scans = s.scans ∧ (abandonShot n k s).acceptance = s.acceptance ∧
    (abandonShot n k s).cmdQueue = s.cmdQueue ∧ (abandonShot n k s).relayQueue = s.relayQueue ∧
    (abandonShot n k s).field = s.field ∧ (abandonShot n k s).reader = s.reader ∧
    (abandonShot n k s).up = s.up ∧ (abandonShot n k s).freeCount = s.freeCount ∧
    (abandonShot n k s).pending = s.pending := by
  unfold abandonShot
  (try dsimp only)
  (repeat' split) <;> (try dsimp only) <;> (repeat' split) <;> simp

/-- The end check (R108). -/
@[simp] theorem endCheck_leaves (s : State) (n : ArmId) :
    (endCheck n s).clock = s.clock ∧ (endCheck n s).mode = s.mode ∧ (endCheck n s).store = s.store ∧
    (endCheck n s).banks = s.banks ∧ (endCheck n s).configs = s.configs ∧ (endCheck n s).arms = s.arms ∧
    (endCheck n s).metering = s.metering ∧ (endCheck n s).permissive = s.permissive ∧
    (endCheck n s).notes = s.notes ∧ (endCheck n s).nodes = s.nodes ∧ (endCheck n s).scans = s.scans ∧
    (endCheck n s).acceptance = s.acceptance ∧ (endCheck n s).cmdQueue = s.cmdQueue ∧
    (endCheck n s).relayQueue = s.relayQueue ∧ (endCheck n s).field = s.field ∧
    (endCheck n s).reader = s.reader ∧ (endCheck n s).up = s.up ∧ (endCheck n s).freeCount = s.freeCount ∧
    (endCheck n s).pending = s.pending := by
  unfold endCheck
  (try dsimp only)
  (repeat' split) <;> (try dsimp only) <;> (repeat' split) <;> simp

/-- An arm taken (R12). -/
@[simp] theorem takeArm_leaves (s : State) (n : ArmId) (c : Comp) :
    (takeArm n c s).clock = s.clock ∧ (takeArm n c s).mode = s.mode ∧ (takeArm n c s).status = s.status ∧
    (takeArm n c s).store = s.store ∧ (takeArm n c s).configs = s.configs ∧
    (takeArm n c s).metering = s.metering ∧ (takeArm n c s).dosing = s.dosing ∧
    (takeArm n c s).permissive = s.permissive ∧ (takeArm n c s).notes = s.notes ∧
    (takeArm n c s).nodes = s.nodes ∧ (takeArm n c s).scans = s.scans ∧
    (takeArm n c s).acceptance = s.acceptance ∧ (takeArm n c s).cmdQueue = s.cmdQueue ∧
    (takeArm n c s).relayQueue = s.relayQueue ∧ (takeArm n c s).field = s.field ∧
    (takeArm n c s).reader = s.reader ∧ (takeArm n c s).up = s.up ∧ (takeArm n c s).freeCount = s.freeCount ∧
    (takeArm n c s).pending = s.pending := by
  unfold takeArm
  (try dsimp only)
  (repeat' split) <;> (try dsimp only) <;> (repeat' split) <;> simp

/-- A compartment returned to PENDING. -/
@[simp] theorem returnToPending_leaves (s : State) (n : ArmId) :
    (returnToPending n s).clock = s.clock ∧ (returnToPending n s).mode = s.mode ∧
    (returnToPending n s).status = s.status ∧ (returnToPending n s).store = s.store ∧
    (returnToPending n s).configs = s.configs ∧ (returnToPending n s).arms = s.arms ∧
    (returnToPending n s).metering = s.metering ∧ (returnToPending n s).dosing = s.dosing ∧
    (returnToPending n s).permissive = s.permissive ∧ (returnToPending n s).notes = s.notes ∧
    (returnToPending n s).nodes = s.nodes ∧ (returnToPending n s).scans = s.scans ∧
    (returnToPending n s).acceptance = s.acceptance ∧ (returnToPending n s).cmdQueue = s.cmdQueue ∧
    (returnToPending n s).relayQueue = s.relayQueue ∧ (returnToPending n s).field = s.field ∧
    (returnToPending n s).reader = s.reader ∧ (returnToPending n s).up = s.up ∧
    (returnToPending n s).freeCount = s.freeCount ∧ (returnToPending n s).pending = s.pending := by
  unfold returnToPending
  (try dsimp only)
  (repeat' split) <;> (try dsimp only) <;> (repeat' split) <;> simp

/-- An ARMED arm gives its compartment back (R49). -/
@[simp] theorem disarm_leaves (s : State) (n : ArmId) (b : Option BlockCause) :
    (disarm n b s).clock = s.clock ∧ (disarm n b s).mode = s.mode ∧ (disarm n b s).status = s.status ∧
    (disarm n b s).store = s.store ∧ (disarm n b s).configs = s.configs ∧ (disarm n b s).metering = s.metering ∧
    (disarm n b s).dosing = s.dosing ∧ (disarm n b s).permissive = s.permissive ∧
    (disarm n b s).notes = s.notes ∧ (disarm n b s).nodes = s.nodes ∧ (disarm n b s).scans = s.scans ∧
    (disarm n b s).acceptance = s.acceptance ∧ (disarm n b s).cmdQueue = s.cmdQueue ∧
    (disarm n b s).relayQueue = s.relayQueue ∧ (disarm n b s).field = s.field ∧
    (disarm n b s).reader = s.reader ∧ (disarm n b s).up = s.up ∧ (disarm n b s).freeCount = s.freeCount ∧
    (disarm n b s).pending = s.pending := by
  unfold disarm
  (try dsimp only)
  (repeat' split) <;> (try dsimp only) <;> (repeat' split) <;> simp

/-- Every ARMED arm returns to IDLE. -/
@[simp] theorem disarmAll_leaves (s : State) :
    (disarmAll s).clock = s.clock ∧ (disarmAll s).mode = s.mode ∧ (disarmAll s).status = s.status ∧
    (disarmAll s).store = s.store ∧ (disarmAll s).configs = s.configs ∧ (disarmAll s).metering = s.metering ∧
    (disarmAll s).dosing = s.dosing ∧ (disarmAll s).permissive = s.permissive ∧ (disarmAll s).notes = s.notes ∧
    (disarmAll s).nodes = s.nodes ∧ (disarmAll s).scans = s.scans ∧ (disarmAll s).acceptance = s.acceptance ∧
    (disarmAll s).cmdQueue = s.cmdQueue ∧ (disarmAll s).relayQueue = s.relayQueue ∧
    (disarmAll s).field = s.field ∧ (disarmAll s).reader = s.reader ∧ (disarmAll s).up = s.up ∧
    (disarmAll s).freeCount = s.freeCount ∧ (disarmAll s).pending = s.pending := by
  unfold disarmAll
  refine ⟨?_, ?_, ?_, ?_, ?_, ?_, ?_, ?_, ?_, ?_, ?_, ?_, ?_, ?_, ?_, ?_, ?_, ?_, ?_⟩
  · exact forArms_keeps State.clock _ (fun n t => by (repeat' split) <;> simp) s
  · exact forArms_keeps State.mode _ (fun n t => by (repeat' split) <;> simp) s
  · exact forArms_keeps State.status _ (fun n t => by (repeat' split) <;> simp) s
  · exact forArms_keeps State.store _ (fun n t => by (repeat' split) <;> simp) s
  · exact forArms_keeps State.configs _ (fun n t => by (repeat' split) <;> simp) s
  · exact forArms_keeps State.metering _ (fun n t => by (repeat' split) <;> simp) s
  · exact forArms_keeps State.dosing _ (fun n t => by (repeat' split) <;> simp) s
  · exact forArms_keeps State.permissive _ (fun n t => by (repeat' split) <;> simp) s
  · exact forArms_keeps State.notes _ (fun n t => by (repeat' split) <;> simp) s
  · exact forArms_keeps State.nodes _ (fun n t => by (repeat' split) <;> simp) s
  · exact forArms_keeps State.scans _ (fun n t => by (repeat' split) <;> simp) s
  · exact forArms_keeps State.acceptance _ (fun n t => by (repeat' split) <;> simp) s
  · exact forArms_keeps State.cmdQueue _ (fun n t => by (repeat' split) <;> simp) s
  · exact forArms_keeps State.relayQueue _ (fun n t => by (repeat' split) <;> simp) s
  · exact forArms_keeps State.field _ (fun n t => by (repeat' split) <;> simp) s
  · exact forArms_keeps State.reader _ (fun n t => by (repeat' split) <;> simp) s
  · exact forArms_keeps State.up _ (fun n t => by (repeat' split) <;> simp) s
  · exact forArms_keeps State.freeCount _ (fun n t => by (repeat' split) <;> simp) s
  · exact forArms_keeps State.pending _ (fun n t => by (repeat' split) <;> simp) s

/-- The ARMED limit (R13). -/
@[simp] theorem armedExpiry_leaves (s : State) (n : ArmId) :
    (armedExpiry n s).clock = s.clock ∧ (armedExpiry n s).mode = s.mode ∧ (armedExpiry n s).status = s.status ∧
    (armedExpiry n s).store = s.store ∧ (armedExpiry n s).configs = s.configs ∧
    (armedExpiry n s).metering = s.metering ∧ (armedExpiry n s).dosing = s.dosing ∧
    (armedExpiry n s).permissive = s.permissive ∧ (armedExpiry n s).notes = s.notes ∧
    (armedExpiry n s).nodes = s.nodes ∧ (armedExpiry n s).scans = s.scans ∧
    (armedExpiry n s).acceptance = s.acceptance ∧ (armedExpiry n s).relayQueue = s.relayQueue ∧
    (armedExpiry n s).field = s.field ∧ (armedExpiry n s).reader = s.reader ∧ (armedExpiry n s).up = s.up ∧
    (armedExpiry n s).freeCount = s.freeCount ∧ (armedExpiry n s).pending = s.pending := by
  unfold armedExpiry
  (try dsimp only)
  (repeat' split) <;> (try dsimp only) <;> (repeat' split) <;> simp

/-- START of an ARMED arm (R50). -/
@[simp] theorem startArm_leaves (s : State) (n : ArmId) :
    (startArm n s).clock = s.clock ∧ (startArm n s).mode = s.mode ∧ (startArm n s).status = s.status ∧
    (startArm n s).store = s.store ∧ (startArm n s).banks = s.banks ∧ (startArm n s).configs = s.configs ∧
    (startArm n s).metering = s.metering ∧ (startArm n s).dosing = s.dosing ∧
    (startArm n s).permissive = s.permissive ∧ (startArm n s).notes = s.notes ∧ (startArm n s).nodes = s.nodes ∧
    (startArm n s).scans = s.scans ∧ (startArm n s).acceptance = s.acceptance ∧
    (startArm n s).relayQueue = s.relayQueue ∧ (startArm n s).field = s.field ∧
    (startArm n s).reader = s.reader ∧ (startArm n s).up = s.up ∧ (startArm n s).freeCount = s.freeCount ∧
    (startArm n s).pending = s.pending := by
  unfold startArm
  (try dsimp only)
  (repeat' split) <;> (try dsimp only) <;> (repeat' split) <;> simp

/-- START of a HALTED arm (R60). -/
@[simp] theorem resumeArm_leaves (s : State) (n : ArmId) :
    (resumeArm n s).clock = s.clock ∧ (resumeArm n s).mode = s.mode ∧ (resumeArm n s).status = s.status ∧
    (resumeArm n s).store = s.store ∧ (resumeArm n s).banks = s.banks ∧ (resumeArm n s).configs = s.configs ∧
    (resumeArm n s).metering = s.metering ∧ (resumeArm n s).dosing = s.dosing ∧
    (resumeArm n s).permissive = s.permissive ∧ (resumeArm n s).notes = s.notes ∧
    (resumeArm n s).nodes = s.nodes ∧ (resumeArm n s).scans = s.scans ∧
    (resumeArm n s).acceptance = s.acceptance ∧ (resumeArm n s).relayQueue = s.relayQueue ∧
    (resumeArm n s).field = s.field ∧ (resumeArm n s).reader = s.reader ∧ (resumeArm n s).up = s.up ∧
    (resumeArm n s).freeCount = s.freeCount ∧ (resumeArm n s).pending = s.pending := by
  unfold resumeArm
  (try dsimp only)
  (repeat' split) <;> (try dsimp only) <;> (repeat' split) <;> simp

/-- A release (R56). -/
@[simp] theorem release_leaves (s : State) (n : ArmId) (b : Option BlockCause) :
    (release n b s).clock = s.clock ∧ (release n b s).mode = s.mode ∧ (release n b s).store = s.store ∧
    (release n b s).configs = s.configs ∧ (release n b s).metering = s.metering ∧
    (release n b s).permissive = s.permissive ∧ (release n b s).notes = s.notes ∧
    (release n b s).nodes = s.nodes ∧ (release n b s).scans = s.scans ∧
    (release n b s).acceptance = s.acceptance ∧ (release n b s).cmdQueue = s.cmdQueue ∧
    (release n b s).relayQueue = s.relayQueue ∧ (release n b s).field = s.field ∧
    (release n b s).reader = s.reader ∧ (release n b s).up = s.up ∧ (release n b s).freeCount = s.freeCount ∧
    (release n b s).pending = s.pending := by
  unfold release
  (try dsimp only)
  (repeat' split) <;> (try dsimp only) <;> (repeat' split) <;> simp

/-- A release with the automatic end rule (R56, R18). -/
@[simp] theorem releaseExamine_leaves (s : State) (n : ArmId) (b : Option BlockCause) :
    (releaseExamine n b s).clock = s.clock ∧ (releaseExamine n b s).mode = s.mode ∧
    (releaseExamine n b s).store = s.store ∧ (releaseExamine n b s).configs = s.configs ∧
    (releaseExamine n b s).metering = s.metering ∧ (releaseExamine n b s).permissive = s.permissive ∧
    (releaseExamine n b s).nodes = s.nodes ∧ (releaseExamine n b s).scans = s.scans ∧
    (releaseExamine n b s).acceptance = s.acceptance ∧ (releaseExamine n b s).relayQueue = s.relayQueue ∧
    (releaseExamine n b s).field = s.field ∧ (releaseExamine n b s).reader = s.reader ∧
    (releaseExamine n b s).up = s.up ∧ (releaseExamine n b s).freeCount = s.freeCount ∧
    (releaseExamine n b s).pending = s.pending := by
  unfold releaseExamine
  (try dsimp only)
  (repeat' split) <;> (try dsimp only) <;> (repeat' split) <;> simp

/-- The held compartment becomes SHORT. -/
@[simp] theorem shortHeld_leaves (s : State) (n : ArmId) :
    (shortHeld n s).clock = s.clock ∧ (shortHeld n s).mode = s.mode ∧ (shortHeld n s).status = s.status ∧
    (shortHeld n s).store = s.store ∧ (shortHeld n s).banks = s.banks ∧ (shortHeld n s).configs = s.configs ∧
    (shortHeld n s).arms = s.arms ∧ (shortHeld n s).metering = s.metering ∧ (shortHeld n s).dosing = s.dosing ∧
    (shortHeld n s).permissive = s.permissive ∧ (shortHeld n s).notes = s.notes ∧
    (shortHeld n s).nodes = s.nodes ∧ (shortHeld n s).scans = s.scans ∧
    (shortHeld n s).acceptance = s.acceptance ∧ (shortHeld n s).cmdQueue = s.cmdQueue ∧
    (shortHeld n s).relayQueue = s.relayQueue ∧ (shortHeld n s).field = s.field ∧
    (shortHeld n s).reader = s.reader ∧ (shortHeld n s).up = s.up ∧ (shortHeld n s).freeCount = s.freeCount ∧
    (shortHeld n s).pending = s.pending := by
  unfold shortHeld
  (try dsimp only)
  (repeat' split) <;> (try dsimp only) <;> (repeat' split) <;> simp

/-- A compartment completed (R54). -/
@[simp] theorem completeComp_leaves (s : State) (n : ArmId) :
    (completeComp n s).clock = s.clock ∧ (completeComp n s).mode = s.mode ∧ (completeComp n s).store = s.store ∧
    (completeComp n s).configs = s.configs ∧ (completeComp n s).metering = s.metering ∧
    (completeComp n s).permissive = s.permissive ∧ (completeComp n s).nodes = s.nodes ∧
    (completeComp n s).scans = s.scans ∧ (completeComp n s).acceptance = s.acceptance ∧
    (completeComp n s).relayQueue = s.relayQueue ∧ (completeComp n s).field = s.field ∧
    (completeComp n s).reader = s.reader ∧ (completeComp n s).up = s.up ∧
    (completeComp n s).freeCount = s.freeCount ∧ (completeComp n s).pending = s.pending := by
  unfold completeComp
  (try dsimp only)
  (repeat' split) <;> (try dsimp only) <;> (repeat' split) <;> simp

/-- The settle test (R53). -/
@[simp] theorem settleTest_leaves (s : State) (n : ArmId) :
    (settleTest n s).clock = s.clock ∧ (settleTest n s).mode = s.mode ∧ (settleTest n s).store = s.store ∧
    (settleTest n s).configs = s.configs ∧ (settleTest n s).metering = s.metering ∧
    (settleTest n s).permissive = s.permissive ∧ (settleTest n s).nodes = s.nodes ∧
    (settleTest n s).scans = s.scans ∧ (settleTest n s).acceptance = s.acceptance ∧
    (settleTest n s).relayQueue = s.relayQueue ∧ (settleTest n s).field = s.field ∧
    (settleTest n s).reader = s.reader ∧ (settleTest n s).up = s.up ∧ (settleTest n s).freeCount = s.freeCount ∧
    (settleTest n s).pending = s.pending := by
  unfold settleTest
  (try dsimp only)
  (repeat' split) <;> (try dsimp only) <;> (repeat' split) <;> simp

/-- A change of stage (R52). -/
@[simp] theorem moveStage_leaves (s : State) (n : ArmId) (p : Position) (st : ArmState) :
    (moveStage n p st s).clock = s.clock ∧ (moveStage n p st s).mode = s.mode ∧
    (moveStage n p st s).status = s.status ∧ (moveStage n p st s).session = s.session ∧
    (moveStage n p st s).store = s.store ∧ (moveStage n p st s).banks = s.banks ∧
    (moveStage n p st s).configs = s.configs ∧ (moveStage n p st s).metering = s.metering ∧
    (moveStage n p st s).dosing = s.dosing ∧ (moveStage n p st s).permissive = s.permissive ∧
    (moveStage n p st s).notes = s.notes ∧ (moveStage n p st s).nodes = s.nodes ∧
    (moveStage n p st s).scans = s.scans ∧ (moveStage n p st s).acceptance = s.acceptance ∧
    (moveStage n p st s).relayQueue = s.relayQueue ∧ (moveStage n p st s).field = s.field ∧
    (moveStage n p st s).reader = s.reader ∧ (moveStage n p st s).up = s.up ∧
    (moveStage n p st s).freeCount = s.freeCount ∧ (moveStage n p st s).pending = s.pending := by
  unfold moveStage
  (try dsimp only)
  (repeat' split) <;> (try dsimp only) <;> (repeat' split) <;> simp

/-- The staging test (R52). -/
@[simp] theorem stagingTest_leaves (s : State) (n : ArmId) :
    (stagingTest n s).clock = s.clock ∧ (stagingTest n s).mode = s.mode ∧ (stagingTest n s).status = s.status ∧
    (stagingTest n s).session = s.session ∧ (stagingTest n s).store = s.store ∧
    (stagingTest n s).banks = s.banks ∧ (stagingTest n s).configs = s.configs ∧
    (stagingTest n s).metering = s.metering ∧ (stagingTest n s).dosing = s.dosing ∧
    (stagingTest n s).permissive = s.permissive ∧ (stagingTest n s).notes = s.notes ∧
    (stagingTest n s).nodes = s.nodes ∧ (stagingTest n s).scans = s.scans ∧
    (stagingTest n s).acceptance = s.acceptance ∧ (stagingTest n s).relayQueue = s.relayQueue ∧
    (stagingTest n s).field = s.field ∧ (stagingTest n s).reader = s.reader ∧ (stagingTest n s).up = s.up ∧
    (stagingTest n s).freeCount = s.freeCount ∧ (stagingTest n s).pending = s.pending := by
  unfold stagingTest
  (try dsimp only)
  (repeat' split) <;> (try dsimp only) <;> (repeat' split) <;> simp

/-- A trip raised (R66). -/
@[simp] theorem raiseTrip_leaves (s : State) (n : ArmId) :
    (raiseTrip n s).clock = s.clock ∧ (raiseTrip n s).mode = s.mode ∧ (raiseTrip n s).session = s.session ∧
    (raiseTrip n s).store = s.store ∧ (raiseTrip n s).banks = s.banks ∧ (raiseTrip n s).configs = s.configs ∧
    (raiseTrip n s).metering = s.metering ∧ (raiseTrip n s).dosing = s.dosing ∧
    (raiseTrip n s).permissive = s.permissive ∧ (raiseTrip n s).notes = s.notes ∧
    (raiseTrip n s).nodes = s.nodes ∧ (raiseTrip n s).scans = s.scans ∧
    (raiseTrip n s).acceptance = s.acceptance ∧ (raiseTrip n s).cmdQueue = s.cmdQueue ∧
    (raiseTrip n s).relayQueue = s.relayQueue ∧ (raiseTrip n s).field = s.field ∧
    (raiseTrip n s).reader = s.reader ∧ (raiseTrip n s).up = s.up ∧ (raiseTrip n s).freeCount = s.freeCount ∧
    (raiseTrip n s).pending = s.pending := by
  unfold raiseTrip
  (try dsimp only)
  (repeat' split) <;> (try dsimp only) <;> (repeat' split) <;> simp

/-- BAY PERMIT after a raised trip (R122). -/
@[simp] theorem tripPermit_leaves (s : State) :
    (tripPermit s).clock = s.clock ∧ (tripPermit s).mode = s.mode ∧ (tripPermit s).status = s.status ∧
    (tripPermit s).store = s.store ∧ (tripPermit s).banks = s.banks ∧ (tripPermit s).configs = s.configs ∧
    (tripPermit s).metering = s.metering ∧ (tripPermit s).dosing = s.dosing ∧ (tripPermit s).notes = s.notes ∧
    (tripPermit s).nodes = s.nodes ∧ (tripPermit s).scans = s.scans ∧ (tripPermit s).acceptance = s.acceptance ∧
    (tripPermit s).relayQueue = s.relayQueue ∧ (tripPermit s).field = s.field ∧
    (tripPermit s).reader = s.reader ∧ (tripPermit s).up = s.up ∧ (tripPermit s).freeCount = s.freeCount ∧
    (tripPermit s).pending = s.pending := by
  unfold tripPermit
  (try dsimp only)
  (repeat' split) <;> (try dsimp only) <;> (repeat' split) <;> simp

/-- A trip cleared (R66). -/
@[simp] theorem clearTrip_leaves (s : State) (n : ArmId) :
    (clearTrip n s).clock = s.clock ∧ (clearTrip n s).mode = s.mode ∧ (clearTrip n s).status = s.status ∧
    (clearTrip n s).session = s.session ∧ (clearTrip n s).store = s.store ∧ (clearTrip n s).banks = s.banks ∧
    (clearTrip n s).configs = s.configs ∧ (clearTrip n s).metering = s.metering ∧
    (clearTrip n s).dosing = s.dosing ∧ (clearTrip n s).notes = s.notes ∧ (clearTrip n s).nodes = s.nodes ∧
    (clearTrip n s).scans = s.scans ∧ (clearTrip n s).acceptance = s.acceptance ∧
    (clearTrip n s).cmdQueue = s.cmdQueue ∧ (clearTrip n s).relayQueue = s.relayQueue ∧
    (clearTrip n s).field = s.field ∧ (clearTrip n s).reader = s.reader ∧ (clearTrip n s).up = s.up ∧
    (clearTrip n s).freeCount = s.freeCount ∧ (clearTrip n s).pending = s.pending := by
  unfold clearTrip
  (try dsimp only)
  (repeat' split) <;> (try dsimp only) <;> (repeat' split) <;> simp

/-- A valve fault (R55, R64, R65). -/
@[simp] theorem valveFault_leaves (s : State) (n : ArmId) :
    (valveFault n s).clock = s.clock ∧ (valveFault n s).mode = s.mode ∧ (valveFault n s).store = s.store ∧
    (valveFault n s).configs = s.configs ∧ (valveFault n s).metering = s.metering ∧
    (valveFault n s).nodes = s.nodes ∧ (valveFault n s).scans = s.scans ∧
    (valveFault n s).acceptance = s.acceptance ∧ (valveFault n s).relayQueue = s.relayQueue ∧
    (valveFault n s).field = s.field ∧ (valveFault n s).reader = s.reader ∧ (valveFault n s).up = s.up ∧
    (valveFault n s).freeCount = s.freeCount ∧ (valveFault n s).pending = s.pending := by
  unfold valveFault
  (try dsimp only)
  (repeat' split) <;> (try dsimp only) <;> (repeat' split) <;> simp

/-- A settle failure (R55). -/
@[simp] theorem settleFailure_leaves (s : State) (n : ArmId) :
    (settleFailure n s).clock = s.clock ∧ (settleFailure n s).mode = s.mode ∧
    (settleFailure n s).store = s.store ∧ (settleFailure n s).configs = s.configs ∧
    (settleFailure n s).metering = s.metering ∧ (settleFailure n s).nodes = s.nodes ∧
    (settleFailure n s).scans = s.scans ∧ (settleFailure n s).acceptance = s.acceptance ∧
    (settleFailure n s).relayQueue = s.relayQueue ∧ (settleFailure n s).field = s.field ∧
    (settleFailure n s).reader = s.reader ∧ (settleFailure n s).up = s.up ∧
    (settleFailure n s).freeCount = s.freeCount ∧ (settleFailure n s).pending = s.pending := by
  unfold settleFailure
  (try dsimp only)
  (repeat' split) <;> (try dsimp only) <;> (repeat' split) <;> simp

/-- The halt timeout (R61). -/
@[simp] theorem haltExpiry_leaves (s : State) (n : ArmId) :
    (haltExpiry n s).clock = s.clock ∧ (haltExpiry n s).mode = s.mode ∧ (haltExpiry n s).store = s.store ∧
    (haltExpiry n s).configs = s.configs ∧ (haltExpiry n s).metering = s.metering ∧
    (haltExpiry n s).permissive = s.permissive ∧ (haltExpiry n s).nodes = s.nodes ∧
    (haltExpiry n s).scans = s.scans ∧ (haltExpiry n s).acceptance = s.acceptance ∧
    (haltExpiry n s).relayQueue = s.relayQueue ∧ (haltExpiry n s).field = s.field ∧
    (haltExpiry n s).reader = s.reader ∧ (haltExpiry n s).up = s.up ∧ (haltExpiry n s).freeCount = s.freeCount ∧
    (haltExpiry n s).pending = s.pending := by
  unfold haltExpiry
  (try dsimp only)
  (repeat' split) <;> (try dsimp only) <;> (repeat' split) <;> simp

/-- CLOSED commanded where the valve is not. -/
@[simp] theorem closeIfOpen_leaves (s : State) (n : ArmId) :
    (closeIfOpen n s).clock = s.clock ∧ (closeIfOpen n s).mode = s.mode ∧ (closeIfOpen n s).status = s.status ∧
    (closeIfOpen n s).session = s.session ∧ (closeIfOpen n s).store = s.store ∧
    (closeIfOpen n s).banks = s.banks ∧ (closeIfOpen n s).configs = s.configs ∧
    (closeIfOpen n s).metering = s.metering ∧ (closeIfOpen n s).dosing = s.dosing ∧
    (closeIfOpen n s).permissive = s.permissive ∧ (closeIfOpen n s).notes = s.notes ∧
    (closeIfOpen n s).nodes = s.nodes ∧ (closeIfOpen n s).scans = s.scans ∧
    (closeIfOpen n s).acceptance = s.acceptance ∧ (closeIfOpen n s).relayQueue = s.relayQueue ∧
    (closeIfOpen n s).field = s.field ∧ (closeIfOpen n s).reader = s.reader ∧ (closeIfOpen n s).up = s.up ∧
    (closeIfOpen n s).freeCount = s.freeCount ∧ (closeIfOpen n s).pending = s.pending := by
  unfold closeIfOpen
  (try dsimp only)
  (repeat' split) <;> (try dsimp only) <;> (repeat' split) <;> simp

/-- A meter fault (R63). -/
@[simp] theorem meterFault_leaves (s : State) (n : ArmId) :
    (meterFault n s).clock = s.clock ∧ (meterFault n s).mode = s.mode ∧ (meterFault n s).store = s.store ∧
    (meterFault n s).configs = s.configs ∧ (meterFault n s).metering = s.metering ∧
    (meterFault n s).permissive = s.permissive ∧ (meterFault n s).nodes = s.nodes ∧
    (meterFault n s).scans = s.scans ∧ (meterFault n s).acceptance = s.acceptance ∧
    (meterFault n s).relayQueue = s.relayQueue ∧ (meterFault n s).field = s.field ∧
    (meterFault n s).reader = s.reader ∧ (meterFault n s).up = s.up ∧ (meterFault n s).freeCount = s.freeCount ∧
    (meterFault n s).pending = s.pending := by
  unfold meterFault
  (try dsimp only)
  (repeat' split) <;> (try dsimp only) <;> (repeat' split) <;> simp

/-- A valve node LOST (R64). -/
@[simp] theorem valveNodeLost_leaves (s : State) (n : ArmId) :
    (valveNodeLost n s).clock = s.clock ∧ (valveNodeLost n s).mode = s.mode ∧
    (valveNodeLost n s).store = s.store ∧ (valveNodeLost n s).configs = s.configs ∧
    (valveNodeLost n s).metering = s.metering ∧ (valveNodeLost n s).nodes = s.nodes ∧
    (valveNodeLost n s).scans = s.scans ∧ (valveNodeLost n s).acceptance = s.acceptance ∧
    (valveNodeLost n s).relayQueue = s.relayQueue ∧ (valveNodeLost n s).field = s.field ∧
    (valveNodeLost n s).reader = s.reader ∧ (valveNodeLost n s).up = s.up ∧
    (valveNodeLost n s).freeCount = s.freeCount ∧ (valveNodeLost n s).pending = s.pending := by
  unfold valveNodeLost
  (try dsimp only)
  (repeat' split) <;> (try dsimp only) <;> (repeat' split) <;> simp

/-- A failed opening DRIVE (R65). -/
@[simp] theorem driveFailed_leaves (s : State) (n : ArmId) (p : Position) :
    (driveFailed n p s).clock = s.clock ∧ (driveFailed n p s).mode = s.mode ∧
    (driveFailed n p s).store = s.store ∧ (driveFailed n p s).configs = s.configs ∧
    (driveFailed n p s).metering = s.metering ∧ (driveFailed n p s).nodes = s.nodes ∧
    (driveFailed n p s).scans = s.scans ∧ (driveFailed n p s).acceptance = s.acceptance ∧
    (driveFailed n p s).relayQueue = s.relayQueue ∧ (driveFailed n p s).field = s.field ∧
    (driveFailed n p s).reader = s.reader ∧ (driveFailed n p s).up = s.up ∧
    (driveFailed n p s).freeCount = s.freeCount ∧ (driveFailed n p s).pending = s.pending := by
  unfold driveFailed
  (try dsimp only)
  (repeat' split) <;> (try dsimp only) <;> (repeat' split) <;> simp

/-- A valve status report (R48). -/
@[simp] theorem valveReport_leaves (s : State) (n : ArmId) (t : Tag) (r : ValveReport) :
    (valveReport n t r s).clock = s.clock ∧ (valveReport n t r s).mode = s.mode ∧
    (valveReport n t r s).store = s.store ∧ (valveReport n t r s).configs = s.configs ∧
    (valveReport n t r s).metering = s.metering ∧ (valveReport n t r s).nodes = s.nodes ∧
    (valveReport n t r s).scans = s.scans ∧ (valveReport n t r s).acceptance = s.acceptance ∧
    (valveReport n t r s).relayQueue = s.relayQueue ∧ (valveReport n t r s).field = s.field ∧
    (valveReport n t r s).reader = s.reader ∧ (valveReport n t r s).up = s.up ∧
    (valveReport n t r s).freeCount = s.freeCount ∧ (valveReport n t r s).pending = s.pending := by
  unfold valveReport
  (try dsimp only)
  (repeat' split) <;> (try dsimp only) <;> (repeat' split) <;> simp

/-- A temperature report (R80). -/
@[simp] theorem temperatureReport_leaves (s : State) (n : ArmId) (t : Tag) (x : Int) (v : Bool) :
    (temperatureReport n t x v s).clock = s.clock ∧ (temperatureReport n t x v s).mode = s.mode ∧
    (temperatureReport n t x v s).status = s.status ∧ (temperatureReport n t x v s).session = s.session ∧
    (temperatureReport n t x v s).store = s.store ∧ (temperatureReport n t x v s).banks = s.banks ∧
    (temperatureReport n t x v s).configs = s.configs ∧ (temperatureReport n t x v s).dosing = s.dosing ∧
    (temperatureReport n t x v s).permissive = s.permissive ∧ (temperatureReport n t x v s).notes = s.notes ∧
    (temperatureReport n t x v s).nodes = s.nodes ∧ (temperatureReport n t x v s).scans = s.scans ∧
    (temperatureReport n t x v s).acceptance = s.acceptance ∧
    (temperatureReport n t x v s).cmdQueue = s.cmdQueue ∧
    (temperatureReport n t x v s).relayQueue = s.relayQueue ∧ (temperatureReport n t x v s).field = s.field ∧
    (temperatureReport n t x v s).reader = s.reader ∧ (temperatureReport n t x v s).up = s.up ∧
    (temperatureReport n t x v s).freeCount = s.freeCount ∧
    (temperatureReport n t x v s).pending = s.pending := by
  unfold temperatureReport
  (try dsimp only)
  (repeat' split) <;> (try dsimp only) <;> (repeat' split) <;> simp

/-- A stale temperature (R81). -/
@[simp] theorem tempExpiry_leaves (s : State) (n : ArmId) :
    (tempExpiry n s).clock = s.clock ∧ (tempExpiry n s).mode = s.mode ∧ (tempExpiry n s).status = s.status ∧
    (tempExpiry n s).store = s.store ∧ (tempExpiry n s).banks = s.banks ∧ (tempExpiry n s).configs = s.configs ∧
    (tempExpiry n s).dosing = s.dosing ∧ (tempExpiry n s).permissive = s.permissive ∧
    (tempExpiry n s).notes = s.notes ∧ (tempExpiry n s).nodes = s.nodes ∧ (tempExpiry n s).scans = s.scans ∧
    (tempExpiry n s).acceptance = s.acceptance ∧ (tempExpiry n s).relayQueue = s.relayQueue ∧
    (tempExpiry n s).field = s.field ∧ (tempExpiry n s).reader = s.reader ∧ (tempExpiry n s).up = s.up ∧
    (tempExpiry n s).freeCount = s.freeCount ∧ (tempExpiry n s).pending = s.pending := by
  unfold tempExpiry
  (try dsimp only)
  (repeat' split) <;> (try dsimp only) <;> (repeat' split) <;> simp

/-- A metering record reset (R70). -/
@[simp] theorem resetMetering_leaves (s : State) (n : ArmId) :
    (resetMetering n s).clock = s.clock ∧ (resetMetering n s).mode = s.mode ∧
    (resetMetering n s).status = s.status ∧ (resetMetering n s).session = s.session ∧
    (resetMetering n s).store = s.store ∧ (resetMetering n s).banks = s.banks ∧
    (resetMetering n s).configs = s.configs ∧ (resetMetering n s).arms = s.arms ∧
    (resetMetering n s).dosing = s.dosing ∧ (resetMetering n s).permissive = s.permissive ∧
    (resetMetering n s).notes = s.notes ∧ (resetMetering n s).nodes = s.nodes ∧
    (resetMetering n s).scans = s.scans ∧ (resetMetering n s).acceptance = s.acceptance ∧
    (resetMetering n s).cmdQueue = s.cmdQueue ∧ (resetMetering n s).relayQueue = s.relayQueue ∧
    (resetMetering n s).field = s.field ∧ (resetMetering n s).reader = s.reader ∧
    (resetMetering n s).up = s.up ∧ (resetMetering n s).freeCount = s.freeCount ∧
    (resetMetering n s).pending = s.pending := by
  unfold resetMetering
  (try dsimp only)
  (repeat' split) <;> (try dsimp only) <;> (repeat' split) <;> simp

/-- The halt offers of a sample (R87). -/
@[simp] theorem sampleOffers_leaves (s : State) (n : ArmId) (b : Bool) :
    (sampleOffers n b s).clock = s.clock ∧ (sampleOffers n b s).mode = s.mode ∧
    (sampleOffers n b s).status = s.status ∧ (sampleOffers n b s).store = s.store ∧
    (sampleOffers n b s).banks = s.banks ∧ (sampleOffers n b s).configs = s.configs ∧
    (sampleOffers n b s).metering = s.metering ∧ (sampleOffers n b s).dosing = s.dosing ∧
    (sampleOffers n b s).permissive = s.permissive ∧ (sampleOffers n b s).notes = s.notes ∧
    (sampleOffers n b s).nodes = s.nodes ∧ (sampleOffers n b s).scans = s.scans ∧
    (sampleOffers n b s).acceptance = s.acceptance ∧ (sampleOffers n b s).relayQueue = s.relayQueue ∧
    (sampleOffers n b s).field = s.field ∧ (sampleOffers n b s).reader = s.reader ∧
    (sampleOffers n b s).up = s.up ∧ (sampleOffers n b s).freeCount = s.freeCount ∧
    (sampleOffers n b s).pending = s.pending := by
  unfold sampleOffers
  (try dsimp only)
  (repeat' split) <;> (try dsimp only) <;> (repeat' split) <;> simp

/-- The settle step of a sample (R87). -/
@[simp] theorem settleStep_leaves (s : State) (n : ArmId) (d : Nat) :
    (settleStep n d s).clock = s.clock ∧ (settleStep n d s).mode = s.mode ∧ (settleStep n d s).store = s.store ∧
    (settleStep n d s).configs = s.configs ∧ (settleStep n d s).metering = s.metering ∧
    (settleStep n d s).permissive = s.permissive ∧ (settleStep n d s).nodes = s.nodes ∧
    (settleStep n d s).scans = s.scans ∧ (settleStep n d s).acceptance = s.acceptance ∧
    (settleStep n d s).relayQueue = s.relayQueue ∧ (settleStep n d s).field = s.field ∧
    (settleStep n d s).reader = s.reader ∧ (settleStep n d s).up = s.up ∧
    (settleStep n d s).freeCount = s.freeCount ∧ (settleStep n d s).pending = s.pending := by
  unfold settleStep
  (try dsimp only)
  (repeat' split) <;> (try dsimp only) <;> (repeat' split) <;> simp

/-- Steps 3 to 5 of R87. -/
@[simp] theorem handOn_leaves (s : State) (n : ArmId) (d : Nat) (w : Bool) :
    (handOn n d w s).clock = s.clock ∧ (handOn n d w s).mode = s.mode ∧ (handOn n d w s).store = s.store ∧
    (handOn n d w s).configs = s.configs ∧ (handOn n d w s).metering = s.metering ∧
    (handOn n d w s).permissive = s.permissive ∧ (handOn n d w s).nodes = s.nodes ∧
    (handOn n d w s).scans = s.scans ∧ (handOn n d w s).acceptance = s.acceptance ∧
    (handOn n d w s).relayQueue = s.relayQueue ∧ (handOn n d w s).field = s.field ∧
    (handOn n d w s).reader = s.reader ∧ (handOn n d w s).up = s.up ∧ (handOn n d w s).freeCount = s.freeCount ∧
    (handOn n d w s).pending = s.pending := by
  unfold handOn
  (try dsimp only)
  (repeat' split) <;> (try dsimp only) <;> (repeat' split) <;> simp

/-- Increments accumulated (R85). -/
@[simp] theorem accumulateSample_leaves (s : State) (n : ArmId) (g st : Nat × Nat) (x : Int) (h b : Bool) :
    (accumulateSample n g st x h b s).clock = s.clock ∧ (accumulateSample n g st x h b s).mode = s.mode ∧
    (accumulateSample n g st x h b s).status = s.status ∧ (accumulateSample n g st x h b s).store = s.store ∧
    (accumulateSample n g st x h b s).banks = s.banks ∧ (accumulateSample n g st x h b s).configs = s.configs ∧
    (accumulateSample n g st x h b s).metering = s.metering ∧
    (accumulateSample n g st x h b s).dosing = s.dosing ∧
    (accumulateSample n g st x h b s).permissive = s.permissive ∧
    (accumulateSample n g st x h b s).notes = s.notes ∧ (accumulateSample n g st x h b s).nodes = s.nodes ∧
    (accumulateSample n g st x h b s).scans = s.scans ∧
    (accumulateSample n g st x h b s).acceptance = s.acceptance ∧
    (accumulateSample n g st x h b s).cmdQueue = s.cmdQueue ∧
    (accumulateSample n g st x h b s).relayQueue = s.relayQueue ∧
    (accumulateSample n g st x h b s).field = s.field ∧ (accumulateSample n g st x h b s).reader = s.reader ∧
    (accumulateSample n g st x h b s).up = s.up ∧ (accumulateSample n g st x h b s).freeCount = s.freeCount ∧
    (accumulateSample n g st x h b s).pending = s.pending := by
  unfold accumulateSample
  (try dsimp only)
  (repeat' split) <;> (try dsimp only) <;> (repeat' split) <;> simp

/-- Increments accumulated and handed on (R87). -/
@[simp] theorem takeIncrements_leaves (s : State) (n : ArmId) (d : Nat) (g st : Nat × Nat) (x : Int) (c : Comp) :
    (takeIncrements n d g st x c s).clock = s.clock ∧ (takeIncrements n d g st x c s).mode = s.mode ∧
    (takeIncrements n d g st x c s).store = s.store ∧ (takeIncrements n d g st x c s).configs = s.configs ∧
    (takeIncrements n d g st x c s).metering = s.metering ∧
    (takeIncrements n d g st x c s).permissive = s.permissive ∧
    (takeIncrements n d g st x c s).nodes = s.nodes ∧ (takeIncrements n d g st x c s).scans = s.scans ∧
    (takeIncrements n d g st x c s).acceptance = s.acceptance ∧
    (takeIncrements n d g st x c s).relayQueue = s.relayQueue ∧
    (takeIncrements n d g st x c s).field = s.field ∧ (takeIncrements n d g st x c s).reader = s.reader ∧
    (takeIncrements n d g st x c s).up = s.up ∧ (takeIncrements n d g st x c s).freeCount = s.freeCount ∧
    (takeIncrements n d g st x c s).pending = s.pending := by
  unfold takeIncrements
  (try dsimp only)
  (repeat' split) <;> (try dsimp only) <;> (repeat' split) <;> simp

/-- A sample credited to a compartment (R85). -/
@[simp] theorem creditSample_leaves (s : State) (n : ArmId) (d r : Nat) (c : Comp) :
    (creditSample n d r c s).clock = s.clock ∧ (creditSample n d r c s).mode = s.mode ∧
    (creditSample n d r c s).store = s.store ∧ (creditSample n d r c s).configs = s.configs ∧
    (creditSample n d r c s).metering = s.metering ∧ (creditSample n d r c s).permissive = s.permissive ∧
    (creditSample n d r c s).nodes = s.nodes ∧ (creditSample n d r c s).scans = s.scans ∧
    (creditSample n d r c s).acceptance = s.acceptance ∧ (creditSample n d r c s).relayQueue = s.relayQueue ∧
    (creditSample n d r c s).field = s.field ∧ (creditSample n d r c s).reader = s.reader ∧
    (creditSample n d r c s).up = s.up ∧ (creditSample n d r c s).freeCount = s.freeCount ∧
    (creditSample n d r c s).pending = s.pending := by
  unfold creditSample
  (try dsimp only)
  (repeat' split) <;> (try dsimp only) <;> (repeat' split) <;> simp

/-- An unassigned increment (R88). -/
@[simp] theorem takeUnassigned_leaves (s : State) (n : ArmId) (g : Nat × Nat) :
    (takeUnassigned n g s).clock = s.clock ∧ (takeUnassigned n g s).mode = s.mode ∧
    (takeUnassigned n g s).session = s.session ∧ (takeUnassigned n g s).store = s.store ∧
    (takeUnassigned n g s).banks = s.banks ∧ (takeUnassigned n g s).configs = s.configs ∧
    (takeUnassigned n g s).metering = s.metering ∧ (takeUnassigned n g s).dosing = s.dosing ∧
    (takeUnassigned n g s).permissive = s.permissive ∧ (takeUnassigned n g s).notes = s.notes ∧
    (takeUnassigned n g s).nodes = s.nodes ∧ (takeUnassigned n g s).scans = s.scans ∧
    (takeUnassigned n g s).acceptance = s.acceptance ∧ (takeUnassigned n g s).cmdQueue = s.cmdQueue ∧
    (takeUnassigned n g s).relayQueue = s.relayQueue ∧ (takeUnassigned n g s).field = s.field ∧
    (takeUnassigned n g s).reader = s.reader ∧ (takeUnassigned n g s).up = s.up ∧
    (takeUnassigned n g s).freeCount = s.freeCount ∧ (takeUnassigned n g s).pending = s.pending := by
  unfold takeUnassigned
  (try dsimp only)
  (repeat' split) <;> (try dsimp only) <;> (repeat' split) <;> simp

/-- An unassigned sample (R88). -/
@[simp] theorem unassignedSample_leaves (s : State) (n : ArmId) (d : Nat) :
    (unassignedSample n d s).clock = s.clock ∧ (unassignedSample n d s).mode = s.mode ∧
    (unassignedSample n d s).session = s.session ∧ (unassignedSample n d s).store = s.store ∧
    (unassignedSample n d s).banks = s.banks ∧ (unassignedSample n d s).configs = s.configs ∧
    (unassignedSample n d s).metering = s.metering ∧ (unassignedSample n d s).dosing = s.dosing ∧
    (unassignedSample n d s).permissive = s.permissive ∧ (unassignedSample n d s).notes = s.notes ∧
    (unassignedSample n d s).nodes = s.nodes ∧ (unassignedSample n d s).scans = s.scans ∧
    (unassignedSample n d s).acceptance = s.acceptance ∧ (unassignedSample n d s).cmdQueue = s.cmdQueue ∧
    (unassignedSample n d s).relayQueue = s.relayQueue ∧ (unassignedSample n d s).field = s.field ∧
    (unassignedSample n d s).reader = s.reader ∧ (unassignedSample n d s).up = s.up ∧
    (unassignedSample n d s).freeCount = s.freeCount ∧ (unassignedSample n d s).pending = s.pending := by
  unfold unassignedSample
  (try dsimp only)
  (repeat' split) <;> (try dsimp only) <;> (repeat' split) <;> simp

/-- An implausible sample (R75). -/
@[simp] theorem implausibleSample_leaves (s : State) (n : ArmId) :
    (implausibleSample n s).clock = s.clock ∧ (implausibleSample n s).mode = s.mode ∧
    (implausibleSample n s).store = s.store ∧ (implausibleSample n s).configs = s.configs ∧
    (implausibleSample n s).permissive = s.permissive ∧ (implausibleSample n s).nodes = s.nodes ∧
    (implausibleSample n s).scans = s.scans ∧ (implausibleSample n s).acceptance = s.acceptance ∧
    (implausibleSample n s).relayQueue = s.relayQueue ∧ (implausibleSample n s).field = s.field ∧
    (implausibleSample n s).reader = s.reader ∧ (implausibleSample n s).up = s.up ∧
    (implausibleSample n s).freeCount = s.freeCount ∧ (implausibleSample n s).pending = s.pending := by
  unfold implausibleSample
  (try dsimp only)
  (repeat' split) <;> (try dsimp only) <;> (repeat' split) <;> simp

/-- An accepted sample (R76). -/
@[simp] theorem acceptedSample_leaves (s : State) (n : ArmId) (c d r : Nat) :
    (acceptedSample n c d r s).clock = s.clock ∧ (acceptedSample n c d r s).mode = s.mode ∧
    (acceptedSample n c d r s).store = s.store ∧ (acceptedSample n c d r s).configs = s.configs ∧
    (acceptedSample n c d r s).permissive = s.permissive ∧ (acceptedSample n c d r s).nodes = s.nodes ∧
    (acceptedSample n c d r s).scans = s.scans ∧ (acceptedSample n c d r s).acceptance = s.acceptance ∧
    (acceptedSample n c d r s).relayQueue = s.relayQueue ∧ (acceptedSample n c d r s).field = s.field ∧
    (acceptedSample n c d r s).reader = s.reader ∧ (acceptedSample n c d r s).up = s.up ∧
    (acceptedSample n c d r s).freeCount = s.freeCount ∧ (acceptedSample n c d r s).pending = s.pending := by
  unfold acceptedSample
  (try dsimp only)
  (repeat' split) <;> (try dsimp only) <;> (repeat' split) <;> simp

/-- A meter report (R71). -/
@[simp] theorem meterReport_leaves (s : State) (n : ArmId) (t : Tag) (c : Nat) (ok : Bool) :
    (meterReport n t c ok s).clock = s.clock ∧ (meterReport n t c ok s).mode = s.mode ∧
    (meterReport n t c ok s).store = s.store ∧ (meterReport n t c ok s).configs = s.configs ∧
    (meterReport n t c ok s).permissive = s.permissive ∧ (meterReport n t c ok s).nodes = s.nodes ∧
    (meterReport n t c ok s).scans = s.scans ∧ (meterReport n t c ok s).acceptance = s.acceptance ∧
    (meterReport n t c ok s).relayQueue = s.relayQueue ∧ (meterReport n t c ok s).field = s.field ∧
    (meterReport n t c ok s).reader = s.reader ∧ (meterReport n t c ok s).up = s.up ∧
    (meterReport n t c ok s).freeCount = s.freeCount ∧ (meterReport n t c ok s).pending = s.pending := by
  unfold meterReport
  (try dsimp only)
  (repeat' split) <;> (try dsimp only) <;> (repeat' split) <;> simp

/-- A meter node LOST (R90). -/
@[simp] theorem meterNodeLost_leaves (s : State) (n : ArmId) :
    (meterNodeLost n s).clock = s.clock ∧ (meterNodeLost n s).mode = s.mode ∧
    (meterNodeLost n s).store = s.store ∧ (meterNodeLost n s).configs = s.configs ∧
    (meterNodeLost n s).permissive = s.permissive ∧ (meterNodeLost n s).nodes = s.nodes ∧
    (meterNodeLost n s).scans = s.scans ∧ (meterNodeLost n s).acceptance = s.acceptance ∧
    (meterNodeLost n s).relayQueue = s.relayQueue ∧ (meterNodeLost n s).field = s.field ∧
    (meterNodeLost n s).reader = s.reader ∧ (meterNodeLost n s).up = s.up ∧
    (meterNodeLost n s).freeCount = s.freeCount ∧ (meterNodeLost n s).pending = s.pending := by
  unfold meterNodeLost
  (try dsimp only)
  (repeat' split) <;> (try dsimp only) <;> (repeat' split) <;> simp

end Sys2Proof.Machine
end

