-- ==== Sys2Proof/Laws/Bay.lean ====
section
/-! SUPPORT. What the permissive unit, the session controller, node supervision and the field line leave: each lemma names every part of the state that its
operation does not touch. -/

set_option linter.unusedTactic false
set_option linter.unnecessarySeqFocus false

namespace Sys2Proof.Machine

/-- A return of health (R114). -/
@[simp] theorem returnOfHealth_leaves (s : State) :
    (returnOfHealth s).clock = s.clock ∧ (returnOfHealth s).mode = s.mode ∧
    (returnOfHealth s).status = s.status ∧ (returnOfHealth s).session = s.session ∧
    (returnOfHealth s).store = s.store ∧ (returnOfHealth s).banks = s.banks ∧
    (returnOfHealth s).configs = s.configs ∧ (returnOfHealth s).metering = s.metering ∧
    (returnOfHealth s).dosing = s.dosing ∧ (returnOfHealth s).permissive = s.permissive ∧
    (returnOfHealth s).notes = s.notes ∧ (returnOfHealth s).nodes = s.nodes ∧
    (returnOfHealth s).scans = s.scans ∧ (returnOfHealth s).acceptance = s.acceptance ∧
    (returnOfHealth s).cmdQueue = s.cmdQueue ∧ (returnOfHealth s).relayQueue = s.relayQueue ∧
    (returnOfHealth s).field = s.field ∧ (returnOfHealth s).reader = s.reader ∧ (returnOfHealth s).up = s.up ∧
    (returnOfHealth s).freeCount = s.freeCount ∧ (returnOfHealth s).pending = s.pending := by
  unfold returnOfHealth
  refine ⟨?_, ?_, ?_, ?_, ?_, ?_, ?_, ?_, ?_, ?_, ?_, ?_, ?_, ?_, ?_, ?_, ?_, ?_, ?_, ?_, ?_⟩
  · exact forArms_keeps State.clock _ (fun n t => by (repeat' split) <;> simp) s
  · exact forArms_keeps State.mode _ (fun n t => by (repeat' split) <;> simp) s
  · exact forArms_keeps State.status _ (fun n t => by (repeat' split) <;> simp) s
  · exact forArms_keeps State.session _ (fun n t => by (repeat' split) <;> simp) s
  · exact forArms_keeps State.store _ (fun n t => by (repeat' split) <;> simp) s
  · exact forArms_keeps State.banks _ (fun n t => by (repeat' split) <;> simp) s
  · exact forArms_keeps State.configs _ (fun n t => by (repeat' split) <;> simp) s
  · exact forArms_keeps State.metering _ (fun n t => by (repeat' split) <;> simp) s
  · exact forArms_keeps State.dosing _ (fun n t => by (repeat' split) <;> simp) s
  · exact forArms_keeps State.permissive _ (fun n t => by (repeat' split) <;> simp) s
  · exact forArms_keeps State.notes _ (fun n t => by (repeat' split) <;> simp) s
  · exact forArms_keeps State.nodes _ (fun n t => by (repeat' split) <;> simp) s
  · exact forArms_keeps State.scans _ (fun n t => by (repeat' split) <;> simp) s
  · exact forArms_keeps State.acceptance _ (fun n t => by (repeat' split) <;> simp) s
  · exact forArms_keeps State.cmdQueue _ (fun n t => by (repeat' split) <;> simp) s
  · exact forArms_keeps State.relayQueue _ (fun n t => by (repeat' split) <;> simp) s
  · exact forArms_keeps State.field _ (fun n t => by (repeat' split) <;> simp) s
  · exact forArms_keeps State.reader _ (fun n t => by (repeat' split) <;> simp) s
  · exact forArms_keeps State.up _ (fun n t => by (repeat' split) <;> simp) s
  · exact forArms_keeps State.freeCount _ (fun n t => by (repeat' split) <;> simp) s
  · exact forArms_keeps State.pending _ (fun n t => by (repeat' split) <;> simp) s

/-- The health decided (R112). -/
@[simp] theorem decideHealth_leaves (s : State) :
    (decideHealth s).clock = s.clock ∧ (decideHealth s).mode = s.mode ∧ (decideHealth s).status = s.status ∧
    (decideHealth s).store = s.store ∧ (decideHealth s).banks = s.banks ∧ (decideHealth s).configs = s.configs ∧
    (decideHealth s).metering = s.metering ∧ (decideHealth s).dosing = s.dosing ∧
    (decideHealth s).notes = s.notes ∧ (decideHealth s).nodes = s.nodes ∧ (decideHealth s).scans = s.scans ∧
    (decideHealth s).acceptance = s.acceptance ∧ (decideHealth s).relayQueue = s.relayQueue ∧
    (decideHealth s).field = s.field ∧ (decideHealth s).reader = s.reader ∧ (decideHealth s).up = s.up ∧
    (decideHealth s).freeCount = s.freeCount ∧ (decideHealth s).pending = s.pending := by
  unfold decideHealth
  (try dsimp only)
  (repeat' split) <;> (try dsimp only) <;> (repeat' split) <;> simp

/-- A renewal (R117). -/
@[simp] theorem renewDeadman_leaves (s : State) :
    (renewDeadman s).clock = s.clock ∧ (renewDeadman s).mode = s.mode ∧ (renewDeadman s).status = s.status ∧
    (renewDeadman s).session = s.session ∧ (renewDeadman s).store = s.store ∧ (renewDeadman s).banks = s.banks ∧
    (renewDeadman s).configs = s.configs ∧ (renewDeadman s).arms = s.arms ∧
    (renewDeadman s).metering = s.metering ∧ (renewDeadman s).dosing = s.dosing ∧
    (renewDeadman s).notes = s.notes ∧ (renewDeadman s).nodes = s.nodes ∧ (renewDeadman s).scans = s.scans ∧
    (renewDeadman s).acceptance = s.acceptance ∧ (renewDeadman s).cmdQueue = s.cmdQueue ∧
    (renewDeadman s).relayQueue = s.relayQueue ∧ (renewDeadman s).field = s.field ∧
    (renewDeadman s).reader = s.reader ∧ (renewDeadman s).up = s.up ∧ (renewDeadman s).freeCount = s.freeCount ∧
    (renewDeadman s).pending = s.pending := by
  unfold renewDeadman
  (try dsimp only)
  (repeat' split) <;> (try dsimp only) <;> (repeat' split) <;> simp

/-- The deadman counter of a report (R117). -/
@[simp] theorem takeDeadman_leaves (s : State) (c : Nat) :
    (takeDeadman c s).clock = s.clock ∧ (takeDeadman c s).mode = s.mode ∧ (takeDeadman c s).status = s.status ∧
    (takeDeadman c s).session = s.session ∧ (takeDeadman c s).store = s.store ∧
    (takeDeadman c s).banks = s.banks ∧ (takeDeadman c s).configs = s.configs ∧
    (takeDeadman c s).arms = s.arms ∧ (takeDeadman c s).metering = s.metering ∧
    (takeDeadman c s).dosing = s.dosing ∧ (takeDeadman c s).notes = s.notes ∧
    (takeDeadman c s).nodes = s.nodes ∧ (takeDeadman c s).scans = s.scans ∧
    (takeDeadman c s).acceptance = s.acceptance ∧ (takeDeadman c s).cmdQueue = s.cmdQueue ∧
    (takeDeadman c s).relayQueue = s.relayQueue ∧ (takeDeadman c s).field = s.field ∧
    (takeDeadman c s).reader = s.reader ∧ (takeDeadman c s).up = s.up ∧
    (takeDeadman c s).freeCount = s.freeCount ∧ (takeDeadman c s).pending = s.pending := by
  unfold takeDeadman
  (try dsimp only)
  (repeat' split) <;> (try dsimp only) <;> (repeat' split) <;> simp

/-- The deadman warning (R118). -/
@[simp] theorem warnDeadman_leaves (s : State) :
    (warnDeadman s).clock = s.clock ∧ (warnDeadman s).mode = s.mode ∧ (warnDeadman s).status = s.status ∧
    (warnDeadman s).session = s.session ∧ (warnDeadman s).store = s.store ∧ (warnDeadman s).banks = s.banks ∧
    (warnDeadman s).configs = s.configs ∧ (warnDeadman s).arms = s.arms ∧
    (warnDeadman s).metering = s.metering ∧ (warnDeadman s).dosing = s.dosing ∧
    (warnDeadman s).notes = s.notes ∧ (warnDeadman s).nodes = s.nodes ∧ (warnDeadman s).scans = s.scans ∧
    (warnDeadman s).acceptance = s.acceptance ∧ (warnDeadman s).relayQueue = s.relayQueue ∧
    (warnDeadman s).field = s.field ∧ (warnDeadman s).reader = s.reader ∧ (warnDeadman s).up = s.up ∧
    (warnDeadman s).freeCount = s.freeCount ∧ (warnDeadman s).pending = s.pending := by
  unfold warnDeadman
  (try dsimp only)
  (repeat' split) <;> (try dsimp only) <;> (repeat' split) <;> simp

/-- The deadman expiry (R119). -/
@[simp] theorem expireDeadman_leaves (s : State) :
    (expireDeadman s).clock = s.clock ∧ (expireDeadman s).mode = s.mode ∧ (expireDeadman s).status = s.status ∧
    (expireDeadman s).store = s.store ∧ (expireDeadman s).banks = s.banks ∧
    (expireDeadman s).configs = s.configs ∧ (expireDeadman s).metering = s.metering ∧
    (expireDeadman s).dosing = s.dosing ∧ (expireDeadman s).notes = s.notes ∧
    (expireDeadman s).nodes = s.nodes ∧ (expireDeadman s).scans = s.scans ∧
    (expireDeadman s).acceptance = s.acceptance ∧ (expireDeadman s).relayQueue = s.relayQueue ∧
    (expireDeadman s).field = s.field ∧ (expireDeadman s).reader = s.reader ∧ (expireDeadman s).up = s.up ∧
    (expireDeadman s).freeCount = s.freeCount ∧ (expireDeadman s).pending = s.pending := by
  unfold expireDeadman
  (try dsimp only)
  (repeat' split) <;> (try dsimp only) <;> (repeat' split) <;> simp

/-- A permissive report (R111). -/
@[simp] theorem permissiveReport_leaves (s : State) (t : Tag) (r : PermissiveReport) (c : Nat) :
    (permissiveReport t r c s).clock = s.clock ∧ (permissiveReport t r c s).mode = s.mode ∧
    (permissiveReport t r c s).status = s.status ∧ (permissiveReport t r c s).store = s.store ∧
    (permissiveReport t r c s).banks = s.banks ∧ (permissiveReport t r c s).configs = s.configs ∧
    (permissiveReport t r c s).metering = s.metering ∧ (permissiveReport t r c s).dosing = s.dosing ∧
    (permissiveReport t r c s).notes = s.notes ∧ (permissiveReport t r c s).nodes = s.nodes ∧
    (permissiveReport t r c s).scans = s.scans ∧ (permissiveReport t r c s).acceptance = s.acceptance ∧
    (permissiveReport t r c s).relayQueue = s.relayQueue ∧ (permissiveReport t r c s).field = s.field ∧
    (permissiveReport t r c s).reader = s.reader ∧ (permissiveReport t r c s).up = s.up ∧
    (permissiveReport t r c s).freeCount = s.freeCount ∧ (permissiveReport t r c s).pending = s.pending := by
  unfold permissiveReport
  (try dsimp only)
  (repeat' split) <;> (try dsimp only) <;> (repeat' split) <;> simp

/-- The report age deadline (R115). -/
@[simp] theorem reportExpiry_leaves (s : State) :
    (reportExpiry s).clock = s.clock ∧ (reportExpiry s).mode = s.mode ∧ (reportExpiry s).status = s.status ∧
    (reportExpiry s).store = s.store ∧ (reportExpiry s).banks = s.banks ∧ (reportExpiry s).configs = s.configs ∧
    (reportExpiry s).metering = s.metering ∧ (reportExpiry s).dosing = s.dosing ∧
    (reportExpiry s).notes = s.notes ∧ (reportExpiry s).nodes = s.nodes ∧ (reportExpiry s).scans = s.scans ∧
    (reportExpiry s).acceptance = s.acceptance ∧ (reportExpiry s).relayQueue = s.relayQueue ∧
    (reportExpiry s).field = s.field ∧ (reportExpiry s).reader = s.reader ∧ (reportExpiry s).up = s.up ∧
    (reportExpiry s).freeCount = s.freeCount ∧ (reportExpiry s).pending = s.pending := by
  unfold reportExpiry
  (try dsimp only)
  (repeat' split) <;> (try dsimp only) <;> (repeat' split) <;> simp

/-- The permissive node LOST (R116). -/
@[simp] theorem permissiveNodeLost_leaves (s : State) :
    (permissiveNodeLost s).clock = s.clock ∧ (permissiveNodeLost s).mode = s.mode ∧
    (permissiveNodeLost s).status = s.status ∧ (permissiveNodeLost s).store = s.store ∧
    (permissiveNodeLost s).banks = s.banks ∧ (permissiveNodeLost s).configs = s.configs ∧
    (permissiveNodeLost s).metering = s.metering ∧ (permissiveNodeLost s).dosing = s.dosing ∧
    (permissiveNodeLost s).notes = s.notes ∧ (permissiveNodeLost s).nodes = s.nodes ∧
    (permissiveNodeLost s).scans = s.scans ∧ (permissiveNodeLost s).acceptance = s.acceptance ∧
    (permissiveNodeLost s).relayQueue = s.relayQueue ∧ (permissiveNodeLost s).field = s.field ∧
    (permissiveNodeLost s).reader = s.reader ∧ (permissiveNodeLost s).up = s.up ∧
    (permissiveNodeLost s).freeCount = s.freeCount ∧ (permissiveNodeLost s).pending = s.pending := by
  unfold permissiveNodeLost
  (try dsimp only)
  (repeat' split) <;> (try dsimp only) <;> (repeat' split) <;> simp

/-- The permissive node recovered (R116). -/
@[simp] theorem permissiveNodeRecovered_leaves (s : State) :
    (permissiveNodeRecovered s).clock = s.clock ∧ (permissiveNodeRecovered s).mode = s.mode ∧
    (permissiveNodeRecovered s).status = s.status ∧ (permissiveNodeRecovered s).store = s.store ∧
    (permissiveNodeRecovered s).banks = s.banks ∧ (permissiveNodeRecovered s).configs = s.configs ∧
    (permissiveNodeRecovered s).metering = s.metering ∧ (permissiveNodeRecovered s).dosing = s.dosing ∧
    (permissiveNodeRecovered s).notes = s.notes ∧ (permissiveNodeRecovered s).nodes = s.nodes ∧
    (permissiveNodeRecovered s).scans = s.scans ∧ (permissiveNodeRecovered s).acceptance = s.acceptance ∧
    (permissiveNodeRecovered s).relayQueue = s.relayQueue ∧ (permissiveNodeRecovered s).field = s.field ∧
    (permissiveNodeRecovered s).reader = s.reader ∧ (permissiveNodeRecovered s).up = s.up ∧
    (permissiveNodeRecovered s).freeCount = s.freeCount ∧ (permissiveNodeRecovered s).pending = s.pending := by
  unfold permissiveNodeRecovered
  (try dsimp only)
  (repeat' split) <;> (try dsimp only) <;> (repeat' split) <;> simp

/-- An order leaves the table (R33). -/
@[simp] theorem dropOrder_leaves (s : State) (c : Nat) :
    (dropOrder c s).clock = s.clock ∧ (dropOrder c s).mode = s.mode ∧ (dropOrder c s).status = s.status ∧
    (dropOrder c s).session = s.session ∧ (dropOrder c s).banks = s.banks ∧
    (dropOrder c s).configs = s.configs ∧ (dropOrder c s).arms = s.arms ∧
    (dropOrder c s).metering = s.metering ∧ (dropOrder c s).dosing = s.dosing ∧
    (dropOrder c s).permissive = s.permissive ∧ (dropOrder c s).notes = s.notes ∧
    (dropOrder c s).nodes = s.nodes ∧ (dropOrder c s).scans = s.scans ∧
    (dropOrder c s).acceptance = s.acceptance ∧ (dropOrder c s).cmdQueue = s.cmdQueue ∧
    (dropOrder c s).relayQueue = s.relayQueue ∧ (dropOrder c s).field = s.field ∧
    (dropOrder c s).reader = s.reader ∧ (dropOrder c s).up = s.up ∧ (dropOrder c s).freeCount = s.freeCount ∧
    (dropOrder c s).pending = s.pending := by
  unfold dropOrder
  (try dsimp only)
  (repeat' split) <;> (try dsimp only) <;> (repeat' split) <;> simp

/-- Entry to OPEN (R9). -/
@[simp] theorem enterOpen_leaves (s : State) :
    (enterOpen s).clock = s.clock ∧ (enterOpen s).mode = s.mode ∧ (enterOpen s).status = s.status ∧
    (enterOpen s).banks = s.banks ∧ (enterOpen s).configs = s.configs ∧ (enterOpen s).arms = s.arms ∧
    (enterOpen s).metering = s.metering ∧ (enterOpen s).dosing = s.dosing ∧
    (enterOpen s).permissive = s.permissive ∧ (enterOpen s).nodes = s.nodes ∧ (enterOpen s).scans = s.scans ∧
    (enterOpen s).acceptance = s.acceptance ∧ (enterOpen s).cmdQueue = s.cmdQueue ∧
    (enterOpen s).relayQueue = s.relayQueue ∧ (enterOpen s).field = s.field ∧ (enterOpen s).reader = s.reader ∧
    (enterOpen s).up = s.up ∧ (enterOpen s).freeCount = s.freeCount ∧ (enterOpen s).pending = s.pending := by
  unfold enterOpen
  (try dsimp only)
  (repeat' split) <;> (try dsimp only) <;> (repeat' split) <;> simp

/-- A card admitted (R5). -/
@[simp] theorem admitCard_leaves (s : State) (c : Nat) (p : Permit) :
    (admitCard c p s).clock = s.clock ∧ (admitCard c p s).mode = s.mode ∧ (admitCard c p s).status = s.status ∧
    (admitCard c p s).banks = s.banks ∧ (admitCard c p s).configs = s.configs ∧
    (admitCard c p s).arms = s.arms ∧ (admitCard c p s).metering = s.metering ∧
    (admitCard c p s).dosing = s.dosing ∧ (admitCard c p s).permissive = s.permissive ∧
    (admitCard c p s).nodes = s.nodes ∧ (admitCard c p s).scans = s.scans ∧
    (admitCard c p s).acceptance = s.acceptance ∧ (admitCard c p s).relayQueue = s.relayQueue ∧
    (admitCard c p s).field = s.field ∧ (admitCard c p s).reader = s.reader ∧ (admitCard c p s).up = s.up ∧
    (admitCard c p s).freeCount = s.freeCount ∧ (admitCard c p s).pending = s.pending := by
  unfold admitCard
  (try dsimp only)
  (repeat' split) <;> (try dsimp only) <;> (repeat' split) <;> simp

/-- A card event (R5, R6). -/
@[simp] theorem cardEvent_leaves (s : State) (c : Nat) :
    (cardEvent c s).clock = s.clock ∧ (cardEvent c s).mode = s.mode ∧ (cardEvent c s).status = s.status ∧
    (cardEvent c s).banks = s.banks ∧ (cardEvent c s).configs = s.configs ∧ (cardEvent c s).arms = s.arms ∧
    (cardEvent c s).metering = s.metering ∧ (cardEvent c s).dosing = s.dosing ∧
    (cardEvent c s).permissive = s.permissive ∧ (cardEvent c s).nodes = s.nodes ∧
    (cardEvent c s).scans = s.scans ∧ (cardEvent c s).acceptance = s.acceptance ∧
    (cardEvent c s).relayQueue = s.relayQueue ∧ (cardEvent c s).field = s.field ∧
    (cardEvent c s).reader = s.reader ∧ (cardEvent c s).up = s.up ∧ (cardEvent c s).freeCount = s.freeCount ∧
    (cardEvent c s).pending = s.pending := by
  unfold cardEvent
  (try dsimp only)
  (repeat' split) <;> (try dsimp only) <;> (repeat' split) <;> simp

/-- The outcome of a code (R8). -/
@[simp] theorem takeOutcome_leaves (s : State) (o : CodeOutcome) :
    (takeOutcome o s).clock = s.clock ∧ (takeOutcome o s).status = s.status ∧
    (takeOutcome o s).banks = s.banks ∧ (takeOutcome o s).configs = s.configs ∧
    (takeOutcome o s).arms = s.arms ∧ (takeOutcome o s).metering = s.metering ∧
    (takeOutcome o s).dosing = s.dosing ∧ (takeOutcome o s).nodes = s.nodes ∧
    (takeOutcome o s).scans = s.scans ∧ (takeOutcome o s).acceptance = s.acceptance ∧
    (takeOutcome o s).relayQueue = s.relayQueue ∧ (takeOutcome o s).field = s.field ∧
    (takeOutcome o s).reader = s.reader ∧ (takeOutcome o s).up = s.up ∧
    (takeOutcome o s).freeCount = s.freeCount ∧ (takeOutcome o s).pending = s.pending := by
  unfold takeOutcome
  (try dsimp only)
  (repeat' split) <;> (try dsimp only) <;> (repeat' split) <;> simp

/-- A digit. -/
@[simp] theorem appendDigit_leaves (s : State) (d : Nat) :
    (appendDigit d s).clock = s.clock ∧ (appendDigit d s).mode = s.mode ∧ (appendDigit d s).status = s.status ∧
    (appendDigit d s).store = s.store ∧ (appendDigit d s).banks = s.banks ∧
    (appendDigit d s).configs = s.configs ∧ (appendDigit d s).arms = s.arms ∧
    (appendDigit d s).metering = s.metering ∧ (appendDigit d s).dosing = s.dosing ∧
    (appendDigit d s).permissive = s.permissive ∧ (appendDigit d s).notes = s.notes ∧
    (appendDigit d s).nodes = s.nodes ∧ (appendDigit d s).scans = s.scans ∧
    (appendDigit d s).acceptance = s.acceptance ∧ (appendDigit d s).cmdQueue = s.cmdQueue ∧
    (appendDigit d s).relayQueue = s.relayQueue ∧ (appendDigit d s).field = s.field ∧
    (appendDigit d s).reader = s.reader ∧ (appendDigit d s).up = s.up ∧
    (appendDigit d s).freeCount = s.freeCount ∧ (appendDigit d s).pending = s.pending := by
  unfold appendDigit
  (try dsimp only)
  (repeat' split) <;> (try dsimp only) <;> (repeat' split) <;> simp

/-- The digit entry emptied. -/
@[simp] theorem emptyDigits_leaves (s : State) :
    (emptyDigits s).clock = s.clock ∧ (emptyDigits s).mode = s.mode ∧ (emptyDigits s).status = s.status ∧
    (emptyDigits s).store = s.store ∧ (emptyDigits s).banks = s.banks ∧ (emptyDigits s).configs = s.configs ∧
    (emptyDigits s).arms = s.arms ∧ (emptyDigits s).metering = s.metering ∧ (emptyDigits s).dosing = s.dosing ∧
    (emptyDigits s).permissive = s.permissive ∧ (emptyDigits s).notes = s.notes ∧
    (emptyDigits s).nodes = s.nodes ∧ (emptyDigits s).scans = s.scans ∧
    (emptyDigits s).acceptance = s.acceptance ∧ (emptyDigits s).cmdQueue = s.cmdQueue ∧
    (emptyDigits s).relayQueue = s.relayQueue ∧ (emptyDigits s).field = s.field ∧
    (emptyDigits s).reader = s.reader ∧ (emptyDigits s).up = s.up ∧ (emptyDigits s).freeCount = s.freeCount ∧
    (emptyDigits s).pending = s.pending := by
  unfold emptyDigits
  (try dsimp only)
  (repeat' split) <;> (try dsimp only) <;> (repeat' split) <;> simp

/-- The last key time (R4). -/
@[simp] theorem markKey_leaves (s : State) :
    (markKey s).clock = s.clock ∧ (markKey s).mode = s.mode ∧ (markKey s).status = s.status ∧
    (markKey s).store = s.store ∧ (markKey s).banks = s.banks ∧ (markKey s).configs = s.configs ∧
    (markKey s).arms = s.arms ∧ (markKey s).metering = s.metering ∧ (markKey s).dosing = s.dosing ∧
    (markKey s).permissive = s.permissive ∧ (markKey s).notes = s.notes ∧ (markKey s).nodes = s.nodes ∧
    (markKey s).scans = s.scans ∧ (markKey s).acceptance = s.acceptance ∧ (markKey s).cmdQueue = s.cmdQueue ∧
    (markKey s).relayQueue = s.relayQueue ∧ (markKey s).field = s.field ∧ (markKey s).reader = s.reader ∧
    (markKey s).up = s.up ∧ (markKey s).freeCount = s.freeCount ∧ (markKey s).pending = s.pending := by
  unfold markKey
  (try dsimp only)
  (repeat' split) <;> (try dsimp only) <;> (repeat' split) <;> simp

/-- The reader tag (R4). -/
@[simp] theorem readerSeen_leaves (s : State) (t : Tag) :
    (readerSeen t s).clock = s.clock ∧ (readerSeen t s).mode = s.mode ∧ (readerSeen t s).status = s.status ∧
    (readerSeen t s).store = s.store ∧ (readerSeen t s).banks = s.banks ∧ (readerSeen t s).configs = s.configs ∧
    (readerSeen t s).arms = s.arms ∧ (readerSeen t s).metering = s.metering ∧
    (readerSeen t s).dosing = s.dosing ∧ (readerSeen t s).permissive = s.permissive ∧
    (readerSeen t s).notes = s.notes ∧ (readerSeen t s).nodes = s.nodes ∧ (readerSeen t s).scans = s.scans ∧
    (readerSeen t s).acceptance = s.acceptance ∧ (readerSeen t s).cmdQueue = s.cmdQueue ∧
    (readerSeen t s).relayQueue = s.relayQueue ∧ (readerSeen t s).field = s.field ∧
    (readerSeen t s).reader = s.reader ∧ (readerSeen t s).up = s.up ∧ (readerSeen t s).freeCount = s.freeCount ∧
    (readerSeen t s).pending = s.pending := by
  unfold readerSeen
  (try dsimp only)
  (repeat' split) <;> (try dsimp only) <;> (repeat' split) <;> simp

/-- A selection (R11). -/
@[simp] theorem selectComp_leaves (s : State) (k : Nat) :
    (selectComp k s).clock = s.clock ∧ (selectComp k s).mode = s.mode ∧ (selectComp k s).status = s.status ∧
    (selectComp k s).store = s.store ∧ (selectComp k s).configs = s.configs ∧
    (selectComp k s).metering = s.metering ∧ (selectComp k s).dosing = s.dosing ∧
    (selectComp k s).permissive = s.permissive ∧ (selectComp k s).notes = s.notes ∧
    (selectComp k s).nodes = s.nodes ∧ (selectComp k s).scans = s.scans ∧
    (selectComp k s).acceptance = s.acceptance ∧ (selectComp k s).relayQueue = s.relayQueue ∧
    (selectComp k s).field = s.field ∧ (selectComp k s).reader = s.reader ∧ (selectComp k s).up = s.up ∧
    (selectComp k s).freeCount = s.freeCount ∧ (selectComp k s).pending = s.pending := by
  unfold selectComp
  (try dsimp only)
  (repeat' split) <;> (try dsimp only) <;> (repeat' split) <;> simp

/-- START offered to one arm (R14). -/
@[simp] theorem startOne_leaves (s : State) (n : ArmId) :
    (startOne n s).clock = s.clock ∧ (startOne n s).mode = s.mode ∧ (startOne n s).status = s.status ∧
    (startOne n s).store = s.store ∧ (startOne n s).banks = s.banks ∧ (startOne n s).configs = s.configs ∧
    (startOne n s).metering = s.metering ∧ (startOne n s).dosing = s.dosing ∧
    (startOne n s).permissive = s.permissive ∧ (startOne n s).notes = s.notes ∧ (startOne n s).nodes = s.nodes ∧
    (startOne n s).scans = s.scans ∧ (startOne n s).acceptance = s.acceptance ∧
    (startOne n s).relayQueue = s.relayQueue ∧ (startOne n s).field = s.field ∧
    (startOne n s).reader = s.reader ∧ (startOne n s).up = s.up ∧ (startOne n s).freeCount = s.freeCount ∧
    (startOne n s).pending = s.pending := by
  unfold startOne
  (try dsimp only)
  (repeat' split) <;> (try dsimp only) <;> (repeat' split) <;> simp

/-- START offered to every arm (R14). -/
@[simp] theorem forArms_startOne_leaves (s : State) :
    (forArms startOne s).clock = s.clock ∧ (forArms startOne s).mode = s.mode ∧
    (forArms startOne s).status = s.status ∧ (forArms startOne s).store = s.store ∧
    (forArms startOne s).banks = s.banks ∧ (forArms startOne s).configs = s.configs ∧
    (forArms startOne s).metering = s.metering ∧ (forArms startOne s).dosing = s.dosing ∧
    (forArms startOne s).permissive = s.permissive ∧ (forArms startOne s).notes = s.notes ∧
    (forArms startOne s).nodes = s.nodes ∧ (forArms startOne s).scans = s.scans ∧
    (forArms startOne s).acceptance = s.acceptance ∧ (forArms startOne s).relayQueue = s.relayQueue ∧
    (forArms startOne s).field = s.field ∧ (forArms startOne s).reader = s.reader ∧
    (forArms startOne s).up = s.up ∧ (forArms startOne s).freeCount = s.freeCount ∧
    (forArms startOne s).pending = s.pending := by
  refine ⟨?_, ?_, ?_, ?_, ?_, ?_, ?_, ?_, ?_, ?_, ?_, ?_, ?_, ?_, ?_, ?_, ?_, ?_, ?_⟩
  · exact forArms_keeps State.clock _ (fun n t => by (repeat' split) <;> simp) s
  · exact forArms_keeps State.mode _ (fun n t => by (repeat' split) <;> simp) s
  · exact forArms_keeps State.status _ (fun n t => by (repeat' split) <;> simp) s
  · exact forArms_keeps State.store _ (fun n t => by (repeat' split) <;> simp) s
  · exact forArms_keeps State.banks _ (fun n t => by (repeat' split) <;> simp) s
  · exact forArms_keeps State.configs _ (fun n t => by (repeat' split) <;> simp) s
  · exact forArms_keeps State.metering _ (fun n t => by (repeat' split) <;> simp) s
  · exact forArms_keeps State.dosing _ (fun n t => by (repeat' split) <;> simp) s
  · exact forArms_keeps State.permissive _ (fun n t => by (repeat' split) <;> simp) s
  · exact forArms_keeps State.notes _ (fun n t => by (repeat' split) <;> simp) s
  · exact forArms_keeps State.nodes _ (fun n t => by (repeat' split) <;> simp) s
  · exact forArms_keeps State.scans _ (fun n t => by (repeat' split) <;> simp) s
  · exact forArms_keeps State.acceptance _ (fun n t => by (repeat' split) <;> simp) s
  · exact forArms_keeps State.relayQueue _ (fun n t => by (repeat' split) <;> simp) s
  · exact forArms_keeps State.field _ (fun n t => by (repeat' split) <;> simp) s
  · exact forArms_keeps State.reader _ (fun n t => by (repeat' split) <;> simp) s
  · exact forArms_keeps State.up _ (fun n t => by (repeat' split) <;> simp) s
  · exact forArms_keeps State.freeCount _ (fun n t => by (repeat' split) <;> simp) s
  · exact forArms_keeps State.pending _ (fun n t => by (repeat' split) <;> simp) s

/-- START (R14). -/
@[simp] theorem startKey_leaves (s : State) :
    (startKey s).clock = s.clock ∧ (startKey s).mode = s.mode ∧ (startKey s).status = s.status ∧
    (startKey s).store = s.store ∧ (startKey s).banks = s.banks ∧ (startKey s).configs = s.configs ∧
    (startKey s).metering = s.metering ∧ (startKey s).dosing = s.dosing ∧ (startKey s).notes = s.notes ∧
    (startKey s).nodes = s.nodes ∧ (startKey s).scans = s.scans ∧ (startKey s).acceptance = s.acceptance ∧
    (startKey s).relayQueue = s.relayQueue ∧ (startKey s).field = s.field ∧ (startKey s).reader = s.reader ∧
    (startKey s).up = s.up ∧ (startKey s).freeCount = s.freeCount ∧ (startKey s).pending = s.pending := by
  unfold startKey
  (try dsimp only)
  (repeat' split) <;> (try dsimp only) <;> (repeat' split) <;> simp

/-- STOP (R15). -/
@[simp] theorem stopKey_leaves (s : State) :
    (stopKey s).clock = s.clock ∧ (stopKey s).mode = s.mode ∧ (stopKey s).status = s.status ∧
    (stopKey s).store = s.store ∧ (stopKey s).configs = s.configs ∧ (stopKey s).metering = s.metering ∧
    (stopKey s).dosing = s.dosing ∧ (stopKey s).permissive = s.permissive ∧ (stopKey s).notes = s.notes ∧
    (stopKey s).nodes = s.nodes ∧ (stopKey s).scans = s.scans ∧ (stopKey s).acceptance = s.acceptance ∧
    (stopKey s).relayQueue = s.relayQueue ∧ (stopKey s).field = s.field ∧ (stopKey s).reader = s.reader ∧
    (stopKey s).up = s.up ∧ (stopKey s).freeCount = s.freeCount ∧ (stopKey s).pending = s.pending := by
  unfold stopKey
  (try dsimp only)
  (repeat' split) <;> (try dsimp only) <;> (repeat' split) <;> simp

/-- END of a HALTED arm (R16). -/
@[simp] theorem endHalted_leaves (s : State) (n : ArmId) :
    (endHalted n s).clock = s.clock ∧ (endHalted n s).mode = s.mode ∧ (endHalted n s).store = s.store ∧
    (endHalted n s).configs = s.configs ∧ (endHalted n s).metering = s.metering ∧
    (endHalted n s).permissive = s.permissive ∧ (endHalted n s).notes = s.notes ∧
    (endHalted n s).nodes = s.nodes ∧ (endHalted n s).scans = s.scans ∧
    (endHalted n s).acceptance = s.acceptance ∧ (endHalted n s).cmdQueue = s.cmdQueue ∧
    (endHalted n s).relayQueue = s.relayQueue ∧ (endHalted n s).field = s.field ∧
    (endHalted n s).reader = s.reader ∧ (endHalted n s).up = s.up ∧ (endHalted n s).freeCount = s.freeCount ∧
    (endHalted n s).pending = s.pending := by
  unfold endHalted
  (try dsimp only)
  (repeat' split) <;> (try dsimp only) <;> (repeat' split) <;> simp

/-- END of every HALTED arm (R16). -/
@[simp] theorem forArms_endHalted_leaves (s : State) :
    (forArms endHalted s).clock = s.clock ∧ (forArms endHalted s).mode = s.mode ∧
    (forArms endHalted s).store = s.store ∧ (forArms endHalted s).configs = s.configs ∧
    (forArms endHalted s).metering = s.metering ∧ (forArms endHalted s).permissive = s.permissive ∧
    (forArms endHalted s).notes = s.notes ∧ (forArms endHalted s).nodes = s.nodes ∧
    (forArms endHalted s).scans = s.scans ∧ (forArms endHalted s).acceptance = s.acceptance ∧
    (forArms endHalted s).cmdQueue = s.cmdQueue ∧ (forArms endHalted s).relayQueue = s.relayQueue ∧
    (forArms endHalted s).field = s.field ∧ (forArms endHalted s).reader = s.reader ∧
    (forArms endHalted s).up = s.up ∧ (forArms endHalted s).freeCount = s.freeCount ∧
    (forArms endHalted s).pending = s.pending := by
  refine ⟨?_, ?_, ?_, ?_, ?_, ?_, ?_, ?_, ?_, ?_, ?_, ?_, ?_, ?_, ?_, ?_, ?_⟩
  · exact forArms_keeps State.clock _ (fun n t => by (repeat' split) <;> simp) s
  · exact forArms_keeps State.mode _ (fun n t => by (repeat' split) <;> simp) s
  · exact forArms_keeps State.store _ (fun n t => by (repeat' split) <;> simp) s
  · exact forArms_keeps State.configs _ (fun n t => by (repeat' split) <;> simp) s
  · exact forArms_keeps State.metering _ (fun n t => by (repeat' split) <;> simp) s
  · exact forArms_keeps State.permissive _ (fun n t => by (repeat' split) <;> simp) s
  · exact forArms_keeps State.notes _ (fun n t => by (repeat' split) <;> simp) s
  · exact forArms_keeps State.nodes _ (fun n t => by (repeat' split) <;> simp) s
  · exact forArms_keeps State.scans _ (fun n t => by (repeat' split) <;> simp) s
  · exact forArms_keeps State.acceptance _ (fun n t => by (repeat' split) <;> simp) s
  · exact forArms_keeps State.cmdQueue _ (fun n t => by (repeat' split) <;> simp) s
  · exact forArms_keeps State.relayQueue _ (fun n t => by (repeat' split) <;> simp) s
  · exact forArms_keeps State.field _ (fun n t => by (repeat' split) <;> simp) s
  · exact forArms_keeps State.reader _ (fun n t => by (repeat' split) <;> simp) s
  · exact forArms_keeps State.up _ (fun n t => by (repeat' split) <;> simp) s
  · exact forArms_keeps State.freeCount _ (fun n t => by (repeat' split) <;> simp) s
  · exact forArms_keeps State.pending _ (fun n t => by (repeat' split) <;> simp) s

/-- END (R16). -/
@[simp] theorem endKey_leaves (s : State) :
    (endKey s).clock = s.clock ∧ (endKey s).mode = s.mode ∧ (endKey s).store = s.store ∧
    (endKey s).configs = s.configs ∧ (endKey s).metering = s.metering ∧ (endKey s).permissive = s.permissive ∧
    (endKey s).nodes = s.nodes ∧ (endKey s).scans = s.scans ∧ (endKey s).acceptance = s.acceptance ∧
    (endKey s).relayQueue = s.relayQueue ∧ (endKey s).field = s.field ∧ (endKey s).reader = s.reader ∧
    (endKey s).up = s.up ∧ (endKey s).freeCount = s.freeCount ∧ (endKey s).pending = s.pending := by
  unfold endKey
  (try dsimp only)
  (repeat' split) <;> (try dsimp only) <;> (repeat' split) <;> simp

/-- A key overrun (R4). -/
@[simp] theorem overrunEvent_leaves (s : State) :
    (overrunEvent s).clock = s.clock ∧ (overrunEvent s).mode = s.mode ∧ (overrunEvent s).status = s.status ∧
    (overrunEvent s).store = s.store ∧ (overrunEvent s).banks = s.banks ∧ (overrunEvent s).configs = s.configs ∧
    (overrunEvent s).arms = s.arms ∧ (overrunEvent s).metering = s.metering ∧
    (overrunEvent s).dosing = s.dosing ∧ (overrunEvent s).permissive = s.permissive ∧
    (overrunEvent s).notes = s.notes ∧ (overrunEvent s).nodes = s.nodes ∧ (overrunEvent s).scans = s.scans ∧
    (overrunEvent s).acceptance = s.acceptance ∧ (overrunEvent s).cmdQueue = s.cmdQueue ∧
    (overrunEvent s).relayQueue = s.relayQueue ∧ (overrunEvent s).field = s.field ∧
    (overrunEvent s).reader = s.reader ∧ (overrunEvent s).up = s.up ∧ (overrunEvent s).freeCount = s.freeCount ∧
    (overrunEvent s).pending = s.pending := by
  unfold overrunEvent
  (try dsimp only)
  (repeat' split) <;> (try dsimp only) <;> (repeat' split) <;> simp

/-- A settled arm released by the abort (R20). -/
@[simp] theorem abortHalted_leaves (s : State) (n : ArmId) :
    (abortHalted n s).clock = s.clock ∧ (abortHalted n s).mode = s.mode ∧ (abortHalted n s).store = s.store ∧
    (abortHalted n s).configs = s.configs ∧ (abortHalted n s).metering = s.metering ∧
    (abortHalted n s).permissive = s.permissive ∧ (abortHalted n s).notes = s.notes ∧
    (abortHalted n s).nodes = s.nodes ∧ (abortHalted n s).scans = s.scans ∧
    (abortHalted n s).acceptance = s.acceptance ∧ (abortHalted n s).cmdQueue = s.cmdQueue ∧
    (abortHalted n s).relayQueue = s.relayQueue ∧ (abortHalted n s).field = s.field ∧
    (abortHalted n s).reader = s.reader ∧ (abortHalted n s).up = s.up ∧
    (abortHalted n s).freeCount = s.freeCount ∧ (abortHalted n s).pending = s.pending := by
  unfold abortHalted
  (try dsimp only)
  (repeat' split) <;> (try dsimp only) <;> (repeat' split) <;> simp

/-- Settled arms released by the abort (R20). -/
@[simp] theorem forArms_abortHalted_leaves (s : State) :
    (forArms abortHalted s).clock = s.clock ∧ (forArms abortHalted s).mode = s.mode ∧
    (forArms abortHalted s).store = s.store ∧ (forArms abortHalted s).configs = s.configs ∧
    (forArms abortHalted s).metering = s.metering ∧ (forArms abortHalted s).permissive = s.permissive ∧
    (forArms abortHalted s).notes = s.notes ∧ (forArms abortHalted s).nodes = s.nodes ∧
    (forArms abortHalted s).scans = s.scans ∧ (forArms abortHalted s).acceptance = s.acceptance ∧
    (forArms abortHalted s).cmdQueue = s.cmdQueue ∧ (forArms abortHalted s).relayQueue = s.relayQueue ∧
    (forArms abortHalted s).field = s.field ∧ (forArms abortHalted s).reader = s.reader ∧
    (forArms abortHalted s).up = s.up ∧ (forArms abortHalted s).freeCount = s.freeCount ∧
    (forArms abortHalted s).pending = s.pending := by
  refine ⟨?_, ?_, ?_, ?_, ?_, ?_, ?_, ?_, ?_, ?_, ?_, ?_, ?_, ?_, ?_, ?_, ?_⟩
  · exact forArms_keeps State.clock _ (fun n t => by (repeat' split) <;> simp) s
  · exact forArms_keeps State.mode _ (fun n t => by (repeat' split) <;> simp) s
  · exact forArms_keeps State.store _ (fun n t => by (repeat' split) <;> simp) s
  · exact forArms_keeps State.configs _ (fun n t => by (repeat' split) <;> simp) s
  · exact forArms_keeps State.metering _ (fun n t => by (repeat' split) <;> simp) s
  · exact forArms_keeps State.permissive _ (fun n t => by (repeat' split) <;> simp) s
  · exact forArms_keeps State.notes _ (fun n t => by (repeat' split) <;> simp) s
  · exact forArms_keeps State.nodes _ (fun n t => by (repeat' split) <;> simp) s
  · exact forArms_keeps State.scans _ (fun n t => by (repeat' split) <;> simp) s
  · exact forArms_keeps State.acceptance _ (fun n t => by (repeat' split) <;> simp) s
  · exact forArms_keeps State.cmdQueue _ (fun n t => by (repeat' split) <;> simp) s
  · exact forArms_keeps State.relayQueue _ (fun n t => by (repeat' split) <;> simp) s
  · exact forArms_keeps State.field _ (fun n t => by (repeat' split) <;> simp) s
  · exact forArms_keeps State.reader _ (fun n t => by (repeat' split) <;> simp) s
  · exact forArms_keeps State.up _ (fun n t => by (repeat' split) <;> simp) s
  · exact forArms_keeps State.freeCount _ (fun n t => by (repeat' split) <;> simp) s
  · exact forArms_keeps State.pending _ (fun n t => by (repeat' split) <;> simp) s

/-- A cause offered to every arm (R20). -/
@[simp] theorem forArms_offerCause_leaves (s : State) (c : Cause) :
    (forArms (fun n t => offerCause n c t) s).clock = s.clock ∧
    (forArms (fun n t => offerCause n c t) s).mode = s.mode ∧
    (forArms (fun n t => offerCause n c t) s).status = s.status ∧
    (forArms (fun n t => offerCause n c t) s).store = s.store ∧
    (forArms (fun n t => offerCause n c t) s).banks = s.banks ∧
    (forArms (fun n t => offerCause n c t) s).configs = s.configs ∧
    (forArms (fun n t => offerCause n c t) s).metering = s.metering ∧
    (forArms (fun n t => offerCause n c t) s).dosing = s.dosing ∧
    (forArms (fun n t => offerCause n c t) s).permissive = s.permissive ∧
    (forArms (fun n t => offerCause n c t) s).notes = s.notes ∧
    (forArms (fun n t => offerCause n c t) s).nodes = s.nodes ∧
    (forArms (fun n t => offerCause n c t) s).scans = s.scans ∧
    (forArms (fun n t => offerCause n c t) s).acceptance = s.acceptance ∧
    (forArms (fun n t => offerCause n c t) s).relayQueue = s.relayQueue ∧
    (forArms (fun n t => offerCause n c t) s).field = s.field ∧
    (forArms (fun n t => offerCause n c t) s).reader = s.reader ∧
    (forArms (fun n t => offerCause n c t) s).up = s.up ∧
    (forArms (fun n t => offerCause n c t) s).freeCount = s.freeCount ∧
    (forArms (fun n t => offerCause n c t) s).pending = s.pending := by
  refine ⟨?_, ?_, ?_, ?_, ?_, ?_, ?_, ?_, ?_, ?_, ?_, ?_, ?_, ?_, ?_, ?_, ?_, ?_, ?_⟩
  · exact forArms_keeps State.clock _ (fun n t => by (repeat' split) <;> simp) s
  · exact forArms_keeps State.mode _ (fun n t => by (repeat' split) <;> simp) s
  · exact forArms_keeps State.status _ (fun n t => by (repeat' split) <;> simp) s
  · exact forArms_keeps State.store _ (fun n t => by (repeat' split) <;> simp) s
  · exact forArms_keeps State.banks _ (fun n t => by (repeat' split) <;> simp) s
  · exact forArms_keeps State.configs _ (fun n t => by (repeat' split) <;> simp) s
  · exact forArms_keeps State.metering _ (fun n t => by (repeat' split) <;> simp) s
  · exact forArms_keeps State.dosing _ (fun n t => by (repeat' split) <;> simp) s
  · exact forArms_keeps State.permissive _ (fun n t => by (repeat' split) <;> simp) s
  · exact forArms_keeps State.notes _ (fun n t => by (repeat' split) <;> simp) s
  · exact forArms_keeps State.nodes _ (fun n t => by (repeat' split) <;> simp) s
  · exact forArms_keeps State.scans _ (fun n t => by (repeat' split) <;> simp) s
  · exact forArms_keeps State.acceptance _ (fun n t => by (repeat' split) <;> simp) s
  · exact forArms_keeps State.relayQueue _ (fun n t => by (repeat' split) <;> simp) s
  · exact forArms_keeps State.field _ (fun n t => by (repeat' split) <;> simp) s
  · exact forArms_keeps State.reader _ (fun n t => by (repeat' split) <;> simp) s
  · exact forArms_keeps State.up _ (fun n t => by (repeat' split) <;> simp) s
  · exact forArms_keeps State.freeCount _ (fun n t => by (repeat' split) <;> simp) s
  · exact forArms_keeps State.pending _ (fun n t => by (repeat' split) <;> simp) s

/-- SESSION ABORT of an OPEN session (R20). -/
@[simp] theorem abortOpen_leaves (s : State) :
    (abortOpen s).clock = s.clock ∧ (abortOpen s).mode = s.mode ∧ (abortOpen s).store = s.store ∧
    (abortOpen s).configs = s.configs ∧ (abortOpen s).metering = s.metering ∧
    (abortOpen s).permissive = s.permissive ∧ (abortOpen s).nodes = s.nodes ∧ (abortOpen s).scans = s.scans ∧
    (abortOpen s).acceptance = s.acceptance ∧ (abortOpen s).relayQueue = s.relayQueue ∧
    (abortOpen s).field = s.field ∧ (abortOpen s).reader = s.reader ∧ (abortOpen s).up = s.up ∧
    (abortOpen s).freeCount = s.freeCount ∧ (abortOpen s).pending = s.pending := by
  unfold abortOpen
  (try dsimp only)
  (repeat' split) <;> (try dsimp only) <;> (repeat' split) <;> simp

/-- The idle limit (R17). -/
@[simp] theorem idleExpiry_leaves (s : State) :
    (idleExpiry s).clock = s.clock ∧ (idleExpiry s).mode = s.mode ∧ (idleExpiry s).status = s.status ∧
    (idleExpiry s).store = s.store ∧ (idleExpiry s).banks = s.banks ∧ (idleExpiry s).configs = s.configs ∧
    (idleExpiry s).arms = s.arms ∧ (idleExpiry s).metering = s.metering ∧ (idleExpiry s).dosing = s.dosing ∧
    (idleExpiry s).permissive = s.permissive ∧ (idleExpiry s).nodes = s.nodes ∧ (idleExpiry s).scans = s.scans ∧
    (idleExpiry s).acceptance = s.acceptance ∧ (idleExpiry s).cmdQueue = s.cmdQueue ∧
    (idleExpiry s).relayQueue = s.relayQueue ∧ (idleExpiry s).field = s.field ∧
    (idleExpiry s).reader = s.reader ∧ (idleExpiry s).up = s.up ∧ (idleExpiry s).freeCount = s.freeCount ∧
    (idleExpiry s).pending = s.pending := by
  unfold idleExpiry
  (try dsimp only)
  (repeat' split) <;> (try dsimp only) <;> (repeat' split) <;> simp

/-- The reader node LOST (R10). -/
@[simp] theorem readerNodeLost_leaves (s : State) (t : Tag) :
    (readerNodeLost t s).clock = s.clock ∧ (readerNodeLost t s).status = s.status ∧
    (readerNodeLost t s).store = s.store ∧ (readerNodeLost t s).banks = s.banks ∧
    (readerNodeLost t s).configs = s.configs ∧ (readerNodeLost t s).arms = s.arms ∧
    (readerNodeLost t s).metering = s.metering ∧ (readerNodeLost t s).dosing = s.dosing ∧
    (readerNodeLost t s).nodes = s.nodes ∧ (readerNodeLost t s).scans = s.scans ∧
    (readerNodeLost t s).acceptance = s.acceptance ∧ (readerNodeLost t s).cmdQueue = s.cmdQueue ∧
    (readerNodeLost t s).relayQueue = s.relayQueue ∧ (readerNodeLost t s).field = s.field ∧
    (readerNodeLost t s).reader = s.reader ∧ (readerNodeLost t s).up = s.up ∧
    (readerNodeLost t s).freeCount = s.freeCount ∧ (readerNodeLost t s).pending = s.pending := by
  unfold readerNodeLost
  (try dsimp only)
  (repeat' split) <;> (try dsimp only) <;> (repeat' split) <;> simp

/-- The end of a compile (R131). -/
@[simp] theorem completeCompile_leaves (s : State) (i : Nat) :
    (completeCompile i s).clock = s.clock ∧ (completeCompile i s).store = s.store ∧
    (completeCompile i s).banks = s.banks ∧ (completeCompile i s).configs = s.configs ∧
    (completeCompile i s).arms = s.arms ∧ (completeCompile i s).metering = s.metering ∧
    (completeCompile i s).dosing = s.dosing ∧ (completeCompile i s).nodes = s.nodes ∧
    (completeCompile i s).scans = s.scans ∧ (completeCompile i s).acceptance = s.acceptance ∧
    (completeCompile i s).relayQueue = s.relayQueue ∧ (completeCompile i s).field = s.field ∧
    (completeCompile i s).reader = s.reader ∧ (completeCompile i s).up = s.up ∧
    (completeCompile i s).freeCount = s.freeCount ∧ (completeCompile i s).pending = s.pending := by
  unfold completeCompile
  (try dsimp only)
  (repeat' split) <;> (try dsimp only) <;> (repeat' split) <;> simp

/-- A page of the compile (R130). -/
@[simp] theorem writeNextPage_leaves (s : State) :
    (writeNextPage s).clock = s.clock ∧ (writeNextPage s).store = s.store ∧ (writeNextPage s).banks = s.banks ∧
    (writeNextPage s).configs = s.configs ∧ (writeNextPage s).arms = s.arms ∧
    (writeNextPage s).metering = s.metering ∧ (writeNextPage s).dosing = s.dosing ∧
    (writeNextPage s).nodes = s.nodes ∧ (writeNextPage s).scans = s.scans ∧
    (writeNextPage s).acceptance = s.acceptance ∧ (writeNextPage s).relayQueue = s.relayQueue ∧
    (writeNextPage s).field = s.field ∧ (writeNextPage s).reader = s.reader ∧ (writeNextPage s).up = s.up ∧
    (writeNextPage s).freeCount = s.freeCount ∧ (writeNextPage s).pending = s.pending := by
  unfold writeNextPage
  (try dsimp only)
  (repeat' split) <;> (try dsimp only) <;> (repeat' split) <;> simp

/-- A key in OPEN. -/
@[simp] theorem openKey_leaves (s : State) (k : Key) :
    (openKey k s).clock = s.clock ∧ (openKey k s).mode = s.mode ∧ (openKey k s).store = s.store ∧
    (openKey k s).configs = s.configs ∧ (openKey k s).metering = s.metering ∧ (openKey k s).nodes = s.nodes ∧
    (openKey k s).scans = s.scans ∧ (openKey k s).acceptance = s.acceptance ∧
    (openKey k s).relayQueue = s.relayQueue ∧ (openKey k s).field = s.field ∧ (openKey k s).reader = s.reader ∧
    (openKey k s).up = s.up ∧ (openKey k s).freeCount = s.freeCount ∧ (openKey k s).pending = s.pending := by
  unfold openKey
  (try dsimp only)
  (repeat' split) <;> (try dsimp only) <;> (repeat' split) <;> simp

/-- The start of a DRIVE to a valve (R171). -/
@[simp] theorem markDrive_leaves (s : State) (t : Tag) :
    (markDrive t s).clock = s.clock ∧ (markDrive t s).mode = s.mode ∧ (markDrive t s).status = s.status ∧
    (markDrive t s).session = s.session ∧ (markDrive t s).store = s.store ∧ (markDrive t s).banks = s.banks ∧
    (markDrive t s).configs = s.configs ∧ (markDrive t s).arms = s.arms ∧
    (markDrive t s).metering = s.metering ∧ (markDrive t s).dosing = s.dosing ∧
    (markDrive t s).permissive = s.permissive ∧ (markDrive t s).notes = s.notes ∧
    (markDrive t s).scans = s.scans ∧ (markDrive t s).acceptance = s.acceptance ∧
    (markDrive t s).cmdQueue = s.cmdQueue ∧ (markDrive t s).relayQueue = s.relayQueue ∧
    (markDrive t s).field = s.field ∧ (markDrive t s).reader = s.reader ∧ (markDrive t s).up = s.up ∧
    (markDrive t s).freeCount = s.freeCount ∧ (markDrive t s).pending = s.pending := by
  unfold markDrive
  (try dsimp only)
  (repeat' split) <;> (try dsimp only) <;> (repeat' split) <;> simp

/-- The start of an exchange (R167). -/
@[simp] theorem beginExchange_leaves (s : State) (c : Source) (f : Frame) :
    (beginExchange c f s).clock = s.clock ∧ (beginExchange c f s).mode = s.mode ∧
    (beginExchange c f s).status = s.status ∧ (beginExchange c f s).session = s.session ∧
    (beginExchange c f s).store = s.store ∧ (beginExchange c f s).banks = s.banks ∧
    (beginExchange c f s).configs = s.configs ∧ (beginExchange c f s).arms = s.arms ∧
    (beginExchange c f s).metering = s.metering ∧ (beginExchange c f s).dosing = s.dosing ∧
    (beginExchange c f s).permissive = s.permissive ∧ (beginExchange c f s).notes = s.notes ∧
    (beginExchange c f s).nodes = s.nodes ∧ (beginExchange c f s).scans = s.scans ∧
    (beginExchange c f s).acceptance = s.acceptance ∧ (beginExchange c f s).cmdQueue = s.cmdQueue ∧
    (beginExchange c f s).relayQueue = s.relayQueue ∧ (beginExchange c f s).reader = s.reader ∧
    (beginExchange c f s).up = s.up ∧ (beginExchange c f s).freeCount = s.freeCount ∧
    (beginExchange c f s).pending = s.pending := by
  unfold beginExchange
  (try dsimp only)
  (repeat' split) <;> (try dsimp only) <;> (repeat' split) <;> simp

/-- A DRIVE put back at the head (R170). -/
@[simp] theorem putBack_leaves (s : State) (c : Cmd) :
    (putBack c s).clock = s.clock ∧ (putBack c s).mode = s.mode ∧ (putBack c s).status = s.status ∧
    (putBack c s).session = s.session ∧ (putBack c s).store = s.store ∧ (putBack c s).banks = s.banks ∧
    (putBack c s).configs = s.configs ∧ (putBack c s).arms = s.arms ∧ (putBack c s).metering = s.metering ∧
    (putBack c s).dosing = s.dosing ∧ (putBack c s).permissive = s.permissive ∧ (putBack c s).notes = s.notes ∧
    (putBack c s).nodes = s.nodes ∧ (putBack c s).scans = s.scans ∧ (putBack c s).acceptance = s.acceptance ∧
    (putBack c s).relayQueue = s.relayQueue ∧ (putBack c s).field = s.field ∧ (putBack c s).reader = s.reader ∧
    (putBack c s).up = s.up ∧ (putBack c s).freeCount = s.freeCount ∧ (putBack c s).pending = s.pending := by
  unfold putBack
  (try dsimp only)
  (repeat' split) <;> (try dsimp only) <;> (repeat' split) <;> simp

/-- The line is free (R167). -/
@[simp] theorem freeLine_leaves (s : State) :
    (freeLine s).clock = s.clock ∧ (freeLine s).mode = s.mode ∧ (freeLine s).status = s.status ∧
    (freeLine s).session = s.session ∧ (freeLine s).store = s.store ∧ (freeLine s).banks = s.banks ∧
    (freeLine s).configs = s.configs ∧ (freeLine s).arms = s.arms ∧ (freeLine s).metering = s.metering ∧
    (freeLine s).dosing = s.dosing ∧ (freeLine s).permissive = s.permissive ∧ (freeLine s).notes = s.notes ∧
    (freeLine s).nodes = s.nodes ∧ (freeLine s).scans = s.scans ∧ (freeLine s).acceptance = s.acceptance ∧
    (freeLine s).cmdQueue = s.cmdQueue ∧ (freeLine s).relayQueue = s.relayQueue ∧
    (freeLine s).reader = s.reader ∧ (freeLine s).up = s.up ∧ (freeLine s).freeCount = s.freeCount ∧
    (freeLine s).pending = s.pending := by
  unfold freeLine
  (try dsimp only)
  (repeat' split) <;> (try dsimp only) <;> (repeat' split) <;> simp

/-- The outcome of a valve DRIVE (R170). -/
@[simp] theorem driveOutcome_leaves (s : State) (n : ArmId) (t : Tag) (p : Position) (r : Nat) (x : Ending) :
    (driveOutcome n t p r x s).clock = s.clock ∧ (driveOutcome n t p r x s).mode = s.mode ∧
    (driveOutcome n t p r x s).store = s.store ∧ (driveOutcome n t p r x s).configs = s.configs ∧
    (driveOutcome n t p r x s).metering = s.metering ∧ (driveOutcome n t p r x s).nodes = s.nodes ∧
    (driveOutcome n t p r x s).scans = s.scans ∧ (driveOutcome n t p r x s).acceptance = s.acceptance ∧
    (driveOutcome n t p r x s).relayQueue = s.relayQueue ∧ (driveOutcome n t p r x s).field = s.field ∧
    (driveOutcome n t p r x s).reader = s.reader ∧ (driveOutcome n t p r x s).up = s.up ∧
    (driveOutcome n t p r x s).freeCount = s.freeCount ∧ (driveOutcome n t p r x s).pending = s.pending := by
  unfold driveOutcome
  (try dsimp only)
  (repeat' split) <;> (try dsimp only) <;> (repeat' split) <;> simp

/-- The answer to a relayed frame (R173). -/
@[simp] theorem relayOutcome_leaves (s : State) (e : Exchange) (x : Ending) :
    (relayOutcome e x s).clock = s.clock ∧ (relayOutcome e x s).mode = s.mode ∧
    (relayOutcome e x s).session = s.session ∧ (relayOutcome e x s).store = s.store ∧
    (relayOutcome e x s).banks = s.banks ∧ (relayOutcome e x s).configs = s.configs ∧
    (relayOutcome e x s).arms = s.arms ∧ (relayOutcome e x s).metering = s.metering ∧
    (relayOutcome e x s).dosing = s.dosing ∧ (relayOutcome e x s).permissive = s.permissive ∧
    (relayOutcome e x s).notes = s.notes ∧ (relayOutcome e x s).nodes = s.nodes ∧
    (relayOutcome e x s).scans = s.scans ∧ (relayOutcome e x s).acceptance = s.acceptance ∧
    (relayOutcome e x s).cmdQueue = s.cmdQueue ∧ (relayOutcome e x s).relayQueue = s.relayQueue ∧
    (relayOutcome e x s).field = s.field ∧ (relayOutcome e x s).reader = s.reader ∧
    (relayOutcome e x s).freeCount = s.freeCount ∧ (relayOutcome e x s).pending = s.pending := by
  unfold relayOutcome
  (try dsimp only)
  (repeat' split) <;> (try dsimp only) <;> (repeat' split) <;> simp

/-- The counts of a ROLL (R191). -/
@[simp] theorem bumpRoll_leaves (s : State) (r d : Nat) :
    (bumpRoll r d s).clock = s.clock ∧ (bumpRoll r d s).mode = s.mode ∧
    (bumpRoll r d s).status = s.status ∧ (bumpRoll r d s).session = s.session ∧
    (bumpRoll r d s).store = s.store ∧ (bumpRoll r d s).banks = s.banks ∧
    (bumpRoll r d s).configs = s.configs ∧ (bumpRoll r d s).arms = s.arms ∧
    (bumpRoll r d s).metering = s.metering ∧ (bumpRoll r d s).dosing = s.dosing ∧
    (bumpRoll r d s).permissive = s.permissive ∧ (bumpRoll r d s).notes = s.notes ∧
    (bumpRoll r d s).nodes = s.nodes ∧ (bumpRoll r d s).scans = s.scans ∧
    (bumpRoll r d s).acceptance = s.acceptance ∧ (bumpRoll r d s).cmdQueue = s.cmdQueue ∧
    (bumpRoll r d s).relayQueue = s.relayQueue ∧ (bumpRoll r d s).reader = s.reader ∧
    (bumpRoll r d s).up = s.up ∧ (bumpRoll r d s).freeCount = s.freeCount ∧
    (bumpRoll r d s).pending = s.pending := by
  unfold bumpRoll
  (try dsimp only)
  (repeat' split) <;> (try dsimp only) <;> (repeat' split) <;> simp

/-- The counters of the field line (R167). -/
@[simp] theorem countEnding_leaves (s : State) (x : Ending) :
    (countEnding x s).clock = s.clock ∧ (countEnding x s).mode = s.mode ∧
    (countEnding x s).session = s.session ∧ (countEnding x s).store = s.store ∧
    (countEnding x s).banks = s.banks ∧ (countEnding x s).configs = s.configs ∧
    (countEnding x s).arms = s.arms ∧ (countEnding x s).metering = s.metering ∧
    (countEnding x s).dosing = s.dosing ∧ (countEnding x s).permissive = s.permissive ∧
    (countEnding x s).notes = s.notes ∧ (countEnding x s).nodes = s.nodes ∧ (countEnding x s).scans = s.scans ∧
    (countEnding x s).acceptance = s.acceptance ∧ (countEnding x s).cmdQueue = s.cmdQueue ∧
    (countEnding x s).relayQueue = s.relayQueue ∧ (countEnding x s).field = s.field ∧
    (countEnding x s).reader = s.reader ∧ (countEnding x s).up = s.up ∧
    (countEnding x s).freeCount = s.freeCount ∧ (countEnding x s).pending = s.pending := by
  unfold countEnding
  (try dsimp only)
  (repeat' split) <;> (try dsimp only) <;> (repeat' split) <;> simp

/-- The effect of a read (R198). -/
@[simp] theorem readEffect_leaves (s : State) (a : ObjAddr) :
    (readEffect a s).clock = s.clock ∧ (readEffect a s).mode = s.mode ∧ (readEffect a s).session = s.session ∧
    (readEffect a s).store = s.store ∧ (readEffect a s).banks = s.banks ∧ (readEffect a s).configs = s.configs ∧
    (readEffect a s).arms = s.arms ∧ (readEffect a s).metering = s.metering ∧
    (readEffect a s).dosing = s.dosing ∧ (readEffect a s).permissive = s.permissive ∧
    (readEffect a s).notes = s.notes ∧ (readEffect a s).nodes = s.nodes ∧ (readEffect a s).scans = s.scans ∧
    (readEffect a s).acceptance = s.acceptance ∧ (readEffect a s).cmdQueue = s.cmdQueue ∧
    (readEffect a s).relayQueue = s.relayQueue ∧ (readEffect a s).field = s.field ∧
    (readEffect a s).reader = s.reader ∧ (readEffect a s).up = s.up ∧ (readEffect a s).freeCount = s.freeCount ∧
    (readEffect a s).pending = s.pending := by
  unfold readEffect
  (try dsimp only)
  (repeat' split) <;> (try dsimp only) <;> (repeat' split) <;> simp

/-- The closing response of a ROLL (R192). -/
@[simp] theorem closeRoll_leaves (s : State) (a : ObjAddr) (r d : Nat) :
    (closeRoll a r d s).clock = s.clock ∧ (closeRoll a r d s).mode = s.mode ∧
    (closeRoll a r d s).session = s.session ∧ (closeRoll a r d s).store = s.store ∧
    (closeRoll a r d s).banks = s.banks ∧ (closeRoll a r d s).configs = s.configs ∧
    (closeRoll a r d s).arms = s.arms ∧ (closeRoll a r d s).metering = s.metering ∧
    (closeRoll a r d s).dosing = s.dosing ∧ (closeRoll a r d s).permissive = s.permissive ∧
    (closeRoll a r d s).notes = s.notes ∧ (closeRoll a r d s).nodes = s.nodes ∧
    (closeRoll a r d s).scans = s.scans ∧ (closeRoll a r d s).acceptance = s.acceptance ∧
    (closeRoll a r d s).cmdQueue = s.cmdQueue ∧ (closeRoll a r d s).relayQueue = s.relayQueue ∧
    (closeRoll a r d s).field = s.field ∧ (closeRoll a r d s).reader = s.reader ∧
    (closeRoll a r d s).freeCount = s.freeCount ∧ (closeRoll a r d s).pending = s.pending := by
  unfold closeRoll
  (try dsimp only)
  (repeat' split) <;> (try dsimp only) <;> (repeat' split) <;> simp

/-- A QUERY (R189). -/
@[simp] theorem serveQuery_leaves (s : State) (a : ObjAddr) (p : List Byte) :
    (serveQuery a p s).clock = s.clock ∧ (serveQuery a p s).mode = s.mode ∧
    (serveQuery a p s).session = s.session ∧ (serveQuery a p s).store = s.store ∧
    (serveQuery a p s).banks = s.banks ∧ (serveQuery a p s).configs = s.configs ∧
    (serveQuery a p s).arms = s.arms ∧ (serveQuery a p s).metering = s.metering ∧
    (serveQuery a p s).dosing = s.dosing ∧ (serveQuery a p s).permissive = s.permissive ∧
    (serveQuery a p s).notes = s.notes ∧ (serveQuery a p s).nodes = s.nodes ∧
    (serveQuery a p s).scans = s.scans ∧ (serveQuery a p s).acceptance = s.acceptance ∧
    (serveQuery a p s).cmdQueue = s.cmdQueue ∧ (serveQuery a p s).relayQueue = s.relayQueue ∧
    (serveQuery a p s).field = s.field ∧ (serveQuery a p s).reader = s.reader ∧
    (serveQuery a p s).freeCount = s.freeCount ∧ (serveQuery a p s).pending = s.pending := by
  unfold serveQuery
  (try dsimp only)
  (repeat' split) <;> (try dsimp only) <;> (repeat' split) <;> simp

end Sys2Proof.Machine
end

