-- ==== Sys2Proof/Laws/Halts.lean ====
section
/-! SUPPORT. What commanding a valve and offering a halt cause make of every arm record. -/

namespace Sys2Proof.Machine

theorem arm_of_arms {s t : State} (h : s.arms = t.arms) (m : ArmId) : s.arm m = t.arm m := by
  simp [State.arm, h]

theorem now_of_clock {s t : State} (h : s.clock = t.clock) : s.now = t.now := by simp [State.now, h]

theorem ahead_of_clock {s t : State} (h : s.clock = t.clock) (k : Nat) : s.ahead k = t.ahead k := by
  simp [State.ahead, h]

theorem arm_modHeld (s : State) (n m : ArmId) (f : Comp → Comp) : (s.modHeld n f).arm m = s.arm m :=
  arm_of_arms (by simp) m

/-- A commanded position (R47). -/
theorem commandValve_arm (n m : ArmId) (p : Position) (s : State) :
    (commandValve n p s).arm m =
      if m = n then (s.arm n).commandPosition p s.now (s.ahead 15000) else s.arm m := by
  unfold commandValve
  rw [arm_of_arms (t := s.modArm n fun a => a.commandPosition p s.now (s.ahead 15000)) (by simp)]
  exact arm_modArm s n m _

/-- The arm record after a halt (R58). -/
def Arm.halt (a : Arm) (now settleAt haltAt : Ms) : Arm :=
  { (if a.state.isMoving then a.commandPosition .closed now settleAt else a) with
    state := .halted, haltEntry := some now, haltDeadline := some haltAt }

theorem haltArm_arm (n m : ArmId) (s : State) :
    (haltArm n s).arm m = if m = n then (s.arm n).halt s.now (s.ahead 15000) (s.ahead 600000) else s.arm m := by
  unfold haltArm
  simp only [arm_modHeld, arm_modArm]
  by_cases hm : m = n
  · subst hm
    by_cases h : (s.armState m).isMoving = true
    · have h' : (s.arm m).state.isMoving = true := h
      simp [Arm.halt, h, h', commandValve_arm, State.now, State.ahead]
    · have h' : ¬(s.arm m).state.isMoving = true := h
      simp [Arm.halt, h, h']
  · by_cases h : (s.armState n).isMoving = true
    · simp [hm, h, commandValve_arm]
    · simp [hm, h]

/-- The arm record after a cause is offered (R57). -/
def Arm.offered (a : Arm) (c : Cause) (now settleAt haltAt : Ms) : Arm :=
  if a.state.isActive then ({ a with causes := a.causes.put c true } : Arm).halt now settleAt haltAt
  else if a.state = .halted then { a with causes := a.causes.put c true }
  else a

theorem addCause_arm (n m : ArmId) (c : Cause) (s : State) :
    (addCause n c s).arm m =
      if m = n then { s.arm n with causes := (s.arm n).causes.put c true } else s.arm m := by
  unfold addCause
  by_cases h : c = .permissive <;> simp only [h, if_true, if_false, arm_modHeld, arm_modArm]

theorem offerCause_arm (n m : ArmId) (c : Cause) (s : State) :
    (offerCause n c s).arm m =
      if m = n then (s.arm n).offered c s.now (s.ahead 15000) (s.ahead 600000) else s.arm m := by
  have hn : (addCause n c s).now = s.now := now_of_clock (by simp)
  have ha : ∀ k, (addCause n c s).ahead k = s.ahead k := ahead_of_clock (by simp)
  unfold offerCause Arm.offered State.armState
  by_cases h1 : (s.arm n).state.isActive = true
  · by_cases hm : m = n
    · subst hm; simp [h1, haltArm_arm, addCause_arm, hn, ha]
    · simp [h1, hm, haltArm_arm, addCause_arm]
  · by_cases h2 : (s.arm n).state = .halted
    · by_cases hm : m = n
      · subst hm; simp only [if_neg h1, if_pos h2, addCause_arm, if_true]
      · simp only [if_neg h1, if_pos h2, addCause_arm, if_neg hm]
    · by_cases hm : m = n
      · subst hm; simp [h1, h2]
      · simp [h1, h2, hm]

/-- A step taken for each arm that changes only its own arm record, by a rule that the clock and its own record
fix, changes each arm record by that rule. -/
theorem forArms_arm (f : ArmId → State → State) (g : Arm → Clock → Arm)
    (hc : ∀ n s, (f n s).clock = s.clock)
    (ha : ∀ n m s, (f n s).arm m = if m = n then g (s.arm n) s.clock else s.arm m) (m : ArmId) (s : State) :
    (forArms f s).arm m = g (s.arm m) s.clock := by
  unfold forArms
  cases m <;> simp [ha, hc]

theorem offerMoving_arm (c : Cause) (m : ArmId) (s : State) :
    (offerMoving c s).arm m =
      if (s.arm m).state.isMoving then (s.arm m).offered c s.now (s.ahead 15000) (s.ahead 600000)
      else s.arm m := by
  unfold offerMoving
  refine forArms_arm _
    (fun a k =>
      if a.state.isMoving then
        a.offered c k.ms (k.ms + BitVec.ofNat 32 15000) (k.ms + BitVec.ofNat 32 600000)
      else a) ?_ ?_ m s
  · intro n s; split <;> simp
  · intro n m s
    by_cases h : (s.armState n).isMoving = true
    · have h' : (s.arm n).state.isMoving = true := h
      simp [h, h', offerCause_arm, State.now, State.ahead]
    · have h' : ¬(s.arm n).state.isMoving = true := h
      by_cases hm : m = n
      · subst hm; simp [h, h']
      · simp [h, hm]

theorem offerActive_arm (c : Cause) (m : ArmId) (s : State) :
    (offerActive c s).arm m =
      if (s.arm m).state.isActive then (s.arm m).offered c s.now (s.ahead 15000) (s.ahead 600000)
      else s.arm m := by
  unfold offerActive
  refine forArms_arm _
    (fun a k =>
      if a.state.isActive then
        a.offered c k.ms (k.ms + BitVec.ofNat 32 15000) (k.ms + BitVec.ofNat 32 600000)
      else a) ?_ ?_ m s
  · intro n s; split <;> simp
  · intro n m s
    by_cases h : (s.armState n).isActive = true
    · have h' : (s.arm n).state.isActive = true := h
      simp [h, h', offerCause_arm, State.now, State.ahead]
    · have h' : ¬(s.arm n).state.isActive = true := h
      by_cases hm : m = n
      · subst hm; simp [h, h']
      · simp [h, hm]

theorem isActive_of_isMoving {x : ArmState} (h : x.isMoving = true) : x.isActive = true := by
  cases x <;> simp_all [ArmState.isMoving, ArmState.isActive]

end Sys2Proof.Machine
end

