-- ==== Sys2Proof/Laws/Host.lean ====
section
/-! SUPPORT. How a whole frame is taken: on the upstream line from a state that can hear, on the field line from one
that listens; which exchange awaits a response; and a response formed while the outgoing list has room. -/

namespace Sys2Proof.Machine

/-- A response formed with room in the outgoing list joins it (R185, R187). -/
theorem respond_of_room (tag : Tag) (addr : ObjAddr) (r : Reply) (s : State) (h : s.up.outgoing.length < 8) :
    respond tag addr r s = s.answers r.kind tag addr (r.payload s.attention) := by
  simp [respond, pushResponse, h, State.answers, replyFrame, State.modUp]

/-- A frame to tag 0 heard whole is served after the silence monitor has taken it. -/
theorem receiveUpstream_of_canHear (f : Frame) (take : State → State) (s : State) (h : s.canHear)
    (hp : f.payload.length ≤ 48) : receiveUpstream f take s = take s.heard := by
  obtain ⟨h1, h2, h3, h4⟩ := h
  simp [receiveUpstream, payloadFits, hp, h1, h2, h3, upHeard, State.modUp, State.heard, State.now]

theorem ifListOpen_of_room (take : State → State) (s : State) (h : s.up.outgoing.length < 8) :
    ifListOpen take s = take s := by
  simp [ifListOpen, Nat.not_le.2 h]

theorem hostSet_of_canHear (addr : ObjAddr) (payload : List Byte) (s : State) (h : s.canHear)
    (hp : payload.length ≤ 48) : hostSet addr payload s = serveSet addr payload s.heardHost := by
  have h4 := h.2.2.2
  rw [hostSet, receiveUpstream_of_canHear _ _ _ h hp]
  exact ifListOpen_of_room _ _ h4

theorem hostQuery_of_canHear (addr : ObjAddr) (payload : List Byte) (s : State) (h : s.canHear)
    (hp : payload.length ≤ 48) : hostQuery addr payload s = serveQuery addr payload s.heardHost := by
  have h4 := h.2.2.2
  rw [hostQuery, receiveUpstream_of_canHear _ _ _ h hp]
  exact ifListOpen_of_room _ _ h4

/-- A SET of an object of the map, its rule's outcome known: the response is formed after it (R189). -/
theorem hostSet_reply (addr : ObjAddr) (payload : List Byte) (s t : State) (o : Obj) (r : Reply) (h : s.canHear)
    (hp : payload.length ≤ 48) (ho : objectAt addr = some o) (hr : setObject o payload s.heardHost = (t, r))
    (ht : t.up.outgoing.length < 8) :
    hostSet addr payload s = t.answers r.kind 0 addr (r.payload t.attention) := by
  rw [hostSet_of_canHear _ _ _ h hp]
  simp only [serveSet, ho, hr]
  exact respond_of_room _ _ _ _ ht

/-- A SET of an address outside the map (R189). -/
theorem hostSet_noObject (addr : ObjAddr) (payload : List Byte) (s : State) (h : s.canHear)
    (hp : payload.length ≤ 48) (ho : objectAt addr = none) :
    hostSet addr payload s = s.heardHost.answersRefused 0 addr .noObject := by
  rw [hostSet_of_canHear _ _ _ h hp]
  simp only [serveSet, ho]
  exact respond_of_room _ _ _ _ h.2.2.2

/-- A whole frame on a field line that listens is taken from its first byte (R182). -/
theorem receiveField_of_listens (f : Frame) (take : State → State) (s : State) (h : s.fieldListens)
    (hp : f.payload.length ≤ 48) :
    receiveField f take s = take s.fieldHeardNow := by
  obtain ⟨h1, h2⟩ := h
  simp [receiveField, payloadFits, hp, h1, h2, fieldHeard, State.modField, State.fieldHeardNow, State.now, Exchange.hear,
    Exchange.awaitGap, frameTime, frameLength]

/-- More than 2 ms have passed when the readings differ by 3 or more (R182, R197). -/
theorem pastGap_iff (now last : Ms) : pastGap now last = true ↔ 2 < (now - last).toNat := decide_eq_true_iff

/-- The reading of a gap just past lies more than 2 ms back. -/
@[simp] theorem pastGap_beforeGap (now : Ms) : pastGap now (beforeGap now) = true := by
  have h : now - beforeGap now = 3 := by unfold beforeGap; exact sub_sub_cancel now 3
  rw [pastGap_iff, h]
  decide

/-- No gap lies between a reading and itself. -/
@[simp] theorem pastGap_self (now : Ms) : pastGap now now = false := by simp [pastGap]

/-- The exchange that awaits a response is the one in progress, its command begun. -/
theorem awaiting_eq_some (x : FieldLine) (e : Exchange) :
    x.awaiting = some e ↔ x.exchange = some e ∧ e.begun = true := by
  unfold FieldLine.awaiting
  cases x.exchange with
  | none => simp
  | some y =>
    by_cases h : y.begun = true
    · simp only [h, if_true, Option.some.injEq]
      exact ⟨fun he => ⟨he, he ▸ h⟩, fun he => he.1⟩
    · simp only [h, Option.some.injEq]
      exact ⟨fun he => by simp at he, fun he => absurd (he.1 ▸ he.2) h⟩

/-- An exchange that awaits a response is the line's awaiting one, and conversely. -/
theorem awaiting_iff_awaits (s : State) (e : Exchange) : s.field.awaiting = some e ↔ s.awaits e := by
  rw [awaiting_eq_some]
  exact and_congr_right fun _ => decide_eq_true_iff

/-- With no response awaited the line's awaiting exchange is none. -/
theorem awaiting_of_awaitsNothing (s : State) (h : s.awaitsNothing) : s.field.awaiting = none := by
  cases hx : s.field.awaiting with
  | none => rfl
  | some e =>
    have ha := (awaiting_iff_awaits s e).1 hx
    exact absurd ha.2 (Nat.not_le.2 (h e ha.1).2)

/-- No response is awaited after bytes have been heard where none was before: a command not yet begun waits for the
whole gap again (R185). -/
theorem fieldHeard_awaitsNothing (rx : Receiver) (s : State) (h : s.awaitsNothing) :
    (fieldHeard rx s).field.awaiting = none := by
  cases hx : s.field.exchange with
  | none => simp [fieldHeard, State.modField, FieldLine.awaiting, hx]
  | some e =>
    obtain ⟨h1, h2⟩ := h e hx
    have hlt : frameTime e.frame < e.toSend := h2
    simp [fieldHeard, State.modField, FieldLine.awaiting, hx, Exchange.hear, Exchange.awaitGap, Exchange.begun, hlt]
    omega

/-- Damage that no exchange awaits is discarded, uncounted and unscored (R182, R183). -/
theorem takeDamage_of_awaiting_none (s : State) (h : s.field.awaiting = none) : takeDamage s = s := by
  simp [takeDamage, h]

/-- Hearing the host leaves everything but the port and the silence monitor. -/
@[simp] theorem heardHost_leaves (s : State) :
    s.heardHost.clock = s.clock ∧ s.heardHost.mode = s.mode ∧ s.heardHost.session = s.session ∧
    s.heardHost.store = s.store ∧ s.heardHost.banks = s.banks ∧ s.heardHost.configs = s.configs ∧
    s.heardHost.arms = s.arms ∧ s.heardHost.metering = s.metering ∧ s.heardHost.dosing = s.dosing ∧
    s.heardHost.permissive = s.permissive ∧ s.heardHost.notes = s.notes ∧ s.heardHost.nodes = s.nodes ∧
    s.heardHost.scans = s.scans ∧ s.heardHost.acceptance = s.acceptance ∧ s.heardHost.cmdQueue = s.cmdQueue ∧
    s.heardHost.relayQueue = s.relayQueue ∧ s.heardHost.field = s.field ∧ s.heardHost.reader = s.reader ∧
    s.heardHost.up.outgoing = s.up.outgoing ∧ s.heardHost.up.gap = s.up.gap := by
  simp [State.heardHost, State.heard]

end Sys2Proof.Machine
end

