-- ==== Sys2Proof/Laws/PerInstr.lean ====
section
/-! SUPPORT. One law of the commands as syntax, made for each constructor: a well-formed command carries no more
bytes than the frame it stands for has. -/

namespace Sys2Proof

/-- How many bytes of a frame the operands of a command hold: a payload, a run of received bytes, an argument. -/
def Instr.carriedBytes : Instr → Nat
  | .powerOnReset => 0
  | .resetInput => 0
  | .lineBreak _ bytes => bytes.length
  | .frameAbandoned _ bytes => bytes.length
  | .receiveGapTimeout _ bytes _ => bytes.length
  | .huntSilence _ => 0
  | .upstreamCrcError bytes => bytes.length
  | .upstreamFrameDiscarded frame => frame.payload.length
  | .badKind frame => frame.payload.length
  | .relayIntake frame => frame.payload.length
  | .rollIntake _ payload => payload.length
  | .setService => 0
  | .setRun => 0
  | .clearStatusFlags payload => payload.length
  | .queryStatusFlags payload => payload.length
  | .clockSet payload => payload.length
  | .terminalSecondTick => 0
  | .swap => 0
  | .restart _ => 1
  | .sessionAbort _ => 1
  | .armStop _ => 1
  | .armResume _ => 1
  | .armClear _ => 1
  | .turnaroundGapSet payload => payload.length
  | .armConfigurationSet _ payload => payload.length
  | .acceptanceEntrySet _ payload => payload.length
  | .scanEntrySet _ payload => payload.length
  | .productSet _ _ payload => payload.length
  | .curveSet _ _ payload => payload.length
  | .recipeSet _ _ payload => payload.length
  | .permitInsert payload => payload.length
  | .permitRemove payload => payload.length
  | .lookupKeySet payload => payload.length
  | .orderInsert payload => payload.length
  | .orderRemove payload => payload.length
  | .noteRelease payload => payload.length
  | .slotHeaderQuery _ payload => payload.length
  | .otherObjectSet _ payload => payload.length
  | .responseTransmit => 0
  | .responseSent => 0
  | .hostLost => 0
  | .arbiterTake => 0
  | .scanDue _ => 0
  | .valveRefreshDue _ => 0
  | .slowPollDue _ => 0
  | .fieldGoodResponse frame => frame.payload.length
  | .fieldDamagedResponse bytes => bytes.length
  | .fieldTimeout => 0
  | .fieldFrameDiscarded frame => frame.payload.length
  | .rollChainedResponse frame => frame.payload.length
  | .rollDamagedResponse bytes => bytes.length
  | .rollEnd => 0
  | .codeEntryTimeout => 0
  | .armedTimeout _ => 0
  | .sessionIdleTimeout => 0
  | .settleTimeout _ => 0
  | .haltTimeout _ => 0
  | .tempStale _ => 0
  | .shotTimeout _ _ => 0
  | .reportAgeExpiry => 0
  | .deadmanWarning => 0
  | .deadmanExpiry => 0
  | .notePageWrite => 0
  | .objectQuery _ payload => payload.length
  | .byteIgnoredWhileTransmitting => 0
  | .lineBreakEnd _ => 0

namespace Laws.CarriesAFrame

/-- A well-formed command carries at most the 55 bytes of a whole frame, CRC and header with 48 bytes of payload. -/
def Statement (i : Instr) : Prop := i.wf = true → i.carriedBytes ≤ 55

theorem payload_le {p : List Byte} (h : payloadFits p = true) : p.length ≤ 55 :=
  Nat.le_trans (of_decide_eq_true h) (by decide)

theorem payload_and_le {p : List Byte} {b : Bool} (h : (payloadFits p && b) = true) : p.length ≤ 55 :=
  payload_le (Bool.and_elim_left h)

theorem bytes_le {p : List Byte} (h : bytesFit p = true) : p.length ≤ 55 := of_decide_eq_true h

theorem powerOnReset : Statement (.powerOnReset) := fun _ => (by decide : 0 ≤ 55)

theorem resetInput : Statement (.resetInput) := fun _ => (by decide : 0 ≤ 55)

theorem lineBreak (line : Line) (bytes : List Byte) : Statement (.lineBreak line bytes) := fun h => bytes_le h

theorem frameAbandoned (line : Line) (bytes : List Byte) : Statement (.frameAbandoned line bytes) :=
  fun h => bytes_le h

theorem receiveGapTimeout (line : Line) (bytes : List Byte) (after : Option Byte) : Statement (.receiveGapTimeout line bytes after) :=
  fun h => bytes_le h

theorem huntSilence (line : Line) : Statement (.huntSilence line) := fun _ => (by decide : 0 ≤ 55)

theorem upstreamCrcError (bytes : List Byte) : Statement (.upstreamCrcError bytes) := fun h => bytes_le h

theorem upstreamFrameDiscarded (frame : Frame) : Statement (.upstreamFrameDiscarded frame) :=
  fun h => payload_and_le h

theorem badKind (frame : Frame) : Statement (.badKind frame) := fun h => payload_and_le h

theorem relayIntake (frame : Frame) : Statement (.relayIntake frame) := fun h => payload_and_le h

theorem rollIntake (addr : ObjAddr) (payload : List Byte) : Statement (.rollIntake addr payload) :=
  fun h => payload_le h

theorem setService : Statement (.setService) := fun _ => (by decide : 0 ≤ 55)

theorem setRun : Statement (.setRun) := fun _ => (by decide : 0 ≤ 55)

theorem clearStatusFlags (payload : List Byte) : Statement (.clearStatusFlags payload) := fun h => payload_le h

theorem queryStatusFlags (payload : List Byte) : Statement (.queryStatusFlags payload) := fun h => payload_le h

theorem clockSet (payload : List Byte) : Statement (.clockSet payload) := fun h => payload_le h

theorem terminalSecondTick : Statement (.terminalSecondTick) := fun _ => (by decide : 0 ≤ 55)

theorem swap : Statement (.swap) := fun _ => (by decide : 0 ≤ 55)

theorem restart (argument : Byte) : Statement (.restart argument) := fun _ => (by decide : 1 ≤ 55)

theorem sessionAbort (argument : Byte) : Statement (.sessionAbort argument) := fun _ => (by decide : 1 ≤ 55)

theorem armStop (argument : Byte) : Statement (.armStop argument) := fun _ => (by decide : 1 ≤ 55)

theorem armResume (argument : Byte) : Statement (.armResume argument) := fun _ => (by decide : 1 ≤ 55)

theorem armClear (argument : Byte) : Statement (.armClear argument) := fun _ => (by decide : 1 ≤ 55)

theorem turnaroundGapSet (payload : List Byte) : Statement (.turnaroundGapSet payload) := fun h => payload_le h

theorem armConfigurationSet (arm : ArmId) (payload : List Byte) : Statement (.armConfigurationSet arm payload) :=
  fun h => payload_le h

theorem acceptanceEntrySet (index : Fin 24) (payload : List Byte) : Statement (.acceptanceEntrySet index payload) :=
  fun h => payload_le h

theorem scanEntrySet (index : Fin 32) (payload : List Byte) : Statement (.scanEntrySet index payload) :=
  fun h => payload_le h

theorem productSet (bank : Bank) (index : Fin 16) (payload : List Byte) : Statement (.productSet bank index payload) :=
  fun h => payload_le h

theorem curveSet (bank : Bank) (index : Fin 17) (payload : List Byte) : Statement (.curveSet bank index payload) :=
  fun h => payload_le h

theorem recipeSet (bank : Bank) (index : Fin 9) (payload : List Byte) : Statement (.recipeSet bank index payload) :=
  fun h => payload_le h

theorem permitInsert (payload : List Byte) : Statement (.permitInsert payload) := fun h => payload_le h

theorem permitRemove (payload : List Byte) : Statement (.permitRemove payload) := fun h => payload_le h

theorem lookupKeySet (payload : List Byte) : Statement (.lookupKeySet payload) := fun h => payload_le h

theorem orderInsert (payload : List Byte) : Statement (.orderInsert payload) := fun h => payload_le h

theorem orderRemove (payload : List Byte) : Statement (.orderRemove payload) := fun h => payload_le h

theorem noteRelease (payload : List Byte) : Statement (.noteRelease payload) := fun h => payload_le h

theorem slotHeaderQuery (slot : Fin 16) (payload : List Byte) : Statement (.slotHeaderQuery slot payload) :=
  fun h => payload_le h

theorem otherObjectSet (addr : ObjAddr) (payload : List Byte) : Statement (.otherObjectSet addr payload) :=
  fun h => payload_le h

theorem responseTransmit : Statement (.responseTransmit) := fun _ => (by decide : 0 ≤ 55)

theorem responseSent : Statement (.responseSent) := fun _ => (by decide : 0 ≤ 55)

theorem hostLost : Statement (.hostLost) := fun _ => (by decide : 0 ≤ 55)

theorem arbiterTake : Statement (.arbiterTake) := fun _ => (by decide : 0 ≤ 55)

theorem scanDue (index : Fin 32) : Statement (.scanDue index) := fun _ => (by decide : 0 ≤ 55)

theorem valveRefreshDue (arm : ArmId) : Statement (.valveRefreshDue arm) := fun _ => (by decide : 0 ≤ 55)

theorem slowPollDue (tag : Tag) : Statement (.slowPollDue tag) := fun _ => (by decide : 0 ≤ 55)

theorem fieldGoodResponse (frame : Frame) : Statement (.fieldGoodResponse frame) := fun h => payload_and_le h

theorem fieldDamagedResponse (bytes : List Byte) : Statement (.fieldDamagedResponse bytes) := fun h => bytes_le h

theorem fieldTimeout : Statement (.fieldTimeout) := fun _ => (by decide : 0 ≤ 55)

theorem fieldFrameDiscarded (frame : Frame) : Statement (.fieldFrameDiscarded frame) := fun h => payload_le h

theorem rollChainedResponse (frame : Frame) : Statement (.rollChainedResponse frame) := fun h => payload_and_le h

theorem rollDamagedResponse (bytes : List Byte) : Statement (.rollDamagedResponse bytes) := fun h => bytes_le h

theorem rollEnd : Statement (.rollEnd) := fun _ => (by decide : 0 ≤ 55)

theorem codeEntryTimeout : Statement (.codeEntryTimeout) := fun _ => (by decide : 0 ≤ 55)

theorem armedTimeout (arm : ArmId) : Statement (.armedTimeout arm) := fun _ => (by decide : 0 ≤ 55)

theorem sessionIdleTimeout : Statement (.sessionIdleTimeout) := fun _ => (by decide : 0 ≤ 55)

theorem settleTimeout (arm : ArmId) : Statement (.settleTimeout arm) := fun _ => (by decide : 0 ≤ 55)

theorem haltTimeout (arm : ArmId) : Statement (.haltTimeout arm) := fun _ => (by decide : 0 ≤ 55)

theorem tempStale (arm : ArmId) : Statement (.tempStale arm) := fun _ => (by decide : 0 ≤ 55)

theorem shotTimeout (arm : ArmId) (slot : Slot) : Statement (.shotTimeout arm slot) := fun _ => (by decide : 0 ≤ 55)

theorem reportAgeExpiry : Statement (.reportAgeExpiry) := fun _ => (by decide : 0 ≤ 55)

theorem deadmanWarning : Statement (.deadmanWarning) := fun _ => (by decide : 0 ≤ 55)

theorem deadmanExpiry : Statement (.deadmanExpiry) := fun _ => (by decide : 0 ≤ 55)

theorem notePageWrite : Statement (.notePageWrite) := fun _ => (by decide : 0 ≤ 55)

theorem objectQuery (addr : ObjAddr) (payload : List Byte) : Statement (.objectQuery addr payload) :=
  fun h => payload_le h

theorem byteIgnoredWhileTransmitting : Statement (.byteIgnoredWhileTransmitting) := fun _ => (by decide : 0 ≤ 55)

theorem lineBreakEnd (line : Line) : Statement (.lineBreakEnd line) := fun _ => (by decide : 0 ≤ 55)

end Laws.CarriesAFrame

end Sys2Proof
end

