-- ==== Sys2Proof/Laws/Queue.lean ====
section
/-! SUPPORT. Each operation that writes the command queue keeps at most one valve DRIVE for an arm and at most one
display SET in it (R169); and what an arming and its end make of the capture counts (R152). -/

namespace Sys2Proof.Machine

/-- The composition of a queue (R169). -/
def Cmd.queueOk (q : List Cmd) : Prop :=
  (∀ n : ArmId, (q.filter fun c => c.isValveOf n).length ≤ 1) ∧ (q.filter Cmd.isDisplay).length ≤ 1

theorem cmdsOk_iff (s : State) : s.cmdsOk ↔ Cmd.queueOk s.cmdQueue := Iff.rfl

/-- An operation that leaves the queue alone keeps its composition. -/
theorem cmdsOk_of_queue {s t : State} (h : t.cmdQueue = s.cmdQueue) (hs : s.cmdsOk) : t.cmdsOk := by
  rw [cmdsOk_iff] at *
  rwa [h]

/-- Taking entries away keeps the composition. -/
theorem Cmd.queueOk_sublist {q r : List Cmd} (h : r.Sublist q) (hq : Cmd.queueOk q) : Cmd.queueOk r :=
  ⟨fun n => le_trans (h.filter _).length_le (hq.1 n), le_trans (h.filter _).length_le hq.2⟩

/-- So does rewriting entries in place, each to one of its own kind. -/
theorem Cmd.queueOk_map {q : List Cmd} {f : Cmd → Cmd} (hv : ∀ c n, (f c).isValveOf n = c.isValveOf n)
    (hd : ∀ c, (f c).isDisplay = c.isDisplay) (hq : Cmd.queueOk q) : Cmd.queueOk (q.map f) := by
  constructor
  · intro n
    have e : (Cmd.isValveOf · n) ∘ f = (Cmd.isValveOf · n) := funext fun c => hv c n
    rw [List.filter_map, List.length_map, e]
    exact hq.1 n
  · have e : Cmd.isDisplay ∘ f = Cmd.isDisplay := funext hd
    rw [List.filter_map, List.length_map, e]
    exact hq.2

theorem Cmd.isValveOf_superseded (c : Cmd) (n m : ArmId) (p : Position) :
    (c.superseded n p).isValveOf m = c.isValveOf m := by
  unfold Cmd.superseded
  (repeat' split) <;> rfl

theorem Cmd.isDisplay_superseded (c : Cmd) (n : ArmId) (p : Position) :
    (c.superseded n p).isDisplay = c.isDisplay := by
  unfold Cmd.superseded
  (repeat' split) <;> rfl

theorem Cmd.isValveOf_reworded (c : Cmd) (t : Tag) (code : Nat) (n : ArmId) :
    (c.reworded t code).isValveOf n = c.isValveOf n := by
  cases c <;> rfl

theorem Cmd.isDisplay_reworded (c : Cmd) (t : Tag) (code : Nat) : (c.reworded t code).isDisplay = c.isDisplay := by
  cases c <;> rfl

/-- No valve DRIVE of the arm is queued. -/
theorem filter_of_not_queued {s : State} {n : ArmId} (h : s.valveQueued n = false) :
    (s.cmdQueue.filter fun c => c.isValveOf n) = [] := by
  simpa [State.valveQueued, List.filter_eq_nil_iff] using h

/-- A valve DRIVE of an arm that has none queued joins at either end. -/
theorem queueOk_valve {s : State} {n : ArmId} (t : Tag) (p : Position) (r : Nat) (hq : s.cmdsOk)
    (h : s.valveQueued n = false) :
    Cmd.queueOk (s.cmdQueue ++ [.valve n t p r]) ∧ Cmd.queueOk (.valve n t p r :: s.cmdQueue) := by
  have h1 := filter_of_not_queued h
  have hd : (Cmd.valve n t p r).isDisplay = false := rfl
  refine ⟨⟨fun m => ?_, ?_⟩, ⟨fun m => ?_, ?_⟩⟩
  · by_cases hm : n = m
    · subst hm
      rw [List.filter_append, h1, List.nil_append]
      exact List.length_filter_le _ [_]
    · have e : (Cmd.valve n t p r).isValveOf m = false := by simp [Cmd.isValveOf, hm]
      simpa [List.filter_append, List.filter_cons, e] using hq.1 m
  · simpa [List.filter_append, List.filter_cons, hd] using hq.2
  · by_cases hm : n = m
    · subst hm
      rw [List.filter_cons, h1]
      split <;> simp
    · have e : (Cmd.valve n t p r).isValveOf m = false := by simp [Cmd.isValveOf, hm]
      simpa [List.filter_cons, e] using hq.1 m
  · simpa [List.filter_cons, hd] using hq.2

/-- Offering a valve DRIVE (R169). -/
theorem queueValve_cmdsOk (n : ArmId) (p : Position) {s : State} (h : s.cmdsOk) : (queueValve n p s).cmdsOk := by
  unfold queueValve
  split
  · exact h
  · split
    · exact h
    · split
      · exact Cmd.queueOk_map (fun c m => c.isValveOf_superseded n m p) (fun c => c.isDisplay_superseded n p) h
      · rename_i hv
        split
        · exact (queueOk_valve _ p 0 h (by simpa using hv)).1
        · exact h

/-- Requesting a display message (R22, R169). -/
theorem display_cmdsOk (code : Nat) {s : State} (h : s.cmdsOk) : (display code s).cmdsOk := by
  unfold display
  split
  · exact h
  · split
    · exact h
    · split
      · exact Cmd.queueOk_map (fun c n => c.isValveOf_reworded _ code n) (fun c => c.isDisplay_reworded _ code) h
      · rename_i hd
        split
        · refine ⟨fun n => ?_, ?_⟩
          · simpa [State.setCmdQueue, List.filter_append, List.filter_cons, Cmd.isValveOf] using h.1 n
          · have h1 : s.cmdQueue.filter Cmd.isDisplay = [] := by
              simpa [List.filter_eq_nil_iff] using hd
            simp only [State.setCmdQueue, List.filter_append, h1, List.nil_append]
            exact List.length_filter_le _ [_]
        · exact h

/-- Commanding a position (R47). -/
theorem commandValve_cmdsOk (n : ArmId) (p : Position) {s : State} (h : s.cmdsOk) : (commandValve n p s).cmdsOk :=
  queueValve_cmdsOk n p (cmdsOk_of_queue rfl h)

/-- A shot DRIVE joins the queue (R98). -/
theorem commandShot_cmdsOk (n : ArmId) (k : Slot) (t : Tag) (size : Nat) {s : State} (h : s.cmdsOk) :
    (commandShot n k t size s).cmdsOk := by
  have e : (commandShot n k t size s).cmdQueue = s.cmdQueue ++ [.shot n k t (s.dose n k).nextShot size] := by
    simp [commandShot]
  rw [cmdsOk_iff, e]
  exact ⟨fun m => by simpa [List.filter_append, List.filter_cons, Cmd.isValveOf] using h.1 m,
    by simpa [List.filter_append, List.filter_cons, Cmd.isDisplay] using h.2⟩

/-- The queue with entries taken away. -/
theorem setCmdQueue_cmdsOk {q : List Cmd} {s : State} (hq : q.Sublist s.cmdQueue) (h : s.cmdsOk) :
    (s.setCmdQueue q).cmdsOk :=
  Cmd.queueOk_sublist hq h

/-- A failed DRIVE goes back only where no newer one of its arm is queued (R170). -/
theorem putBack_cmdsOk {n : ArmId} (t : Tag) (p : Position) (r : Nat) {s : State} (h : s.cmdsOk)
    (hn : s.valveQueued n = false) : (putBack (.valve n t p r) s).cmdsOk :=
  (queueOk_valve t p r h hn).2

/-! ### Capture counts (R152) -/

theorem captureBank_count (bank x : Bank) (s : State) :
    (captureBank bank s).banks.count x = if x = bank then s.banks.count x + 1 else s.banks.count x := by
  cases bank <;> cases x <;> rfl

theorem uncaptureBank_count (bank x : Bank) (s : State) :
    (uncaptureBank (some bank) s).banks.count x =
      if x = bank then s.banks.count x - 1 else s.banks.count x := by
  cases bank <;> cases x <;> rfl

/-- A change of compartments that moves no state and no bank field moves no count of captured ones. -/
theorem captured_of_map {cs ds : List Comp} (bank : Bank)
    (h : ds.map (fun c => (c.state, c.bank)) = cs.map fun c => (c.state, c.bank)) :
    (ds.filter fun c => c.state.isCaptured && c.bank == some bank).length =
      (cs.filter fun c => c.state.isCaptured && c.bank == some bank).length := by
  have e : ∀ l : List Comp, (l.filter fun c => c.state.isCaptured && c.bank == some bank).length =
      ((l.map fun c => (c.state, c.bank)).filter fun x => x.1.isCaptured && x.2 == some bank).length := fun l => by
    rw [List.filter_map, List.length_map]
    rfl
  rw [e, e, h]

end Sys2Proof.Machine
end

