-- ==== Sys2Proof/Laws/Releases.lean ====
section
/-! SUPPORT. What a release, a disarming and a completion make of every arm record, and which fields of the
compartments they keep. -/

namespace Sys2Proof.Machine

theorem heldComp_held {s : State} {n : ArmId} {c : Comp} (h : s.heldComp n = some c) :
    (s.arm n).held = some c.number ∧ c ∈ s.session.comps := by
  simp only [State.heldComp] at h
  cases hh : (s.arm n).held with
  | none => simp [hh] at h
  | some k =>
    simp only [hh, Option.bind_some] at h
    have h1 := List.find?_some h
    have h2 := List.mem_of_find?_eq_some h
    simp only [beq_iff_eq] at h1
    exact ⟨by rw [h1], h2⟩

/-- An update that keeps `g` of every compartment keeps the list of `g`. -/
theorem modComp_keeps {β : Type} (g : Comp → β) (k : Nat) (f : Comp → Comp) (h : ∀ c, g (f c) = g c) (s : State) :
    (s.modComp k f).session.comps.map g = s.session.comps.map g := by
  simp only [State.modComp, State.modSession, List.map_map]
  refine List.map_congr_left fun c _ => ?_
  simp only [Function.comp]
  split <;> simp [h]

theorem modHeld_keeps {β : Type} (g : Comp → β) (n : ArmId) (f : Comp → Comp) (h : ∀ c, g (f c) = g c) (s : State) :
    (s.modHeld n f).session.comps.map g = s.session.comps.map g := by
  unfold State.modHeld
  split
  · rfl
  · exact modComp_keeps g _ f h s

/-- The end check keeps what it does not flag (R108). -/
theorem endCheckSlot_keeps {β : Type} (g : Comp → β) (h : ∀ (c : Comp) (x : CompFlags), g { c with flags := x } = g c)
    (n : ArmId) (k : Slot) (s : State) :
    (endCheckSlot n k s).session.comps.map g = s.session.comps.map g := by
  unfold endCheckSlot
  split
  · rfl
  · split
    · rfl
    · dsimp only
      split
      · rw [(raiseFlag_leaves _ _).2.2.1]
        exact modHeld_keeps g _ _ (fun c => h c _) s
      · exact modHeld_keeps g _ _ (fun c => h c _) s

theorem endCheck_keeps {β : Type} (g : Comp → β) (h : ∀ (c : Comp) (x : CompFlags), g { c with flags := x } = g c)
    (n : ArmId) (s : State) : (endCheck n s).session.comps.map g = s.session.comps.map g := by
  unfold endCheck abandonShot
  simp only [modDose_session]
  rw [endCheckSlot_keeps g h, endCheckSlot_keeps g h]

theorem markIdle_comps (s : State) : (markIdle s).session.comps = s.session.comps := by
  unfold markIdle
  split <;> rfl

theorem examine_comps (s : State) : (examine s).session.comps = s.session.comps := by
  unfold examine enterEnding beginCompile
  (repeat' split) <;> simp

theorem uncaptureBank_session (b : Option Bank) (s : State) : (uncaptureBank b s).session = s.session := by
  unfold uncaptureBank
  split <;> simp

/-- A release closes the held compartment and keeps the fields that `g` reads (R56). -/
theorem release_comps {β : Type} (g : Comp → β) (n : ArmId) (blk : Option BlockCause) (s : State) (c : Comp)
    (h : s.heldComp n = some c) (hg : ∀ (c : Comp) (x : CompFlags), g { c with flags := x } = g c) :
    (release n blk s).session.comps.map g =
      s.session.comps.map fun x => if x.number = c.number then g (x.closed (s.arm n).totalizer) else g x := by
  have hh := (heldComp_held h).1
  simp only [release, h, markIdle_comps, modArm_session]
  rw [endCheck_keeps g hg, uncaptureBank_session]
  simp only [State.modHeld, hh, State.modComp, State.modSession, List.map_map]
  refine List.map_congr_left fun x _ => ?_
  simp only [Function.comp]
  split <;> rfl

theorem uncaptureBank_arms (b : Option Bank) (s : State) : (uncaptureBank b s).arms = s.arms := by
  unfold uncaptureBank
  split <;> simp

theorem endCheck_arms (n : ArmId) (s : State) : (endCheck n s).arms = s.arms := by simp

theorem markIdle_arms (s : State) : (markIdle s).arms = s.arms := by
  unfold markIdle
  split <;> rfl

/-- A release (R56). -/
theorem release_arm (n m : ArmId) (blk : Option BlockCause) (s : State) :
    (release n blk s).arm m =
      if m = n ∧ (s.heldComp n).isSome = true then (s.arm n).released blk else s.arm m := by
  cases h : s.heldComp n with
  | none => simp [release, h]
  | some c =>
    have e : ∀ k, (endCheck n (uncaptureBank c.bank (s.modHeld n fun c => c.closed (s.arm n).totalizer))).arm k =
        s.arm k := fun k => arm_of_arms (by rw [endCheck_arms, uncaptureBank_arms]; simp) k
    simp only [release, h]
    rw [arm_of_arms (markIdle_arms _), arm_modArm]
    simp only [e, Option.isSome_some, and_true]

theorem examine_arms (s : State) : (examine s).arms = s.arms := by
  unfold examine enterEnding beginCompile
  (repeat' split) <;> simp

theorem releaseExamine_arm (n m : ArmId) (blk : Option BlockCause) (s : State) :
    (releaseExamine n blk s).arm m =
      if m = n ∧ (s.heldComp n).isSome = true then (s.arm n).released blk else s.arm m := by
  rw [releaseExamine, arm_of_arms (examine_arms _), release_arm]

/-- A disarming (R49). -/
theorem disarm_arm (n m : ArmId) (blk : Option BlockCause) (s : State) :
    (disarm n blk s).arm m =
      if m = n then
        { s.arm n with
          state := if blk.isSome then .blocked else .idle
          held := none
          blockCause := if blk.isSome then blk else (s.arm n).blockCause
          armedDeadline := none }
      else s.arm m := by
  have e : ∀ k, (returnToPending n s).arm k = s.arm k := fun k => arm_of_arms (by
    unfold returnToPending
    split
    · rfl
    · rw [uncaptureBank_arms]; simp) k
  rw [disarm, arm_of_arms (markIdle_arms _), arm_modArm]
  simp only [e]

end Sys2Proof.Machine
end

