-- ==== Sys2Proof/Laws/Wire.lean ====
section
/-! SUPPORT. Bytes received one by one: the frame that whole good bytes carry is sent as those bytes and read back from
them, the receiver that holds them takes that frame, and the row of a frame to tag 0 is its SET or QUERY. -/

namespace Sys2Proof.Machine

/-- The lead byte of the direction and the kind that a lead byte shows. -/
theorem leadByte_of (b : Byte) : b &&& 0x0F#8 = 0#8 →
    leadByte (if b.msb then .command else .response) ((b >>> 4).setWidth 3) = b := by
  revert b
  decide

/-- A tag byte up to 63 is its tag. -/
theorem setWidth_tag (b : Byte) (h : b.toNat ≤ 63) : ((b.setWidth 6).setWidth 8 : Byte) = b := by
  apply BitVec.eq_of_toNat_eq
  simp
  omega

/-- Two bytes are the number they carry. -/
theorem beBytes_two (x y : Byte) : beBytes 2 (BitVec.ofNat 16 (beNat [x, y])).toNat = [x, y] := by
  have hx := x.isLt
  have hy := y.isLt
  simp only [beBytes, beNat, List.foldl, List.nil_append, List.singleton_append, BitVec.toNat_ofNat]
  congr 1
  · apply BitVec.eq_of_toNat_eq; simp; omega
  · congr 1
    apply BitVec.eq_of_toNat_eq; simp; omega

/-- The frame that whole good bytes carry is sent as those bytes (R182, R183). -/
theorem frameWire_frameOf (bytes : List Byte) (h : rxStatus bytes = .whole true) :
    frameWire (frameOf bytes) = bytes := by
  unfold rxStatus at h
  split at h
  · exact absurd h (by simp)
  rename_i hb
  match bytes, hb, h with
  | [], _, h => simp at h
  | [_], _, h => simp at h
  | b0 :: b1 :: rest, hb, h =>
    simp only [List.getElem?_cons_succ, List.getElem?_cons_zero] at h
    split at h
    · exact absurd h (by simp)
    rename_i hlen
    split at h
    swap
    · exact absurd h (by simp)
    rename_i hl
    simp only [RxStatus.whole.injEq, beq_iff_eq] at h
    match rest, hb, h, hl, hlen with
    | [], _, _, hl, _ => simp at hl; omega
    | [_], _, _, hl, _ => simp at hl; omega
    | [_, _], _, _, hl, _ => simp at hl; omega
    | b2 :: b3 :: b4 :: tl, hb, h, hl, _ =>
      simp only [badByte, List.getElem?_cons_succ, List.getElem?_cons_zero, Bool.or_eq_true, bne_iff_ne, ne_eq,
        decide_eq_true_eq, not_or, Decidable.not_not, Nat.not_lt] at hb
      obtain ⟨⟨h0, h1⟩, h2⟩ := hb
      simp only [List.length_cons] at hl
      have hbody : frameBody (frameOf (b0 :: b1 :: b2 :: b3 :: b4 :: tl)) = b0 :: b1 :: b2 :: b3 :: b4 :: tl.take b1.toNat := by
        have hp : (tl.take b1.toNat).length = b1.toNat := by simp; omega
        simp only [frameBody, frameOf, commandBit, List.getElem?_cons_zero, List.getD_cons_zero, List.getD_cons_succ,
          List.drop_succ_cons, List.drop_zero, List.take_succ_cons, List.take_zero, hp, setWidth_tag b2 h2, beBytes_two]
        simp only [List.cons_append, List.nil_append, BitVec.ofNat_toNat, BitVec.setWidth_eq]
        exact congrArg (· :: _) (leadByte_of b0 h0)
      have ht : (b0 :: b1 :: b2 :: b3 :: b4 :: tl).take (5 + b1.toNat) = b0 :: b1 :: b2 :: b3 :: b4 :: tl.take b1.toNat := by
        rw [Nat.add_comm 5]; simp [List.take_succ_cons]
      rw [frameWire, hbody, ← ht, ← h, List.take_append_drop]

/-- The lead byte shows the direction and the kind it was made of. -/
theorem leadByte_shows (d : Dir) (k : Kind) :
    (leadByte d k).msb = (d == .command) ∧ ((leadByte d k >>> 4).setWidth 3 : BitVec 3) = k := by
  revert k
  cases d <;> decide

/-- The bytes of a frame carry that frame (R182, R183). -/
theorem frameOf_frameWire (f : Frame) (h : f.payload.length ≤ 48) : frameOf (frameWire f) = f := by
  obtain ⟨d, k, t, a, p⟩ := f
  have hl := leadByte_shows d k
  have ha := a.isLt
  simp only [frameWire, frameBody, beBytes, frameOf, commandBit, List.nil_append, List.cons_append,
    List.getElem?_cons_zero, List.getD_cons_zero, List.getD_cons_succ, List.drop_succ_cons, List.drop_zero,
    List.take_succ_cons, List.take_zero, hl]
  have hp : p.length % 256 = p.length := by
    simp only at h
    omega
  simp [hp, beNat]
  refine ⟨by cases d <;> simp, ?_⟩
  apply BitVec.eq_of_toNat_eq
  simp
  omega

/-- An address names the object of the map at that address. -/
theorem toNat_eq_ofNat (a : ObjAddr) (n : Nat) (h : a.toNat = n) : a = BitVec.ofNat 16 n := by
  subst h
  simp

/-- Whole good bytes carry a frame whose payload a frame can have. -/
theorem payload_frameOf_le (bytes : List Byte) (h : rxStatus bytes = .whole true) :
    (frameOf bytes).payload.length ≤ 48 := by
  unfold rxStatus at h
  split at h
  · exact absurd h (by simp)
  rename_i hb
  cases hl : bytes[1]? with
  | none => simp [hl] at h
  | some len =>
    have h48 : ¬48 < len.toNat := by
      intro hlt
      exact hb (by simp [badByte, hl, hlt])
    have : bytes.getD 1 0 = len := by simp [List.getD, hl]
    simp only [frameOf, this, List.length_take]
    omega

/-- The upstream receiver that holds a whole good frame takes it as the frame (R182, R183). -/
theorem receiveUpstream_of_held (bytes : List Byte) (take : State → State) (s : State)
    (h : rxStatus bytes = .whole true) (hb : s.up.inBreak = false) (hs : s.up.sending = none)
    (hr : s.up.rx = .receiving bytes) : receiveUpstream (frameOf bytes) take s = take s.heard := by
  simp [receiveUpstream, payloadFits, payload_frameOf_le bytes h, hb, hs, hr, frameWire_frameOf bytes h, upHeard,
    State.modUp, State.heard, State.now]

/-- A receiver that holds all bytes of a frame takes it as one that is IDLE does (R182). -/
theorem receiveUpstream_held_eq_idle (f : Frame) (take : State → State) (s : State) (hb : s.up.inBreak = false)
    (hs : s.up.sending = none) (hp : f.payload.length ≤ 48) :
    receiveUpstream f take { s with up := { s.up with rx := .receiving (frameWire f) } } =
      receiveUpstream f take { s with up := { s.up with rx := .idle } } := by
  simp [receiveUpstream, payloadFits, hp, hb, hs, upHeard, State.modUp, State.now]

/-- The field receiver that holds a whole good frame takes it as the frame (R182, R183). -/
theorem receiveField_of_held (bytes : List Byte) (take : State → State) (s : State)
    (h : rxStatus bytes = .whole true) (hb : s.field.inBreak = false) (hr : s.field.rx = .receiving bytes) :
    receiveField (frameOf bytes) take s = take (fieldHeard .idle s) := by
  simp [receiveField, payloadFits, payload_frameOf_le bytes h, hb, hr, frameWire_frameOf bytes h]

/-- What both rows do, the row of an address does. -/
theorem exec_objectRow (addr object : ObjAddr) (row other : Instr) (s : State)
    (x : Host.Outcome State Fault Refusal) (h : addr = object → exec row s = x) (ho : exec other s = x) :
    exec (objectRow addr object row other) s = x := by
  unfold objectRow
  split
  · exact h ‹_›
  · exact ho

/-- What every row of a table and the rows after it do, the row of an address does. -/
theorem exec_tableRow (addr : ObjAddr) (base n : Nat) (row : Fin n → Instr) (other : Instr) (s : State)
    (x : Host.Outcome State Fault Refusal)
    (h : ∀ i : Fin n, BitVec.ofNat 16 (base + i.val) = addr → exec (row i) s = x) (ho : exec other s = x) :
    exec (tableRow addr base n row other) s = x := by
  unfold tableRow
  split
  · rename_i hb
    apply h
    simp [Nat.add_sub_cancel' hb.1]
  · exact ho

/-- The row of a SET of a bank's tables is that SET. -/
theorem exec_bankRow (bank : Bank) (addr : ObjAddr) (payload : List Byte) (other : Instr) (s : State)
    (ho : exec other s = .next (hostSet addr payload s)) :
    exec (bankRow bank addr payload other) s = .next (hostSet addr payload s) := by
  refine exec_tableRow _ _ _ _ _ _ _ ?_ (exec_tableRow _ _ _ _ _ _ _ ?_ (exec_tableRow _ _ _ _ _ _ _ ?_ ho)) <;>
    (rintro i rfl; rfl)

/-- The row of a SET to tag 0 is that SET, received whole (R186, R189). -/
theorem exec_setRow (addr : ObjAddr) (payload : List Byte) (s : State) :
    exec (setRow addr payload) s = .next (hostSet addr payload s) := by
  have other : exec (.otherObjectSet addr payload) s = .next (hostSet addr payload s) := rfl
  unfold setRow
  refine exec_objectRow _ _ _ _ _ _ ?mode <| exec_objectRow _ _ _ _ _ _ ?_ <| exec_objectRow _ _ _ _ _ _ ?_ <|
    exec_objectRow _ _ _ _ _ _ ?swap <| exec_objectRow _ _ _ _ _ _ ?command <| exec_objectRow _ _ _ _ _ _ ?_ <|
    exec_tableRow _ _ _ _ _ _ _ ?_ <| exec_tableRow _ _ _ _ _ _ _ ?_ <| exec_objectRow _ _ _ _ _ _ ?_ <|
    exec_objectRow _ _ _ _ _ _ ?_ <| exec_objectRow _ _ _ _ _ _ ?_ <| exec_objectRow _ _ _ _ _ _ ?_ <|
    exec_objectRow _ _ _ _ _ _ ?_ <| exec_objectRow _ _ _ _ _ _ ?_ ?config
  case mode =>
    rintro rfl
    unfold modeRow
    split_ifs with h1 h2 <;> subst_vars <;> rfl
  case swap =>
    rintro rfl
    split_ifs with h1 <;> subst_vars <;> rfl
  case command =>
    rintro rfl
    unfold commandRow
    split
    · split_ifs <;> subst_vars <;> rfl
    · rfl
  case config =>
    unfold configRow
    split
    · exact exec_bankRow _ _ _ _ _ (exec_bankRow _ _ _ _ _ other)
    · rename_i n hn
      have := List.find?_some hn
      obtain rfl := eq_of_beq this
      rfl
  all_goals first | (rintro rfl; rfl) | (rintro i rfl; rfl)

/-- The row of a QUERY to tag 0 is that QUERY, received whole (R186, R189). -/
theorem exec_queryRow (addr : ObjAddr) (payload : List Byte) (s : State) :
    exec (queryRow addr payload) s = .next (hostQuery addr payload s) := by
  unfold queryRow
  refine exec_objectRow _ _ _ _ _ _ ?_ <| exec_tableRow _ _ _ _ _ _ _ ?_ rfl
  · rintro rfl; rfl
  · rintro i rfl; rfl

end Sys2Proof.Machine
end

