-- ==== Sys2Proof/Tests/Slice0.lean ====
section
/-! SUPPORT. Own tests: the checks of well-formedness, the spec's worked examples, and for each statement a
concrete state and operands that meet its hypotheses. -/

set_option maxRecDepth 20000

namespace Sys2Proof.Tests

open Sys2Proof Sys2Proof.Machine

/-! ### Helpers -/

/-- Bytes from numbers. -/
def by' (l : List Nat) : List Byte := l.map (BitVec.ofNat 8)

/-- One byte more than a payload holds. -/
def longPayload : List Byte := List.replicate 49 0

/-- One byte more than a frame holds. -/
def longFrame : List Byte := List.replicate 56 0

def aFrame (dir : Dir) (kind : Kind) (tag : Tag) (payload : List Byte) : Frame :=
  { dir := dir, kind := kind, tag := tag, addr := 0x1234, payload := payload }

/-- A frame with no payload. -/
def bare (dir : Dir) (kind : Kind) (tag : Tag) : Frame := aFrame dir kind tag []

def aConfig : ArmConfig :=
  { meter := some 11, temp := some 12, valve := some 13, injector := ⟨some 21, none⟩, kFactor := 100000
    maxFlow := 1200, startVolume := 200, trimVolume := 400, initialAnt := 6, overrunLimit := 10 }

def aComp : Comp :=
  { number := 1, product := 3, preset := 1000000, state := .active, arm := some .a2, bank := some .a
    gross := 500000, additive := ⟨some {}, none⟩ }

def aPermit : Permit :=
  { card := 41730200, code := some [4, 7, 7, 1], carrier := 9999, expiry := 9400, classes := 4, maxLoad := 99999
    status := .active, attempts := 2 }

def anOrder : Order :=
  { card := 41730200, ref := 7, vehicle := none, entries := [{ number := 1, product := 3, preset := 60000 }] }

def aSession : Session := { state := .opened, card := some 41730200, comps := [aComp], idleBase := some 0 }

/-- An OPEN session whose one compartment is held by arm 2, in RUN. -/
def held (st : ArmState) (f : Arm → Arm) : State :=
  { State.reset with
    mode := .run, session := aSession
    configs := State.reset.configs.set .a2 aConfig
    arms := State.reset.arms.set .a2 (f { state := st, held := some 1 }) }

/-- The reset state at a later reading of the clock. -/
def later (ms : Nat) (s : State) : State := { s with clock := { s.clock with ms := BitVec.ofNat 32 ms } }

/-- A field line with an exchange in progress, `ms` milliseconds after the last byte that its wait counts from. -/
def during (src : Source) (tag : Tag) (ms : Nat) : State :=
  later ms
    { State.reset with
      field := { exchange := some { source := src, frame := bare .command 0 tag, tag := tag, toSend := 0 } } }

theorem reset_canHear : State.reset.canHear := ⟨rfl, rfl, rfl, by decide⟩

/-! ### Well-formedness -/

theorem test_wf_payloads :
    (Instr.rollIntake 0 longPayload).wf = false ∧ (Instr.clearStatusFlags longPayload).wf = false ∧
    (Instr.queryStatusFlags longPayload).wf = false ∧ (Instr.clockSet longPayload).wf = false ∧
    (Instr.turnaroundGapSet longPayload).wf = false ∧ (Instr.armConfigurationSet .a1 longPayload).wf = false ∧
    (Instr.acceptanceEntrySet 0 longPayload).wf = false ∧ (Instr.scanEntrySet 0 longPayload).wf = false ∧
    (Instr.productSet .a 1 longPayload).wf = false ∧ (Instr.curveSet .a 1 longPayload).wf = false ∧
    (Instr.recipeSet .a 1 longPayload).wf = false ∧ (Instr.permitInsert longPayload).wf = false ∧
    (Instr.permitRemove longPayload).wf = false ∧ (Instr.lookupKeySet longPayload).wf = false ∧
    (Instr.orderInsert longPayload).wf = false ∧ (Instr.orderRemove longPayload).wf = false ∧
    (Instr.noteRelease longPayload).wf = false ∧ (Instr.slotHeaderQuery 0 longPayload).wf = false ∧
    (Instr.otherObjectSet 0 longPayload).wf = false ∧ (Instr.objectQuery 0 longPayload).wf = false := by
  decide

theorem test_wf_byte_runs :
    (Instr.lineBreak .field longFrame).wf = false ∧ (Instr.frameAbandoned .field longFrame).wf = false ∧
    (Instr.receiveGapTimeout .field longFrame none).wf = false ∧ (Instr.upstreamCrcError longFrame).wf = false ∧
    (Instr.fieldDamagedResponse longFrame).wf = false ∧ (Instr.rollDamagedResponse longFrame).wf = false := by
  decide

theorem test_wf_frames_too_long :
    (Instr.upstreamFrameDiscarded (aFrame .response 0 1 longPayload)).wf = false ∧
    (Instr.badKind (aFrame .command 3 1 longPayload)).wf = false ∧
    (Instr.relayIntake (aFrame .command 0 1 longPayload)).wf = false ∧
    (Instr.fieldGoodResponse (aFrame .response 0 1 longPayload)).wf = false ∧
    (Instr.fieldFrameDiscarded (aFrame .response 0 1 longPayload)).wf = false ∧
    (Instr.rollChainedResponse (aFrame .response 0 1 longPayload)).wf = false := by
  decide

theorem test_wf_frames_of_another_row :
    (Instr.upstreamFrameDiscarded (bare .command 4 0)).wf = false ∧
    (Instr.upstreamFrameDiscarded (bare .command 3 63)).wf = false ∧
    (Instr.badKind (bare .command 1 0)).wf = false ∧ (Instr.badKind (bare .command 3 63)).wf = false ∧
    (Instr.badKind (bare .command 2 62)).wf = false ∧ (Instr.badKind (bare .response 3 62)).wf = false ∧
    (Instr.relayIntake (bare .command 3 62)).wf = false ∧ (Instr.relayIntake (bare .command 0 0)).wf = false ∧
    (Instr.relayIntake (bare .command 0 63)).wf = false ∧ (Instr.relayIntake (bare .response 0 1)).wf = false ∧
    (Instr.fieldGoodResponse (bare .command 0 1)).wf = false ∧
    (Instr.rollChainedResponse (bare .command 0 1)).wf = false := by
  decide

theorem test_wf_tags : (Instr.slowPollDue 0).wf = false ∧ (Instr.slowPollDue 63).wf = false := by decide

theorem test_wf_accepts :
    (Instr.clockSet (List.replicate 48 0)).wf = true ∧ (Instr.lineBreak .upstream (List.replicate 55 0)).wf = true ∧
    (Instr.upstreamFrameDiscarded (bare .command 4 1)).wf = true ∧ (Instr.badKind (bare .command 2 0)).wf = true ∧
    (Instr.relayIntake (bare .command 2 62)).wf = true ∧ (Instr.slowPollDue 62).wf = true ∧
    (Instr.fieldGoodResponse (bare .response 7 62)).wf = true := by
  decide

/-- No row of the table gives bits. -/
theorem test_decode_none (nbits w : Nat) : decodeTableWord nbits w = none := rfl

/-! ### The spec's worked examples -/

theorem test_crc : crc16 (by' [0x31, 0x32, 0x33, 0x34, 0x35, 0x36, 0x37, 0x38, 0x39]) = 0x29B1#16 := by decide

/-- The meter factor of 04 at 1,500 L/min. -/
theorem test_meterFactor :
    curveFactor [⟨300, 100420⟩, ⟨900, 100310⟩, ⟨1800, 100180⟩] 1500 = 100223 := by decide

/-- The gross and standard increments of 04's example. -/
theorem test_increments :
    grossStep 500 100223 100000 0 = (5011, 1500000000) ∧ vcf 950 2734 = 988277 ∧
    standardStep 5011 988277 0 = (4952, 256047) := by decide

theorem test_rounding : noteThousands 2500 = 2 ∧ noteThousands 3500 = 4 ∧ noteThousands 2501 = 3 := by decide

theorem test_owed : owedFor 5011 250 = 1253 ∧ owedFor 80000 250 = 20000 ∧ owedFor 11998101 250 = 2999526 := by decide

/-- The anticipation learned in 03's example. -/
theorem test_learned : learned 6000 (-1899) = 5051 ∧ learned 1000 (-4000) = 0 ∧ learned 49000 4001 = 50000 := by decide

/-- The average temperatures of R136. -/
theorem test_averages :
    roundHalfAway 19310362500 (10 * 9002500) = 215 ∧ roundHalfAway 21449 100 = 214 ∧
    roundHalfAway (-12350) 100 = -124 := by decide

/-- A DRIVE's bytes with its CRC are received whole and good; one bit changed makes the CRC bad. -/
theorem test_wire :
    rxStatus (frameWire (aFrame .command 2 13 (by' [1]))) = .whole true ∧
    (frameWire (aFrame .command 2 13 (by' [1]))).take 6 = by' [0xA0, 1, 13, 0x12, 0x34, 1] ∧
    rxStatus ((frameWire (aFrame .command 2 13 (by' [1]))).set 5 0) = .whole false := by decide

theorem test_queue_front :
    (({ State.reset with pending := [.swap] } : State).withFetchWord 8 0).pending = [.swap] := by decide

/-! ### The hypotheses of the statements can be met -/

theorem witness_StepRunsFrontCommand : ({ State.reset with pending := [.swap] } : State).pending = .swap :: [] := rfl

theorem witness_IdleStepPassesOneMicrosecond : State.reset.pending = [] := rfl

theorem witness_PermitStoreStaysInOrder :
    ∃ s t : State, s.store.permits = [aPermit] ∧ s.store.ok ∧ step s = .next t :=
  ⟨{ State.reset with store := { permits := [aPermit], orders := [anOrder] }, pending := [.arbiterTake] }, _, rfl,
    by unfold PermitStore.ok; decide, rfl⟩

theorem witness_OpenValvesOnlyOnMovingArms :
    ∃ s t : State, (s.arm .a2).commanded = .full ∧ s.valvesOk ∧ step s = .next t :=
  ⟨{ held .flowing fun a => { a with commanded := .full } with pending := [.arbiterTake] }, _, rfl,
    by intro n; cases n <;> decide, rfl⟩

/-- A healthy bay in RUN: BAY PERMIT is energized. -/
def permitted : State :=
  { held .flowing fun a => a with
    permissive :=
      { tag := some 30, healthy := true, bayPermit := true
        last := some { ground := true, dry := true, hose := true, estop := true, arrival := 0 } } }

theorem witness_BayPermitOnlyWhileItsConditionsHold :
    ∃ s t : State, s.permissive.bayPermit = true ∧ s.bayPermitOk ∧ step s = .next t :=
  ⟨{ permitted with pending := [.arbiterTake] }, _, rfl, by unfold State.bayPermitOk; decide, rfl⟩

theorem witness_LinesStayWithinTheirBounds : ∃ s t : State, s.linesOk ∧ step s = .next t :=
  ⟨{ State.reset with pending := [.arbiterTake] }, _, by unfold State.linesOk; decide, rfl⟩

def aProduct : Product := { cls := 2, beta := 950, recipe := 1, curve := ⟨0, 4, 0, 0⟩ }

/-- A bank with product 3 and the curve it names. -/
def aBank : BankTables :=
  { products := (List.replicate 15 none).set 2 (some aProduct)
    curves := (List.replicate 16 none).set 3 (some [⟨300, 100420⟩, ⟨900, 100310⟩]) }

theorem aBank_ok : aBank.ok := by
  intro p hp n
  have : p = aProduct := by
    simp [aBank] at hp
    exact hp
  subst this
  cases n <;> decide

theorem witness_BanksStaySelfConsistent :
    ∃ s t : State, s.banks.a.holdsProduct = true ∧ s.banksOk ∧ step s = .next t :=
  ⟨{ State.reset with banks := { a := aBank, b := aBank }, pending := [.arbiterTake] }, _, by decide,
    ⟨aBank_ok, aBank_ok⟩, rfl⟩

theorem witness_ActiveOrCapturedBankIsNotWritten :
    ∃ s t : State, s.pending.head? ≠ some .powerOnReset ∧ s.pending.head? ≠ some .resetInput ∧
      s.banks.active = .a ∧ 0 < s.banks.count .b ∧ step s = .next t :=
  ⟨{ State.reset with banks := { countB := 1 }, pending := [.swap] }, _, by decide, by decide, rfl, by decide, rfl⟩

/-- Both lines in a break. -/
def broken : State := { State.reset with up := { inBreak := true }, field := { inBreak := true } }

theorem witness_LineBreaksDiscardTheFrame :
    State.reset.up.inBreak = false ∧ State.reset.field.inBreak = false ∧ State.reset.field.exchange = none ∧
    (∀ src ∈ [Source.scan 0, Source.roll 2 1],
      (during src 1 0).field.inBreak = false ∧ (during src 1 0).field.rx ≠ .hunt ∧
      rxStatus ((during src 1 0).field.rx.bytes ++ by' [0]) = .incomplete ∧
      ((during src 1 0).field.exchange.map fun e => (e.source, e.dropped, e.tag)) = some (src, false, 1) ∧
      isNodeTag 1 = true ∧ (during src 1 0).nodes.length = 64 ∧ ((during src 1 0).node 1).score < 36 ∧
      ((during src 1 0).node 1).state = .ok) ∧
    broken.field.inBreak = true ∧ broken.up.inBreak = true := by decide

/-- Both receivers in HUNT on lines that have been silent for more than 2 ms. -/
def hunting : State := later 3 { State.reset with up := { rx := .hunt }, field := { rx := .hunt } }

theorem witness_AbandonedFramesAreCountedAndHunted :
    rxStatus (by' [1]) = .abandoned ∧ rxStatus (by' [0, 49]) = .abandoned ∧
    rxStatus (by' [0, 48, 64]) = .abandoned ∧ rxStatus (by' [0xF0, 48, 63]) = .incomplete ∧
    (0x10 : Byte).toNat % 16 = 0 ∧ State.reset.up.inBreak = false ∧ State.reset.up.sending = none ∧
    State.reset.up.rx = .idle ∧ State.reset.field.inBreak = false ∧ State.reset.field.rx = .idle ∧
    State.reset.field.exchange = none ∧ hunting.up.inBreak = false ∧ hunting.up.rx = .hunt ∧
    2 < (hunting.clock.ms - hunting.up.lastByte).toNat ∧ hunting.field.inBreak = false ∧ hunting.field.rx = .hunt ∧
    2 < (hunting.clock.ms - hunting.field.lastByte).toNat := by
  decide

/-- A response being transmitted. -/
def sendingOne : State :=
  { State.reset with up := { sending := some { response := { frame := bare .response 1 0 }, left := 1 } } }

theorem witness_BadUpstreamTrafficIsCountedUnanswered :
    State.reset.up.inBreak = false ∧ State.reset.up.sending = none ∧ State.reset.up.rx = .idle ∧
    rxStatus (by' [0, 0, 0, 0, 0, 0, 0]) = .whole false ∧ (bare .response 0 0).dir = .response ∧
    (4 ≤ (bare .command 4 1).kind.toNat ∧ (bare .command 4 1).tag ≠ 0) ∧ sendingOne.up.inBreak = false ∧
    sendingOne.up.sending = some { response := { frame := bare .response 1 0 }, left := 1 } := by
  decide

theorem witness_SentFramesAreReceivedGood : (aFrame .command 7 63 (List.replicate 48 0)).payload.length ≤ 48 := by
  decide

theorem witness_ResponsesAreSentInOrder :
    (∃ u : Upstream, u.sending = none ∧ u.outgoing = [{ frame := bare .response 1 0 }] ∧ u.rx = .idle ∧
      u.gap ≤ u.sinceByte) ∧
    (∃ u : Upstream, u.sending = some { response := { frame := bare .response 1 0 }, left := 0 }) ∧
    ∃ s : State, s.up.sending = some { response := { frame := bare .response 0 0, header := some (15, 7) }, left := 0 } ∧
      s.notes.slots[15]? = some { state := .filled, serial := some 7, isNew := true } :=
  ⟨⟨{ outgoing := [{ frame := bare .response 1 0 }], sinceByte := 500 }, rfl, rfl, rfl, by decide⟩,
    ⟨{ sending := some { response := { frame := bare .response 1 0 }, left := 0 } }, rfl⟩,
    { State.reset with
      up := { sending := some { response := { frame := bare .response 0 0, header := some (15, 7) }, left := 0 } }
      notes := { slots := (List.replicate 16 {}).set 15 { state := .filled, serial := some 7, isNew := true } } },
    rfl, rfl⟩

theorem witness_WrongKindIsRefused :
    State.reset.canHear ∧ (bare .command 2 0).payload.length ≤ 48 ∧ 2 ≤ (bare .command 2 0).kind.toNat ∧
    (bare .command 2 0).kind ≠ 3 ∧ (bare .command 3 0).tag = 0 ∧ (bare .command 3 0).kind = 3 ∧
    (bare .command 2 63).kind.toNat ≤ 2 ∧ (bare .command 3 62).tag ≠ 0 ∧ (bare .command 3 62).tag ≠ 63 :=
  ⟨reset_canHear, by decide⟩

/-- A refused ROLL is answered with tag 63 whatever tag it was sent to, and any other frame with its own (R187, R191). -/
theorem test_badKindTags :
    let tag (i : Instr) : Option Tag :=
      match exec i State.reset with
      | .next t => t.up.outgoing.head?.map fun r => r.frame.tag
      | _ => none
    (∀ t ∈ ([0, 1, 62] : List Tag), tag (.badKind (bare .command 3 t)) = some 63) ∧
    tag (.badKind (bare .command 2 0)) = some 0 ∧ tag (.badKind (bare .command 2 63)) = some 63 := by
  decide

/-- An acceptance table whose first entry gives tag 13 an action for an arm. -/
def accepting (action : Action) (arm : Option ArmId) (s : State) : State :=
  { s with
    acceptance := [{ dir := .either, kinds := 15, tagVal := 13, tagMask := 63, cls := { action := action, arm := arm } }] }

/-- The same with the relay queue full. -/
def relayFull (s : State) : State := { s with relayQueue := List.replicate 4 { frame := bare .command 0 1, cls := {} } }

theorem witness_RelayIntakeGatesThenQueues :
    (accepting .pass none State.reset).canHear ∧ (relayFull (accepting .pass none State.reset)).canHear ∧
    classify (accepting .pass none State.reset).acceptance (bare .command 2 13) = {} ∧
    (accepting .pass none State.reset).relayQueue.length < 4 ∧
    4 ≤ (relayFull (accepting .pass none State.reset)).relayQueue.length ∧
    (accepting .actuator (some .a2) permitted).canHear ∧
    classify (accepting .actuator (some .a2) permitted).acceptance (bare .command 2 13) =
      { action := .actuator, arm := some .a2 } ∧
    (accepting .actuator (some .a2) permitted).armState .a2 ≠ .idle ∧
    (accepting .actuator (some .a2) permitted).armState .a2 ≠ .blocked ∧
    (accepting .actuator (some .a1) permitted).armState .a1 = .idle ∧
    (accepting .actuator (some .a1) permitted).permissive.healthy = true ∧
    (accepting .actuator (some .a1) State.reset).permissive.healthy = false ∧
    (accepting .block none permitted).canHear ∧
    classify (accepting .block none permitted).acceptance (bare .command 0 13) = { action := .block } ∧
    (accepting .block none permitted).mode ≠ .service ∧ (accepting .block none State.reset).mode = .service :=
  ⟨⟨rfl, rfl, rfl, by decide⟩, ⟨rfl, rfl, rfl, by decide⟩, by decide, by decide, by decide, ⟨rfl, rfl, rfl, by decide⟩,
    by decide, by decide, by decide, by decide, by decide, by decide, ⟨rfl, rfl, rfl, by decide⟩, by decide⟩

theorem witness_RollIsRefusedOrQueued :
    State.reset.canHear ∧ (permitted.armState .a2).isActive = true ∧ permitted.canHear ∧
    (∀ n : ArmId, (State.reset.armState n).isActive = false) ∧ State.reset.relayQueue.length < 4 ∧
    ∃ s : State, s.canHear ∧ (∀ n : ArmId, (s.armState n).isActive = false) ∧ 4 ≤ s.relayQueue.length :=
  ⟨reset_canHear, by decide, ⟨rfl, rfl, rfl, by decide⟩, fun n => by cases n <;> rfl, by decide,
    { State.reset with relayQueue := List.replicate 4 { frame := bare .command 0 1, cls := {} } },
    ⟨rfl, rfl, rfl, by decide⟩, fun n => by cases n <;> rfl, by decide⟩

theorem witness_ServiceRequestLeavesRun :
    State.reset.canHear ∧ State.reset.mode ≠ .run ∧ permitted.canHear ∧ permitted.mode = .run ∧
    (permitted.armState .a2).isMoving = true ∧ (permitted.armState .a1).isMoving = false :=
  ⟨reset_canHear, by decide, ⟨rfl, rfl, rfl, by decide⟩, by decide⟩

/-- A bay that may enter RUN. -/
def runnable : State :=
  { State.reset with
    clock := { isSet := true }, configs := State.reset.configs.set .a2 aConfig, banks := { a := aBank }
    scans := State.reset.scans.set 31 { tag := 13, period := 50, cls := .fast, enabled := true } }

theorem witness_RunRequestNeedsItsConditions :
    runnable.canHear ∧ runnable.mode = .service ∧ runnable.clock.isSet = true ∧
    ((runnable.config .a2).meter.isSome = true ∧ (runnable.config .a2).valve.isSome = true) ∧
    (∃ e ∈ runnable.scans, e.enabled = true) ∧
    (runnable.banks.tables runnable.banks.active).holdsProduct = true ∧
    ({ runnable with mode := .servicePending } : State).mode = .servicePending ∧
    State.reset.clock.isSet = false ∧ permitted.mode = .run :=
  ⟨⟨rfl, rfl, rfl, by decide⟩, by decide⟩

theorem witness_ClearedFlagsStandWithTheirConditions : State.reset.canHear := reset_canHear

theorem witness_StatusReadsAsItStands : permitted.canHear := ⟨rfl, rfl, rfl, by decide⟩

theorem witness_ClockIsSetAndAdvances :
    State.reset.canHear ∧ fieldNat (by' [0, 1, 1, 0x51, 0x7F]) 2 3 = 86399 ∧
    86399 < fieldNat (by' [0, 1, 1, 0x51, 0x80]) 2 3 ∧ (by' [0]).length ≠ 5 ∧
    (∃ s : State, s.clock.isSet = true ∧ 1000 ≤ (s.clock.ms - s.clock.secondBase).toNat ∧ s.clock.second = 86399) ∧
    ∃ s : State, s.clock.isSet = true ∧ 1000 ≤ (s.clock.ms - s.clock.secondBase).toNat ∧ s.clock.second < 86399 :=
  ⟨reset_canHear, by decide, by decide, by decide,
    ⟨{ State.reset with clock := { ms := 1000, isSet := true, second := 86399 } }, by decide⟩,
    ⟨{ State.reset with clock := { ms := 1000, isSet := true, second := 86398 } }, by decide⟩⟩

theorem witness_HostSilenceIsDeclared :
    (later 30000 State.reset).status.silenceDeadline = some 30000 ∧
    ((later 30000 State.reset).clock.ms - (30000 : Ms)).toNat < 2147483648 := by decide

theorem witness_BankControlReadsAndSwaps :
    State.reset.canHear ∧ ({ State.reset with banks := { b := aBank } } : State).canHear ∧
    (∃ p, some p ∈
      (({ State.reset with banks := { b := aBank } } : State).banks.tables
        (otherBank ({ State.reset with banks := { b := aBank } } : State).banks.active)).products) ∧
    (¬∃ p, some p ∈ (State.reset.banks.tables (otherBank State.reset.banks.active)).products) ∧ (2 : Byte) ≠ 1 :=
  ⟨reset_canHear, ⟨rfl, rfl, rfl, by decide⟩, ⟨aProduct, by decide⟩,
    by intro h; obtain ⟨p, hp⟩ := h; simp [State.reset, otherBank, Banks.tables] at hp, by decide⟩

theorem witness_RestartKeepsWhatTheHostLoaded :
    State.reset.canHear ∧ (1 : Byte) ≠ 0 ∧ State.reset.mode = .service ∧ State.reset.session.state = .vacant ∧
    State.reset.relayQueue = [] ∧ State.reset.field.exchange = none ∧ permitted.mode ≠ .service ∧
    permitted.session.state ≠ .vacant :=
  ⟨reset_canHear, by decide⟩

theorem witness_SessionAbortEndsTheSession :
    State.reset.canHear ∧ State.reset.session.state = .vacant ∧ permitted.canHear ∧
    permitted.session.state = .opened ∧ permitted.session.hostAbort = false ∧
    (permitted.armState .a2).isMoving = true ∧ permitted.armState .a1 = .idle ∧
    (held .armed fun a => a).armState .a2 = .armed ∧ (held .armed fun a => a).session.state = .opened ∧
    ({ State.reset with session := { state := .codeEntry } } : State).canHear ∧
    ({ State.reset with session := { state := .codeEntry } } : State).session.state = .codeEntry :=
  ⟨reset_canHear, by decide, ⟨rfl, rfl, rfl, by decide⟩, by decide, by decide, by decide, by decide, by decide,
    by decide, ⟨rfl, rfl, rfl, by decide⟩, rfl⟩

/-- Arm 2 HALTED by the host, and arm 2 BLOCKED with its valve proven closed. -/
def hostStopped : State := held .halted fun a => { a with causes := { hostStop := true } }
def clearable : State := held .blocked fun a => { a with lastValve := some ⟨.closed, true⟩ }

theorem witness_ArmCommandsNeedTheirStates :
    permitted.canHear ∧ (permitted.armState .a2).isLoading = true ∧ (permitted.armState .a1).isLoading = false ∧
    hostStopped.canHear ∧ hostStopped.armState .a2 = .halted ∧ (hostStopped.arm .a2).causes.hostStop = true ∧
    clearable.canHear ∧ clearable.armState .a2 = .blocked ∧ (clearable.config .a2).valve = some 13 ∧
    clearable.nodeOk 13 = true ∧ (clearable.arm .a2).lastValve = some ⟨.closed, true⟩ ∧
    clearable.armState .a1 ≠ .blocked ∧ (0 : Byte).toNat = 0 ∧ 4 < (5 : Byte).toNat :=
  ⟨⟨rfl, rfl, rfl, by decide⟩, by decide, by decide, ⟨rfl, rfl, rfl, by decide⟩, by decide, by decide,
    ⟨rfl, rfl, rfl, by decide⟩, by decide⟩

theorem witness_ConfigurationWriteResetsItsArm :
    State.reset.canHear ∧ (configBytes aConfig).length = 17 ∧ State.reset.mode = .service ∧
    readConfig (configBytes aConfig) = some aConfig ∧ readConfig (List.replicate 17 0) = none ∧
    permitted.mode ≠ .service :=
  ⟨reset_canHear, by decide⟩

theorem witness_EntriesAndGapAreWrittenInService :
    State.reset.canHear ∧ readAcceptance (by' [0, 1, 13, 63, 0, 0, 0, 0, 2, 2, 0]) ≠ none ∧
    readAcceptance (by' [0, 1, 13, 0, 0, 0, 0, 0, 2, 2, 0]) = none ∧
    readScan (by' [62, 0, 1, 0, 50, 1, 1]) ≠ none ∧ readScan (by' [63, 0, 1, 0, 50, 1, 1]) = none ∧
    fieldNat (by' [0, 100]) 0 2 = 100 ∧ fieldNat (by' [7, 0xD0]) 0 2 = 2000 ∧ fieldNat (by' [0, 99]) 0 2 < 100 ∧
    2000 < fieldNat (by' [7, 0xD1]) 0 2 ∧ State.reset.mode = .service ∧ permitted.mode ≠ .service :=
  ⟨reset_canHear, by decide⟩

def aProductBytes (code : Nat) : List Byte := productBytes code (some { aProduct with curve := ⟨0, 0, 0, 0⟩ })

theorem witness_BankRecordsAreWrittenToAFreeBank :
    State.reset.canHear ∧ State.reset.banks.active ≠ .b ∧ State.reset.banks.count .b = 0 ∧
    readProduct State.reset.banks.b 15 (aProductBytes 15) ≠ none ∧
    readCurve State.reset.banks.b 16 (curveBytes (some [⟨300, 100420⟩, ⟨900, 100310⟩])) ≠ none ∧
    readRecipe (recipeBytes ⟨some ⟨7, 250, 20000, 5⟩, none⟩) ≠ none ∧ (aProductBytes 15).length = 10 ∧
    (curveBytes none).length = 25 ∧ (recipeBytes ⟨none, none⟩).length = 14 ∧ State.reset.banks.active = .a ∧
    0 < ({ countB := 1 } : Banks).count .b :=
  ⟨reset_canHear, by decide⟩

theorem witness_MultiRecordSetStopsAtTheFirstRefusal :
    State.reset.canHear ∧ State.reset.banks.active ≠ .b ∧ State.reset.banks.count .b = 0 ∧
    readProduct State.reset.banks.b 14 (aProductBytes 14) ≠ none ∧
    readProduct State.reset.banks.b 15 (aProductBytes 15) ≠ none ∧
    readProduct State.reset.banks.b 15 (aProductBytes 14) = none ∧ (aProductBytes 14).length = 10 ∧
    (by' [1]).length % 10 ≠ 0 :=
  ⟨reset_canHear, by decide⟩

theorem witness_PermitsAreInsertedAtTheirRank :
    (∃ s : State, s.canHear ∧ s.store.ok ∧ s.store.permits = [] ++ aPermit :: []) ∧ State.reset.store.ok ∧
    readPermit (permitBytes aPermit) = .ok aPermit ∧ (permitBytes aPermit).length ≤ 48 ∧
    readPermit [] = .error .badLength ∧ State.reset.store.permits = [] ++ [] ∧ State.reset.store.permits.length < 512 :=
  ⟨⟨{ State.reset with store := { permits := [aPermit] } }, ⟨rfl, rfl, rfl, by decide⟩, by unfold PermitStore.ok; decide,
      rfl⟩, by unfold PermitStore.ok; decide, by decide, by decide, by decide, rfl, by decide⟩

/-- A full table: 512 permits. -/
def fullTable : List Permit := (List.range 512).map fun i => { aPermit with card := i }

theorem witness_PermitsAreInsertedAtTheirRank_full :
    fullTable.length = 512 ∧ (∀ q ∈ fullTable, q.card ≠ aPermit.card) ∧
    ({ permits := fullTable } : PermitStore).ok := by
  have hok : ∀ i : Nat, Permit.ok { aPermit with card := i } = true := fun _ => rfl
  refine ⟨by simp [fullTable], ?_, ?_, ?_, ?_, by decide, by decide, by decide⟩
  · intro q hq
    simp only [fullTable, List.mem_map, List.mem_range] at hq
    obtain ⟨i, hi, rfl⟩ := hq
    simp only [aPermit]
    omega
  · simp [fullTable]
  · exact List.pairwise_map.2 (List.pairwise_lt_range.imp fun h => h)
  · intro q hq
    simp only [fullTable, List.mem_map, List.mem_range] at hq
    obtain ⟨i, _, rfl⟩ := hq
    exact hok i

/-- A store with one permit and one order. -/
def stored : State := { State.reset with store := { permits := [aPermit], orders := [anOrder] } }

theorem stored_canHear : stored.canHear := ⟨rfl, rfl, rfl, by decide⟩

theorem witness_PermitRemoveAndLookupKey :
    stored.canHear ∧ stored.store.ok ∧ ([] : List Byte).length ≠ 5 ∧
    (∃ b ∈ by' [0xA0, 0, 0, 0, 0], 9 < b.toNat / 16 ∨ 9 < b.toNat % 16) ∧
    readCard (cardBytes 41730200) = .ok 41730200 ∧ stored.store.permits = [] ++ aPermit :: [] ∧
    aPermit.card = 41730200 ∧ readCard (cardBytes 1) = .ok 1 ∧ (∀ q ∈ stored.store.permits, q.card ≠ 1) :=
  ⟨stored_canHear, by unfold PermitStore.ok; decide, by decide, by decide, by decide, rfl, rfl, by decide, by decide⟩

/-- A full order table. -/
def fullOrders : State :=
  { State.reset with store := { orders := (List.range 32).map fun i => { anOrder with card := i } } }

theorem witness_OrdersAreInsertedAndRemoved :
    stored.canHear ∧ readOrder [] = .error .badLength ∧ readOrder (orderBytes anOrder) = .ok anOrder ∧
    (orderBytes anOrder).length ≤ 48 ∧ (∃ x ∈ stored.store.orders, x.card = anOrder.card) ∧ fullOrders.canHear ∧
    32 ≤ fullOrders.store.orders.length ∧ (∀ x ∈ fullOrders.store.orders, x.card ≠ anOrder.card) ∧
    (∀ x ∈ State.reset.store.orders, x.card ≠ anOrder.card) ∧ readCard [] = .error .badLength ∧
    readCard (cardBytes 41730200) = .ok anOrder.card ∧ readCard (cardBytes 1) = .ok 1 ∧
    (∀ x ∈ stored.store.orders, x.card ≠ 1) :=
  ⟨stored_canHear, by decide, by decide, by decide, by decide, ⟨rfl, rfl, rfl, by decide⟩, by decide, by decide,
    by decide, by decide, by decide, by decide, by decide⟩

/-- A note not yet read. -/
def aFilled : NoteSlot := { state := .filled, serial := some 7, isNew := true }

/-- A note store with one slot in use. -/
def withSlot (x : NoteSlot) : State := { State.reset with notes := { slots := (List.replicate 16 {}).set 15 x } }

theorem witness_ReleaseFreesTheFirstFilledSlot :
    (withSlot aFilled).canHear ∧ (by' [0, 0, 0, 7]).length = 4 ∧ fieldNat (by' [0, 0, 0, 7]) 0 4 = 7 ∧
    (by' [7]).length ≠ 4 ∧ (withSlot aFilled).notes.slots[15]? = some aFilled ∧ aFilled.state = .filled ∧
    aFilled.serial = some 7 ∧ (∀ y ∈ (withSlot aFilled).notes.slots.take 15, ¬(y.state = .filled ∧ y.serial = some 7)) ∧
    (∃ x ∈ (withSlot { aFilled with state := .updating }).notes.slots, x.state = .updating ∧ x.serial = some 7) ∧
    (∀ x ∈ (withSlot { aFilled with state := .updating }).notes.slots, ¬(x.state = .filled ∧ x.serial = some 7)) ∧
    (∀ x ∈ State.reset.notes.slots, ¬(x.state = .filled ∧ x.serial = some 7)) ∧
    (∀ x ∈ State.reset.notes.slots, ¬(x.state = .updating ∧ x.serial = some 7)) :=
  ⟨⟨rfl, rfl, rfl, by decide⟩, by decide, by decide, by decide, by decide, by decide, by decide, by decide, by decide,
    by decide, by decide, by decide⟩

theorem witness_SlotHeaderReadsAsItStands :
    State.reset.canHear ∧ State.reset.notes.slots[(15 : Fin 16).val]? = some {} := ⟨reset_canHear, by decide⟩

theorem witness_PermitsAreReadByRank :
    stored.canHear ∧ stored.store.permits[0]? = some aPermit ∧ stored.store.permits.length ≤ 511 ∧
    fullTable[511]? = some { aPermit with card := 511 } :=
  ⟨stored_canHear, rfl, by decide, by simp [fullTable]⟩

theorem witness_OrdersAreReadByRank :
    stored.canHear ∧ stored.store.orders[0]? = some anOrder ∧ stored.store.orders.length ≤ 31 ∧
    fullOrders.store.orders[31]? = some { anOrder with card := 31 } ∧ stored.store.orders = [] ++ anOrder :: [] ∧
    (stored.store.orders.map fun x => x.card).Nodup ∧
    ({ stored with session := aSession } : State).session.card = some anOrder.card ∧
    (∀ x ∈ State.reset.store.orders, x.card ≠ anOrder.card) ∧ State.reset.store.orders.length < 32 :=
  ⟨stored_canHear, rfl, by decide, by decide, rfl, by decide, rfl, by decide, by decide⟩

theorem witness_ReadOnlyObjectsRefuseASet :
    State.reset.canHear ∧ objectAt 0x0007 = none ∧ objectAt 0x5009 = none ∧
    (0x50F8 : ObjAddr) = BitVec.ofNat 16 (0x5000 + 16 * (15 : Fin 16).val + (8 : Fin 9).val) ∧
    (0x25FF : ObjAddr) = BitVec.ofNat 16 (0x2400 + (511 : Fin 512).val) :=
  ⟨reset_canHear, by decide⟩

theorem witness_PermitRecordsReadBack : aPermit.ok = true ∧ aPermit.card < 10000000000 ∧ aPermit.expiry < 65536 := by
  decide

/-- A scan entry of tag 13 that has never started, hence due. -/
def aScan (cls : ScanClass) : ScanEntry := { tag := 13, period := 50, cls := cls, enabled := true }

theorem witness_ArbiterTakesTheFirstEligibleSource :
    State.reset.field.exchange = none ∧ [Cmd.valve .a1 13 .low 0] ≠ [] ∧ isNodeTag 13 = true ∧
    (held .halted fun a => a).cmdQueue = [] ∧
    ((held .halted fun a => a).refreshIsDue .a2 = true ∧ (held .halted fun a => a).refreshIsDue .a1 = false) ∧
    (∀ n, State.reset.refreshIsDue n = false) ∧
    ({ State.reset with scans := [aScan .fast] } : State).scanIsDue (aScan .fast) = true ∧
    ({ State.reset with scans := [aScan .normal] } : State).dueScan .fast = none ∧
    State.reset.dueScan .fast = none ∧ State.reset.gatePasses {} = true ∧
    State.reset.gatePasses { action := .actuator, arm := some .a1 } = false ∧
    (∀ n, (State.reset.armState n).isActive = false) ∧ State.reset.dueScan .normal = none ∧
    ({ State.reset with
        nodes := State.reset.nodes.set 13 { state := .lost, slowDue := some 0 }, scans := [aScan .fast] } :
          State).pollIsDue 13 = true :=
  ⟨rfl, by decide, by decide, rfl, by decide, fun n => by cases n <;> rfl, by decide, by decide, by decide, by decide,
    by decide, fun n => by cases n <;> rfl, by decide, by decide⟩

theorem witness_DueMarksAreLatched :
    ({ aScan .fast with lastStart := some 0 } : ScanEntry).period ≤ ((later 50 State.reset).clock.ms - (0 : Ms)).toNat ∧
    ((held .halted fun a => a).config .a2).valve = some 13 ∧ (held .halted fun a => a).armState .a2 ≠ .idle ∧
    (held .halted fun a => a).nodeLost 13 = false ∧ (held .halted fun a => a).valveQueued .a2 = false ∧
    500 ≤ ((later 500 State.reset).clock.ms - (0 : Ms)).toNat ∧
    ({ State.reset with nodes := State.reset.nodes.set 13 { state := .lost, slowDue := some 0 } } :
      State).nodeLost 13 = true ∧ isNodeTag 13 = true := by decide

theorem witness_FieldFramesAreTakenOrDiscarded :
    (during (.scan 0) 13 0).field.inBreak = false ∧ (during (.scan 0) 13 0).field.rx = .idle ∧
    (during (.scan 0) 13 0).field.exchange.isSome = true ∧ isNodeTag 13 = true ∧
    ((during (.scan 0) 13 0).node 13).state = .ok ∧ ((during (.scan 0) 13 0).node 13).score < 40 ∧
    classify (accepting .meterCount (some .a2) State.reset).acceptance (aFrame .response 0 13 (by' [1, 2, 0])) =
      { action := .meterCount, arm := some .a2 } ∧
    readMeterCount (by' [1, 2, 0]) = some (258, true) ∧ readMeterCount (by' [1, 2, 2]) = none ∧
    readTemperature (by' [0xF0, 0x60, 1]) = some (-4000, true) ∧ readTemperature [] = none ∧
    readValveStatus (by' [3, 1]) ≠ none ∧ readValveStatus (by' [4, 1]) = none ∧
    readInjector (by' [0, 0, 0, 9, 255]) = some (9, 255) ∧ readInjector [] = none ∧
    readPermissive (by' [15, 3]) 0 ≠ none ∧ readPermissive (by' [16, 3]) 0 = none ∧
    readReader (by' [1, 0, 4, 0x41, 0x73, 2, 9, 0, 0, 0, 0, 0, 0, 0, 13]) ≠ none ∧ readReader [] = none ∧
    State.reset.field.exchange = none ∧ (Source.scan 0).isRoll = false := by decide

theorem witness_RelayedExchangeIsAnsweredOnce :
    (during .relay 13 20).fieldListens ∧
    ((during .relay 13 20).field.exchange.map fun e => (e.source, e.dropped, e.tag, e.frame.tag, e.toSend)) =
      some (.relay, false, 13, 13, 0) ∧ (during .relay 13 20).field.exchange.map (·.waitFrom) = some 0 ∧
    (during .relay 13 20).clock.ms = 20 ∧
    isNodeTag 13 = true ∧ ((during .relay 13 20).node 13).state = .ok ∧
    ((during .relay 13 20).node 13).score < 36 ∧ (during .relay 13 20).up.outgoing.length < 8 ∧
    classify State.reset.acceptance (bare .response 0 13) = {} ∧
    rxStatus (by' [0, 0, 13, 0, 0, 0, 0]) = .whole false :=
  ⟨⟨rfl, rfl⟩, by decide⟩

theorem witness_CommandQueueReplacesAndRetries :
    ((held .flowing fun a => a).config .a2).valve = some 13 ∧ (held .flowing fun a => a).nodeLost 13 = false ∧
    [Cmd.valve .a2 13 .low 1] = [] ++ .valve .a2 13 .low 1 :: [] ∧
    (∀ c ∈ (held .flowing fun a => a).cmdQueue, c.isValveOf .a2 = false) ∧
    ({ State.reset with nodes := State.reset.nodes.set 13 { state := .lost } } : State).nodeLost 13 = true ∧
    State.reset.session.readerTag = none ∧ State.reset.valveReserve < 8 - State.reset.cmdQueue.length ∧
    8 - (List.replicate 7 (Cmd.shot .a1 .s1 21 0 1)).length ≤
      ({ held .flowing fun a => a with cmdQueue := List.replicate 7 (Cmd.shot .a1 .s1 21 0 1) } : State).valveReserve ∧
    (Ending.good (bare .response 2 13)).isDone = false ∧ (Ending.good (bare .response 2 13)).isGood = true ∧
    Ending.timeout.isGood = false := by
  decide

theorem witness_RollRelaysCountsAndCloses :
    (during (.roll 2 0) 63 10).fieldListens ∧
    ((during (.roll 2 1) 63 10).field.exchange.map fun e => (e.source, e.dropped, e.muted, e.toSend, e.waitFrom)) =
      some (.roll 2 1, false, false, 0, 0) ∧ (during (.roll 2 1) 63 10).clock.ms = 10 ∧
    (during (.roll 2 0) 63 10).up.outgoing.length < 8 ∧ classify State.reset.acceptance (bare .response 0 13) = {} ∧
    (State.reset.node 13).state = .ok ∧ rxStatus (by' [0, 0, 13, 0, 0, 0, 0]) = .whole false ∧
    queryAddress 0x0001 State.reset = .ok [0] ∧ objectAt 0x0001 ≠ some .statusFlags ∧
    queryAddress 0x0007 State.reset = .error .noObject :=
  ⟨⟨rfl, rfl⟩, by decide⟩

theorem witness_ReportsUpdateTheirRecords :
    (held .halted fun a => a).nodeLost 13 = false ∧ ((held .halted fun a => a).config .a2).temp = some 12 ∧
    ((held .halted fun a => a).config .a2).valve = some 13 ∧ ((held .halted fun a => a).arm .a2).trip = false ∧
    ((held .halted fun a => a).arm .a2).closeTime = none ∧ (State.reset.config .a1).temp ≠ some 12 ∧
    ((held .halted fun a => { a with closeTime := some 0, zeroRun := 2 }).arm .a2).settled = false ∧
    2 ≤ ((held .halted fun a => { a with closeTime := some 0, zeroRun := 2 }).arm .a2).zeroRun ∧
    (held .halted fun a => a).session.hostAbort = false ∧
    ((held .halted fun a => { a with trip := true }).arm .a2).trip = true ∧ (held .halted fun a => a).nodeOk 13 = true ∧
    ((held .halted fun a => a).config .a2).injector.get .s1 = some 21 ∧
    ((held .halted fun a => a).dose .a2 .s1).baseline = none ∧
    ((held .halted fun a => a).dose .a2 .s1).outstanding = none ∧
    ((held .halted fun a => a).armState .a2).isLoading = true ∧ ((held .halted fun a => a).arm .a2).held = some 1 ∧
    permitted.permissive.tag = some 30 ∧ permitted.permissive.tag ≠ some 31 ∧
    permitted.permissive.deadmanBase = none ∧ State.reset.reader.seqs = none ∧
    ({ tag := some 40, seqs := some (255, 9) } : Extraction).seqs = some (255, 9) := by decide

/-- Arm 2 metering, its baseline 65,000 pulses at the clock's start. -/
def metering (run : Nat) (s : State) : State :=
  later 200 { s with metering := s.metering.set .a2 { baseline := some (65000, 0), run := run } }

theorem witness_FirstCountOnlySetsTheBaseline :
    ((held .flowing fun a => a).config .a2).meter = some 11 ∧ (held .flowing fun a => a).nodeLost 11 = false ∧
    ((held .flowing fun a => a).meter .a2).baseline = none := by decide

theorem witness_AcceptedSampleIsCredited :
    ((metering 0 permitted).config .a2).meter = some 11 ∧ (metering 0 permitted).nodeLost 11 = false ∧
    ((metering 0 permitted).meter .a2).baseline = some (65000, 0) ∧
    (64 + 65536 - 65000) % 65536 * 60000000 / (100000 * max 20 (min 5000 ((metering 0 permitted).clock.ms - 0).toNat)) ≤
      2 * ((metering 0 permitted).config .a2).maxFlow ∧
    2 * ((metering 0 permitted).config .a2).maxFlow <
      (500 + 65536 - 65000) % 65536 * 60000000 * 10 / (100000 * max 20 (min 5000 200)) ∧
    ((metering 1 permitted).meter .a2).run < 2 ∧ 2 ≤ ((metering 2 permitted).meter .a2).run ∧
    (permitted.armState .a2).isLoading = true ∧ (permitted.heldComp .a2).isSome = true ∧
    ((held .idle fun a => a).armState .a2).isLoading = false := by decide

theorem witness_MeteringArithmeticLosesNothing :
    0 < aConfig.kFactor ∧ (1500 : Nat) ≤ 1500 ∧ (-4000 : Int) ≤ 6000 ∧ (⟨300, 0⟩ : CurvePoint).rate ≤ 300 ∧
    300 < (⟨301, 0⟩ : CurvePoint).rate := by decide

theorem witness_SettledArmCompletesItsCompartment :
    let s := held .closing fun a => { a with closeTime := some 0, closedSeen := true, zeroRun := 2 }
    s.armState .a2 = .closing ∧ s.heldComp .a2 = some aComp ∧ (s.arm .a2).closeTime.isSome = true ∧
    (s.arm .a2).closedSeen = true ∧ 2 ≤ (s.arm .a2).zeroRun ∧ (s.arm .a2).settled = false :=
  ⟨rfl, by decide, rfl, rfl, by decide, rfl⟩

/-- A VACANT bay in RUN with the card's permit, its order and the product. -/
def open' (p : Permit) : State :=
  { State.reset with
    mode := .run, store := { permits := [p], orders := [anOrder] }, banks := { a := aBank } }

theorem witness_AdmissionChecksInOrder :
    (held .idle fun a => a).session.state ≠ .vacant ∧ (open' aPermit).session.state = .vacant ∧
    State.reset.mode ≠ .run ∧ (open' aPermit).mode = .run ∧ (open' aPermit).status.hostLost = false ∧
    findPermit (open' aPermit).store.permits 41730200 = some aPermit ∧ (∀ p ∈ [aPermit], p.card ≠ 1) ∧
    ({ aPermit with status := .locked } : Permit).status = .locked ∧
    ({ aPermit with status := .suspended } : Permit).status = .suspended ∧ aPermit.status = .active ∧
    (open' aPermit).clock.day ≤ aPermit.expiry ∧ ({ aPermit with expiry := 0 } : Permit).expiry < 1 ∧
    findOrder (open' aPermit).store.orders 41730200 = some anOrder ∧
    ((open' aPermit).banks.tables (open' aPermit).banks.active).product? 3 = some aProduct ∧
    aPermit.classes.getLsbD aProduct.cls = true ∧ ({ aPermit with classes := 0 } : Permit).classes.getLsbD 2 = false ∧
    (anOrder.entries.map fun e => e.preset).sum ≤ aPermit.maxLoad ∧
    ({ aPermit with maxLoad := 59999 } : Permit).maxLoad < (anOrder.entries.map fun e => e.preset).sum ∧
    (open' aPermit).notes.slots[0]? = some ({} : NoteSlot) ∧ (∀ x ∈ List.replicate 16 aFilled, x.state ≠ .free) ∧
    aPermit.code = some [4, 7, 7, 1] ∧ ({ aPermit with code := none } : Permit).code = none := by decide

theorem witness_DriverCodeIsCheckedAndCharged :
    findPermit [aPermit] 41730200 = some aPermit ∧ aPermit.status = .active ∧ 2 ≤ aPermit.attempts ∧
    ({ aPermit with attempts := 1 } : Permit).attempts + 1 < 3 ∧ aPermit.code = some [4, 7, 7, 1] ∧
    (some [4, 7, 7, 2] : Option (List Nat)) ≠ aPermit.code ∧ (∀ p ∈ [aPermit], p.card ≠ 1) := by decide

theorem witness_StartMovesArmedAndSettledArms :
    permitted.session.hostAbort = false ∧ permitted.mode = .run ∧ permitted.permissive.healthy = true ∧
    (∀ n m : ArmId, n ≠ m → (permitted.arm n).held ≠ none → (permitted.arm n).held ≠ (permitted.arm m).held) ∧
    (held .armed fun a => a).armState .a2 = .armed ∧ (held .armed fun a => a).heldComp .a2 = some aComp ∧
    (held .halted fun a => { a with settled := true, causes := { driverStop := true } }).armState .a2 = .halted ∧
    { ((held .halted fun a => { a with settled := true, causes := { driverStop := true } }).arm .a2).causes with
      driverStop := false, deadman := false, additive := false } = ({} : Causes) ∧
    State.reset.mode ≠ .run ∧ (held .armed fun a => a).permissive.healthy = false :=
  ⟨rfl, rfl, rfl, fun n m => by cases n <;> cases m <;> decide, rfl, by decide, rfl, rfl, by decide, rfl⟩

/-- CODE ENTRY at its limit. -/
def codeLate : State :=
  later 30000 { State.reset with session := { state := .codeEntry, codeDeadline := some 30000 } }

/-- An OPEN session at its idle limit. -/
def idleLate : State := later 1800000 (held .idle fun a => a)

theorem witness_SessionLimitsEndTheSession :
    codeLate.session.state = .codeEntry ∧ codeLate.session.codeDeadline = some 30000 ∧
    (codeLate.clock.ms - (30000 : Ms)).toNat < 2147483648 ∧ idleLate.session.state = .opened ∧
    (∀ n : ArmId, (idleLate.armState n).isHeld = false) ∧ idleLate.session.idleBase = some 0 ∧
    (idleLate.clock.ms - ((0 : Ms) + BitVec.ofNat 32 1800000)).toNat < 2147483648 :=
  ⟨rfl, rfl, by decide, rfl, fun n => by cases n <;> rfl, rfl, by decide⟩

/-- An arm ARMED, settling and HALTED, each at its limit. -/
def armedLate : State := later 120000 (held .armed fun a => { a with armedDeadline := some 120000 })
def settleLate : State := later 15000 (held .closing fun a => { a with settleDeadline := some 15000 })
def haltLate : State := later 600000 (held .halted fun a => { a with haltDeadline := some 600000 })

theorem witness_ArmLimitsReleaseTheArm :
    (armedLate.armState .a2 = .armed ∧ (armedLate.arm .a2).armedDeadline = some 120000 ∧
      (armedLate.clock.ms - (120000 : Ms)).toNat < 2147483648 ∧ armedLate.heldComp .a2 = some aComp ∧
      aComp.bank = some .a) ∧
    (settleLate.armState .a2 = .closing ∧ (settleLate.arm .a2).settled = false ∧
      (settleLate.arm .a2).settleDeadline = some 15000 ∧
      (settleLate.clock.ms - (15000 : Ms)).toNat < 2147483648 ∧ settleLate.heldComp .a2 = some aComp) ∧
    haltLate.armState .a2 = .halted ∧ (haltLate.arm .a2).haltDeadline = some 600000 ∧
    (haltLate.clock.ms - (600000 : Ms)).toNat < 2147483648 ∧ haltLate.heldComp .a2 = some aComp ∧
    aComp.closing = none := by decide

/-- Arm 2 in a state with a temperature gone stale and a shot overdue. -/
def staleAndOverdue (st : ArmState) : State :=
  later 10000
    { held st fun a => a with
      metering := State.reset.metering.set .a2 { staleDeadline := some 10000 }
      dosing := State.reset.dosing.set .a2 ⟨{ outstanding := some ⟨255, 20000⟩, deadline := some 10000 }, {}⟩ }

theorem witness_StaleTemperatureAndOverdueShotOfferTheirCause :
    (∀ st ∈ [ArmState.flowing, .halted, .idle],
      ((staleAndOverdue st).meter .a2).staleDeadline = some 10000 ∧
      ((staleAndOverdue st).clock.ms - (10000 : Ms)).toNat < 2147483648 ∧
      ((staleAndOverdue st).dose .a2 .s1).outstanding = some ⟨255, 20000⟩ ∧
      ((staleAndOverdue st).dose .a2 .s1).deadline = some 10000) ∧
    ((staleAndOverdue .flowing).armState .a2).isActive = true ∧ (staleAndOverdue .halted).armState .a2 = .halted ∧
    ((staleAndOverdue .idle).armState .a2).isLoading = false := by decide

/-- A flowing bay whose report age, warning time and deadman deadline have been reached. -/
def permissiveLate (d : DeadmanState) : State :=
  later 90000
    { permitted with
      permissive :=
        { permitted.permissive with
          ageDeadline := some 90000, deadman := d, warnAt := some 90000, expireAt := some 90000 } }

theorem witness_PermissiveDeadlinesHaltTheArms :
    (∀ d ∈ [DeadmanState.live, .warned],
      (permissiveLate d).permissive.ageDeadline = some 90000 ∧ (permissiveLate d).permissive.warnAt = some 90000 ∧
      (permissiveLate d).permissive.expireAt = some 90000 ∧ (permissiveLate d).permissive.deadman = d ∧
      ((permissiveLate d).clock.ms - (90000 : Ms)).toNat < 2147483648 ∧
      (permissiveLate d).permissive.healthy = true ∧ ((permissiveLate d).armState .a2).isMoving = true ∧
      ((permissiveLate d).armState .a2).isActive = true ∧ ((permissiveLate d).armState .a1).isMoving = false) ∧
    (∀ n : ArmId, ((later 90000 State.reset).armState n).isMoving = false) ∧
    (later 90000 State.reset).permissive.healthy = false :=
  ⟨by decide, fun n => by cases n <;> rfl, rfl⟩

/-- A slot being compiled with some pages written. -/
def compiling (written : Nat) : State :=
  { State.reset with
    session := { aSession with state := .ending }
    notes :=
      { held := some 15
        slots := (List.replicate 16 {}).set 15 { state := .updating, serial := some 7, written := written } } }

theorem witness_CompileWritesPagesThenFillsTheSlot :
    State.reset.compiling = none ∧ ({ aComp with gross := 0 } : Comp).gross = 0 ∧ 0 < aComp.gross ∧
    500 % 1000 = 500 ∧ (compiling 0).notes.held = some 15 ∧
    (compiling 0).notes.slots[15]? = some { state := .updating, serial := some 7 } ∧
    (compiling 0).session.comps ≠ [] ∧ (compiling 1).notes.held = some 15 ∧
    (compiling 1).notes.slots[15]? = some { state := .updating, serial := some 7, written := 1 } ∧
    (compiling 1).session.comps[1 - 1]? = some aComp ∧ 1 = (compiling 1).session.comps.length ∧
    1 < ({ compiling 1 with session := { aSession with comps := [aComp, aComp] } } : State).session.comps.length := by
  decide

/-! ### More forms of the statements -/

theorem witness_IdleStepPassesOneMicrosecond_bytes :
    let byte : WireByte := { wait := 1, byte := 0x80 }
    let up (x : Upstream) : State := { State.reset with up := { x with wire := [byte] } }
    let field (x : FieldLine) : State := { State.reset with field := { x with wire := [byte] } }
    1 < ({ byte with wait := 2 } : WireByte).wait ∧ byte.wait ≤ 1 ∧ (up { inBreak := true }).up.inBreak = true ∧
    (up sendingOne.up).up.sending.isSome = true ∧ (up {}).up.inBreak = false ∧ (up {}).up.sending = none ∧
    (up sendingOne.up).up.inBreak = false ∧ (up {}).up.wire = byte :: [] ∧ (up {}).pending = [] ∧
    (field { inBreak := true }).field.inBreak = true ∧ (field {}).field.inBreak = false ∧
    (field {}).field.wire = byte :: [] ∧ (field {}).pending = [] := by
  decide

/-- Both receivers hold the first bytes of a frame, the last of them received `ms` readings ago. -/
def receivingOn (ms : Nat) : State :=
  later ms
    { State.reset with
      up := { rx := .receiving (by' [0x80, 2]) }, field := { rx := .receiving (by' [0x80, 2]) } }

theorem witness_AbandonedFramesAreCountedAndHunted_held :
    rxStatus (by' [0x80, 2]) = .incomplete ∧ by' [0x80, 2] ≠ [] ∧
    ∀ ms ∈ [2, 3],
      (receivingOn ms).up.inBreak = false ∧ (receivingOn ms).up.sending = none ∧
      (receivingOn ms).up.rx = .receiving (by' [0x80, 2]) ∧ (receivingOn ms).field.inBreak = false ∧
      (receivingOn ms).field.rx = .receiving (by' [0x80, 2]) ∧ (receivingOn ms).field.exchange = none ∧
      (2 < ((receivingOn ms).clock.ms - (receivingOn ms).up.lastByte).toNat ↔ ms = 3) ∧
      (2 < ((receivingOn ms).clock.ms - (receivingOn ms).field.lastByte).toNat ↔ ms = 3) := by
  decide

theorem witness_RelayIntakeGatesThenQueues_full :
    (relayFull (accepting .actuator (some .a1) permitted)).canHear ∧
    classify (relayFull (accepting .actuator (some .a1) permitted)).acceptance (bare .command 2 13) =
      { action := .actuator, arm := some .a1 } ∧
    (relayFull (accepting .actuator (some .a1) permitted)).armState .a1 = .idle ∧
    (relayFull (accepting .actuator (some .a1) permitted)).permissive.healthy = true ∧
    4 ≤ (relayFull (accepting .actuator (some .a1) permitted)).relayQueue.length ∧
    (relayFull (accepting .block none State.reset)).canHear ∧
    classify (relayFull (accepting .block none State.reset)).acceptance (bare .command 2 13) = { action := .block } ∧
    (relayFull (accepting .block none State.reset)).mode = .service ∧
    4 ≤ (relayFull (accepting .block none State.reset)).relayQueue.length :=
  ⟨⟨rfl, rfl, rfl, by decide⟩, by decide, by decide, by decide, by decide, ⟨rfl, rfl, rfl, by decide⟩, by decide⟩

/-- Arm 2 HALTED and settled. -/
def settledHalt : State := held .halted fun a => { a with settled := true }

theorem witness_SessionAbortEndsTheSession_arms :
    (1 : Byte) ≠ 0 ∧ (held .closing fun a => a).canHear ∧ (held .closing fun a => a).session.state = .opened ∧
    (held .closing fun a => a).session.hostAbort = false ∧ (held .closing fun a => a).armState .a2 = .closing ∧
    ((held .closing fun a => a).arm .a2).settled = false ∧ (held .halted fun a => a).canHear ∧
    (held .halted fun a => a).armState .a2 = .halted ∧ ((held .halted fun a => a).arm .a2).settled = false ∧
    settledHalt.canHear ∧ settledHalt.armState .a2 = .halted ∧ (settledHalt.arm .a2).settled = true ∧
    settledHalt.heldComp .a2 = some aComp ∧ aComp.closing = none ∧
    (∀ m : ArmId, m ≠ .a2 → (settledHalt.arm m).held ≠ (settledHalt.arm .a2).held) :=
  ⟨by decide, ⟨rfl, rfl, rfl, by decide⟩, rfl, rfl, rfl, rfl, ⟨rfl, rfl, rfl, by decide⟩, rfl, rfl,
    ⟨rfl, rfl, rfl, by decide⟩, rfl, rfl, by decide, rfl, fun m h => by cases m <;> first | decide | exact absurd rfl h⟩

theorem witness_BankRecordsAreWrittenToAFreeBank_refused :
    readProduct State.reset.banks.b 15 (List.replicate 10 0xFF) = none ∧
    readCurve State.reset.banks.b 16 (List.replicate 25 0xFF) = none ∧
    readRecipe (List.replicate 14 0xFF) = none := by decide

/-- A relay queue whose head is an actuator frame that its arm's gate refuses, with another frame behind it. -/
def gated (behind : List Relayed) : State :=
  { State.reset with
    relayQueue := { frame := bare .command 2 13, cls := { action := .actuator, arm := some .a1 } } :: behind }

theorem witness_ArbiterTakesTheFirstEligibleSource_refused :
    (gated []).cmdQueue = [] ∧ (∀ n, (gated []).refreshIsDue n = false) ∧ (gated []).dueScan .fast = none ∧
    (bare .command 2 13).tag ≠ 63 ∧ (gated []).gatePasses { action := .actuator, arm := some .a1 } = false ∧
    (gated []).up.outgoing.length < 8 ∧ (gated []).dueScan .normal = none ∧
    (∀ t : Tag, (gated []).pollIsDue t = false) ∧ (gated [{ frame := bare .command 0 1, cls := {} }]).dueScan .fast = none ∧
    (permitted.armState .a2).isActive = true :=
  ⟨rfl, fun n => by cases n <;> rfl, by decide, by decide, by decide, by decide, by decide, fun t => by revert t; decide,
    by decide, by decide⟩

/-- A tag with a fault score and a node state. -/
def losing (tag : Tag) (score : Nat) (st : NodeState) (s : State) : State :=
  { s with nodes := s.nodes.set tag.toNat { score := score, state := st } }

theorem witness_DueMarksAreLatched_states :
    isNodeTag 13 = true ∧ (losing 13 96 .degraded State.reset).nodes.length = 64 ∧
    (∀ x ∈ [(0, NodeState.ok), (35, .ok), (36, .ok), (40, .degraded), (41, .degraded), (95, .degraded), (96, .degraded)],
      ((losing 13 x.1 x.2 State.reset).node 13).state = x.2 ∧
      (x.2 = .ok ∨ x.2 = .degraded) ∧ ((losing 13 x.1 x.2 State.reset).node 13).score = x.1) ∧
    (∀ n ∈ [36, 40, 41, 100], ((losing 13 n .lost State.reset).node 13).state = .lost ∧
      ((losing 13 n .lost State.reset).node 13).score = n) ∧
    (during (.scan 0) 13 20).field.rx = .idle ∧
    ((during (.scan 0) 13 20).field.exchange.map fun e => (e.tag, e.dropped, e.toSend, e.waitFrom)) =
      some (13, false, 0, 0) ∧ (during (.scan 0) 13 20).clock.ms = 20 ∧
    ((held .flowing fun a => a).config .a2).injector.get .s1 = some 21 ∧
    (losing 21 40 .lost (held .flowing fun a => a)).nodeLost 21 = true ∧
    (held .flowing fun a => a).dosesSlot .a2 .s1 = true ∧ State.reset.permissive.last = none := by
  decide

theorem witness_DueMarksAreLatched_owners :
    (∀ st ∈ [ArmState.idle, .blocked], (held st fun a => a).armState .a2 = st) ∧
    (∀ st ∈ [ArmState.starting, .flowing, .trimming, .closing, .halted],
      ((held st fun a => a).armState .a2).isLoading = true ∧ (held st fun a => a).heldComp .a2 = some aComp) ∧
    (held .armed fun a => a).armState .a2 = .armed ∧ (held .armed fun a => a).heldComp .a2 = some aComp ∧
    aComp.bank = some .a ∧ aComp.closing = none ∧ permitted.permissive.bayPermit = true ∧
    (held .armed fun a => a).permissive.bayPermit = false ∧ (permitted.armState .a2).isMoving = true ∧
    (staleAndOverdue .flowing).heldComp .a2 = some aComp ∧ aComp.additive.get .s1 = some {} ∧
    ((staleAndOverdue .flowing).dose .a2 .s1).outstanding = some ⟨255, 20000⟩ ∧
    (staleAndOverdue .flowing).dosesSlot .a2 .s1 = true ∧ (staleAndOverdue .flowing).dosesSlot .a2 .s2 = false ∧
    permitted.permissive.healthy = true ∧ (permitted.armState .a2).isActive = true ∧
    ({ codeLate with session := { codeLate.session with readerTag := some 40 } } : State).session.readerTag = some 40 ∧
    codeLate.session.state = .codeEntry := by
  decide

theorem witness_CommandQueueReplacesAndRetries_dropped :
    let s := held .flowing fun a => { a with commanded := .low }
    s.valveQueued .a2 = false ∧ Position.low ≠ .closed ∧ (s.arm .a2).commanded = .low ∧
    (s.armState .a2).isMoving = true ∧ s.heldComp .a2 = some aComp ∧ s.nodeLost 13 = false ∧
    ({ s with session := { aSession with readerTag := some 40 } } : State).session.readerTag = some 40 := by
  decide

theorem witness_RollRelaysCountsAndCloses_read :
    objectAt 0x0002 = some .statusFlags ∧ (0x400F : ObjAddr) = BitVec.ofNat 16 (0x4000 + (15 : Fin 16).val) ∧
    (withSlot aFilled).notes.slots[15]? = some aFilled := by decide

theorem witness_ReportsUpdateTheirRecords_keys :
    State.reset.session.state = .vacant ∧ (compiling 0).session.state = .ending ∧
    codeLate.session.state = .codeEntry ∧ aSession.state = .opened ∧ (9 : Nat) ≤ 9 ∧ 13 < 14 ∧
    (let s : State := { State.reset with reader := { tag := some 40, seqs := some (255, 250) } }
     s.nodeLost 40 = false ∧ s.reader.tag = some 40 ∧ s.reader.seqs = some (255, 250)) ∧
    (3 + 256 - 250) % 256 = 9 := by decide

theorem witness_SettledArmCompletesItsCompartment_stages :
    let arm (st : ArmState) (anticipation : Nat) : State :=
      held st fun a => { a with anticipation := anticipation, gStart := 300000 }
    aComp.preset - aComp.gross = 500000 ∧ (∀ st ∈ [ArmState.starting, .flowing, .trimming],
      ((arm st 500000).armState .a2).isMoving = true ∧ (arm st 500000).heldComp .a2 = some aComp) ∧
    ((arm .flowing 499999).config .a2).trimVolume = 400 ∧
    ((arm .starting 0).config .a2).startVolume * 1000 ≤ aComp.gross - ((arm .starting 0).arm .a2).gStart ∧
    ((arm .closing 0).armState .a2).isMoving = false := by
  decide

theorem witness_AdmissionChecksInOrder_selection :
    let s : State :=
      { held .idle fun a => { a with held := none, lastValve := some ⟨.closed, true⟩ } with
        store := { permits := [aPermit] }, banks := { a := aBank }
        session := { aSession with comps := [{ aComp with state := .pending }], digits := [1] } }
    s.session.state = .opened ∧ s.session.digits ≠ [] ∧ s.session.digits.length < 6 ∧ s.session.hostAbort = false ∧
    s.session.card = some 41730200 ∧ 6 ≤ (List.replicate 6 0).length ∧
    s.session.comps = [] ++ { aComp with state := .pending } :: [] ∧ aComp.number = [1].foldl (fun v d => v * 10 + d) 0 ∧
    findPermit s.store.permits 41730200 = some aPermit ∧ aPermit.status = .active ∧ s.clock.day ≤ aPermit.expiry ∧
    (s.banks.tables s.banks.active).product? aComp.product = some aProduct ∧
    aPermit.classes.getLsbD aProduct.cls = true ∧
    (State.reset.banks.tables State.reset.banks.active).product? aComp.product = none ∧ s.status.hostLost = false ∧
    s.armState .a2 = .idle ∧ (s.arm .a2).lastValve = some ⟨.closed, true⟩ ∧ (s.config .a2).meter = some 11 ∧
    s.nodeOk 11 = true ∧ (s.config .a2).valve = some 13 ∧ s.nodeOk 13 = true ∧ aProduct.curve.get .a2 ≠ 0 ∧
    (s.config .a1).meter = none := by
  decide

/-- CODE ENTRY with digits entered. -/
def keying (p : Permit) (digits : List Nat) : State :=
  { open' p with session := { state := .codeEntry, card := some 41730200, digits := digits } }

theorem witness_DriverCodeIsCheckedAndCharged_keys :
    (keying aPermit [4, 7, 7, 1]).session.state = .codeEntry ∧
    (keying aPermit [4, 7, 7, 1]).session.card = some 41730200 ∧
    (codeCheck 41730200 (some [4, 7, 7, 1]) (keying aPermit [])).2 = .correct ∧
    (codeCheck 41730200 none (keying { aPermit with attempts := 1 } [])).2 = .wrong ∧
    (codeCheck 41730200 none (keying aPermit [])).2 = .lockedOut ∧
    (codeCheck 41730200 none (keying { aPermit with status := .locked } [])).2 = .withdrawn 4 ∧
    (keying aPermit []).session.digits = [] ∧ 6 ≤ (keying aPermit [1, 2, 3, 4, 5, 6]).session.digits.length ∧
    findOrder (keying aPermit []).store.orders 41730200 = some anOrder ∧
    (keying aPermit []).notes.slots[0]? = some ({} : NoteSlot) := by
  decide

theorem witness_StartMovesArmedAndSettledArms_stopEnd :
    permitted.session.state = .opened ∧ permitted.session.hostAbort = false ∧
    (permitted.armState .a2).isActive = true ∧ (permitted.armState .a2).isMoving = true ∧
    ({ permitted with session := { aSession with hostAbort := true } } : State).session.hostAbort = true ∧
    (∀ st ∈ [ArmState.armed, .halted], (held st fun a => a).armState .a2 = st ∧
      (held st fun a => a).heldComp .a2 = some aComp) ∧
    (∀ n : ArmId, ((held .halted fun a => a).armState n).isActive = false) ∧
    (∀ n : ArmId, ((held .idle fun a => { a with held := none }).arm n).held ≠ some aComp.number) :=
  ⟨rfl, rfl, rfl, rfl, rfl, by decide, fun n => by cases n <;> rfl, fun n => by cases n <;> decide⟩

/-- Arm 2 dosing by a recipe of shots of 20,000 µL. -/
def dosing (st : ArmState) (owed : Nat) (x : Option Shot) : State :=
  let recipe : Recipe := ⟨some { code := 5, ratio := 250, shot := 20000, tolerance := 10 }, none⟩
  { held st fun a => a with
    session := { aSession with comps := [{ aComp with additive := ⟨some { owed := owed, commanded := 80000 }, none⟩ }] }
    banks := { a := { aBank with recipes := (List.replicate 8 ⟨none, none⟩).set 0 recipe } }
    dosing := State.reset.dosing.set .a2 ⟨{ baseline := some 7, outstanding := x }, {}⟩ }

theorem witness_StaleTemperatureAndOverdueShotOfferTheirCause_shots :
    let s := dosing .flowing 100000 none
    let x : Shot := { number := 255, size := 20000 }
    (s.heldComp .a2).map (fun c => c.additive.get .s1) = some (some { owed := 100000, commanded := 80000 }) ∧
    s.banks.prescription .a 3 .s1 = some { code := 5, ratio := 250, shot := 20000, tolerance := 10 } ∧
    80000 + 20000 ≤ 100000 ∧ (s.dose .a2 .s1).outstanding = none ∧ (s.armState .a2).isMoving = true ∧
    (s.config .a2).injector.get .s1 = some 21 ∧ s.nodeOk 21 = true ∧ (s.dose .a2 .s1).baseline.isSome = true ∧
    s.valveReserve < 8 - s.cmdQueue.length ∧ ¬(80000 + 20000 ≤ 99999) ∧
    ((dosing .flowing 0 (some x)).dose .a2 .s1).outstanding = some x ∧
    ((dosing .flowing 0 (some x)).arm .a2).held = some 1 ∧ s.nodeLost 21 = false ∧
    128 ≤ (254 + 256 - x.number) % 256 ∧ (126 + 256 - x.number) % 256 < 128 ∧
    ((dosing .flowing 0 (some x)).armState .a2).isLoading = true ∧
    ((dosing .idle 0 (some x)).armState .a2).isLoading = false ∧ 4 * 20000 ≤ 80000 ∧
    80000 * 10 / 100 + 20000 / 2 < 80000 - 0 := by
  decide

/-! ### Frames that come byte by byte -/

/-- The row that the bytes of a good host frame come to, and the row of each table. -/
theorem test_hostRow :
    hostRow { dir := .command, kind := 1, tag := 0, addr := 0x0001, payload := [2] } = .setRun ∧
    hostRow { dir := .command, kind := 1, tag := 0, addr := 0x0018, payload := [3, 4] } = .armStop 4 ∧
    hostRow { dir := .command, kind := 1, tag := 0, addr := 0x0005, payload := [1] } = .swap ∧
    hostRow { dir := .command, kind := 1, tag := 0, addr := 0x0103, payload := [] } = .armConfigurationSet .a4 [] ∧
    hostRow { dir := .command, kind := 1, tag := 0, addr := 0x0217, payload := [] } = .acceptanceEntrySet 23 [] ∧
    hostRow { dir := .command, kind := 1, tag := 0, addr := 0x0218, payload := [] } = .otherObjectSet 0x0218 [] ∧
    hostRow { dir := .command, kind := 0, tag := 0, addr := 0x400F, payload := [] } = .slotHeaderQuery 15 [] ∧
    hostRow { dir := .command, kind := 0, tag := 0, addr := 0x4010, payload := [] } = .objectQuery 0x4010 [] ∧
    hostRow { dir := .command, kind := 2, tag := 0, addr := 2, payload := [] } =
      .badKind { dir := .command, kind := 2, tag := 0, addr := 2, payload := [] } ∧
    hostRow { dir := .command, kind := 3, tag := 63, addr := 2, payload := [7] } = .rollIntake 2 [7] := by
  decide

/-- The bytes in a receiver come to their row: a whole good frame, one with a bad CRC, an abandoned one, and one cut
off by more than 2 ms of silence. -/
theorem test_receiverRows :
    let s (bytes : List Byte) (ms : Nat) : State :=
      later ms { State.reset with up := { rx := .receiving bytes }, field := { rx := .receiving bytes } }
    let f : Frame := { dir := .command, kind := 1, tag := 0, addr := 0x0001, payload := [2] }
    (s (frameWire f) 0).upRow none = some .setRun ∧ (s (frameWire f) 0).fieldRow none = some (.fieldFrameDiscarded f) ∧
    (s ((frameWire f).set 5 0) 0).upRow none = some (.upstreamCrcError []) ∧
    (s (by' [0x90, 1, 0]) 2).upRow none = none ∧
    (s (by' [0x90, 1, 0]) 3).upRow none = some (.receiveGapTimeout .upstream [] none) ∧
    (s (by' [0x90, 49]) 0).upRow none = some (.frameAbandoned .upstream []) ∧
    (s (by' [0x91]) 0).fieldRow none = some (.fieldDamagedResponse []) := by
  decide

/-! ### Bytes that end a gap, queues, captures and reads -/

/-- Both receivers in the third millisecond after the reading at their last byte, `us` microseconds into it, with a
byte about to come in the next microsecond. -/
def lateByte (rx : Receiver) (us : Nat) : State :=
  { State.reset with
    clock := { ms := 2, us := us }, up := { rx := rx, wire := [⟨1, 0x80⟩] }, field := { rx := rx, wire := [⟨1, 0x80⟩] } }

theorem witness_IdleStepPassesOneMicrosecond_late :
    rxStatus (by' [0x90, 1]) = .incomplete ∧
    (∀ rx ∈ [Receiver.hunt, .receiving (by' [0x90, 1])], ∀ us ∈ [998, 999], (lateByte rx us).pending = [] ∧
      (2 < ((lateByte rx us).clock.advance.ms - (lateByte rx us).up.lastByte).toNat ↔ us = 999) ∧
      (2 < ((lateByte rx us).clock.advance.ms - (lateByte rx us).field.lastByte).toNat ↔ us = 999) ∧
      (lateByte rx us).up.wire = [⟨1, 0x80⟩] ∧ ¬(1 < (⟨1, 0x80⟩ : WireByte).wait) ∧
      (lateByte rx us).up.inBreak = false ∧ (lateByte rx us).up.sending = none ∧
      (lateByte rx us).field.inBreak = false) := by
  decide

/-- A byte at a reading 3 past that of the byte before it is byte 0 of a new frame, out of HUNT too; one at a reading
2 past it joins the frame in progress, and in HUNT is discarded (R182, R197, log 52). -/
theorem test_gapBytes :
    (∀ after ∈ [true, false], ∀ rx ∈ [Receiver.hunt, .receiving (by' [0x90, 1])],
      let s := if after then lateByte rx 999 else lateByte rx 998
      s.upGapByte = (if after then some 0x80 else none) ∧ s.fieldGapByte = if after then some 0x80 else none) ∧
    (∀ rx ∈ [Receiver.hunt, .receiving (by' [0x90, 1])],
      let s : State := later 3 { State.reset with up := { rx := rx }, field := { rx := rx } }
      s.upRow (some 0x80) = some (.receiveGapTimeout .upstream [] (some 0x80)) ∧
      s.fieldRow (some 0x80) = some (.receiveGapTimeout .field [] (some 0x80)) ∧
      (receiveUpGap [] (some 0x80) s).up.rx = .receiving [0x80] ∧
      (receiveFieldGap [] (some 0x80) s).field.rx = .receiving [0x80]) ∧
    Receiver.hunt.take 0x80 = .hunt ∧
    (Receiver.receiving (by' [0x90, 1])).take 0x80 = .receiving (by' [0x90, 1, 0x80]) := by
  decide

theorem witness_LinesStayWithinTheirBounds_queue :
    ∃ s t : State, s.cmdQueue = [.valve .a2 13 .low 1, .shot .a2 .s1 21 0 20000, .display 40 3] ∧ s.cmdsOk ∧
      step s = .next t :=
  ⟨{ State.reset with
      cmdQueue := [.valve .a2 13 .low 1, .shot .a2 .s1 21 0 20000, .display 40 3], pending := [.arbiterTake] }, _, rfl,
    ⟨fun n => by cases n <;> decide, by decide⟩, rfl⟩

/-- A bay with a captured compartment: ARMED or ACTIVE on arm 2, by bank A. -/
def capturing (st : ArmState) : State :=
  { held st fun a => a with
    banks := { countA := 1 }
    session := { aSession with comps := [{ aComp with state := if st = .armed then .armed else .active }] } }

theorem witness_BanksStaySelfConsistent_captures :
    ∀ st ∈ [ArmState.armed, .flowing, .halted],
      (capturing st).store.ok ∧ (capturing st).capturesOk ∧ (capturing st).banks.count .a = 1 := by
  have h : ∀ st ∈ [ArmState.armed, .flowing, .halted], (capturing st).capturesOk := by
    intro st hst
    simp only [List.mem_cons, List.not_mem_nil, or_false] at hst
    rcases hst with rfl | rfl | rfl <;>
      refine ⟨fun x => by cases x <;> decide, by decide, fun n => ?_, fun c hc _ => ?_, by decide⟩
    all_goals first
      | (cases n <;> first
          | exact fun hn => absurd hn (by decide)
          | exact fun _ => ⟨rfl, by decide⟩)
      | (refine ⟨.a2, ?_⟩
         have := List.mem_singleton.1 hc
         subst this
         decide)
  have hr : State.reset.store.ok := by unfold PermitStore.ok; decide
  exact fun st hst => ⟨hr, h st hst, rfl⟩

theorem witness_BanksStaySelfConsistent_step :
    ∃ t : State, step { capturing .flowing with pending := [.arbiterTake] } = .next t := ⟨_, rfl⟩

theorem witness_StatusReadsAsItStands_summary :
    ({ permitted with session := { aSession with orderRef := some 7 } } : State).canHear ∧
    ({ permitted with session := { aSession with orderRef := some 7 } } : State).session.card = some 41730200 :=
  ⟨⟨rfl, rfl, rfl, by decide⟩, rfl⟩

/-- A bay in SERVICE whose field line carries a ROLL, with four relayed frames waiting. -/
def restarting : State :=
  { during (.roll 2 0) 63 0 with relayQueue := List.replicate 4 { frame := bare .command 0 1, cls := {} } }

theorem witness_RestartKeepsWhatTheHostLoaded_busy :
    restarting.canHear ∧ restarting.mode = .service ∧ restarting.session.state = .vacant ∧
    restarting.relayQueue.length ≤ 4 ∧
    (restarting.field.exchange.map fun e => (e.source.isRoll, e.muted, e.dropped)) = some (true, false, false) :=
  ⟨⟨rfl, rfl, rfl, by decide⟩, by decide⟩

/-- A new gap bears on a command that has not begun, and not on one being sent (R185). -/
theorem test_gapBearsOnAWaitingCommand :
    let e : Exchange := { source := .scan 0, frame := bare .command 0 13, tag := 13, toSend := 700 }
    e.awaitGap 2000 360 = { e with toSend := 2200 } ∧ e.awaitGap 100 360 = { e with toSend := 560 } ∧
    ({ e with toSend := 560 } : Exchange).awaitGap 2000 360 = { e with toSend := 560 } := by
  decide

theorem witness_EntriesAndGapAreWrittenInService_reads :
    (during (.scan 0) 13 0).canHear ∧ (during (.scan 0) 13 0).mode = .service ∧
    (during (.scan 0) 13 0).field.exchange.isSome = true ∧ State.reset.acceptance[(23 : Fin 24).val]? = some {} ∧
    State.reset.scans[(31 : Fin 32).val]? = some {} :=
  ⟨⟨rfl, rfl, rfl, by decide⟩, by decide⟩

theorem witness_BankRecordsAreWrittenToAFreeBank_reads :
    State.reset.banks.a.products[15 - 1]? = some none ∧ aBank.products[3 - 1]? = some (some aProduct) ∧
    State.reset.banks.a.curves[16 - 1]? = some none ∧
    aBank.curves[4 - 1]? = some (some [⟨300, 100420⟩, ⟨900, 100310⟩]) ∧
    State.reset.banks.a.recipes[8 - 1]? = some ⟨none, none⟩ := by decide

theorem witness_PermitRemoveAndLookupKey_reads :
    stored.store.key = none ∧
    (let s : State := { stored with store := { stored.store with key := some aPermit.card } }
     s.canHear ∧ s.store.key = some aPermit.card ∧ s.store.permits = [] ++ aPermit :: []) ∧
    readCard (cardBytes aPermit.card) = .ok aPermit.card :=
  ⟨rfl, ⟨⟨rfl, rfl, rfl, by decide⟩, rfl, rfl⟩, by decide⟩

/-- A note with both its pages written, and its header's page. -/
def aHeader : HeaderPage := headerOf 7 aSession
def aNote : NoteSlot := { aFilled with written := 2, header := some aHeader, pages := [compPageOf State.reset aComp] }

theorem witness_SlotHeaderReadsAsItStands_pages :
    (withSlot aNote).canHear ∧ (withSlot aNote).notes.slots[(15 : Fin 16).val]? = some aNote ∧
    aNote.header = some aHeader ∧ aNote.pages[(0 : Fin 8).val]? = some (compPageOf State.reset aComp) ∧
    aNote.pages[(7 : Fin 8).val]? = none ∧ aFilled.header = none :=
  ⟨⟨rfl, rfl, rfl, by decide⟩, by decide⟩

theorem witness_ReadOnlyObjectsRefuseASet_queries :
    objectAt 0x0003 = some .clock ∧ by' [0] ≠ [] ∧
    (0x50FF : ObjAddr) = BitVec.ofNat 16 (0x5000 + 16 * (15 : Fin 16).val + (9 + (6 : Fin 7).val)) ∧
    (0x5009 : ObjAddr) = BitVec.ofNat 16 (0x5000 + 16 * (0 : Fin 16).val + (9 + (0 : Fin 7).val)) := by
  decide

theorem witness_DueMarksAreLatched_marks :
    (let e : ScanEntry := { aScan .fast with dueMark := true, lastStart := some 0 }
     let s : State := { State.reset with scans := [e] }
     e ∈ s.scans ∧ e.dueMark = true ∧ e.enabled = true ∧ s.nodeLost e.tag = false) ∧
    (let s : State := { held .halted fun a => a with nodes := State.reset.nodes.set 13 { refreshMark := true } }
     (s.config .a2).valve = some 13 ∧ (s.node 13).refreshMark = true ∧ s.armState .a2 ≠ .idle ∧
     s.nodeLost 13 = false ∧ s.valveQueued .a2 = false) ∧
    (let s : State :=
       { State.reset with
         nodes := State.reset.nodes.set 13 { state := .lost, slowMark := true }, scans := [aScan .normal] }
     (s.node 13).slowMark = true ∧ s.nodeLost 13 = true ∧ aScan .normal ∈ s.scans ∧
     (aScan .normal).enabled = true ∧ (aScan .normal).tag = 13) := by
  decide

theorem witness_CommandQueueReplacesAndRetries_oldTag :
    ((held .flowing fun a => a).config .a2).valve = some 13 ∧ (held .flowing fun a => a).nodeLost 13 = false ∧
    [Cmd.valve .a2 14 .low 1] = [] ++ .valve .a2 14 .low 1 :: [] ∧
    (Cmd.valve .a2 14 .low 1).superseded .a2 .closed = .valve .a2 14 .closed 0 := by
  decide

theorem witness_StartMovesArmedAndSettledArms_display :
    permitted.session.hostAbort = false ∧ permitted.mode = .run ∧ permitted.permissive.healthy = true ∧
    (¬∃ m : ArmId, permitted.armState m = .armed ∨ permitted.armState m = .halted ∧ (permitted.arm m).settled = true) ∧
    ∃ m : ArmId, (capturing .armed).armState m = .armed :=
  ⟨rfl, rfl, rfl, fun ⟨m, h⟩ => by revert h; cases m <;> decide, .a2, rfl⟩

/-! ### What the field line awaits -/

/-- A field line with an exchange for tag 13 whose command, 560 µs long, has `toSend` microseconds to go, at the
clock reading `ms`. -/
def sendingTo (src : Source) (toSend ms : Nat) : State :=
  later ms
    { State.reset with
      field := { exchange := some { source := src, frame := bare .command 0 13, tag := 13, toSend := toSend } } }

/-- An exchange awaits a response from the first command byte on, and none while the gap is waited for (log 18). -/
theorem test_awaits :
    (∀ us ∈ [0, 560], ∃ e, (sendingTo (.scan 0) us 0).awaits e) ∧ (sendingTo (.scan 0) 561 0).awaitsNothing ∧
    State.reset.awaitsNothing := by
  refine ⟨fun us h => ⟨_, rfl, ?_⟩, fun e h => ?_, fun e h => nomatch h⟩
  · simp only [List.mem_cons, List.not_mem_nil, or_false] at h
    rcases h with rfl | rfl <;> decide
  · obtain rfl := Option.some.inj h
    decide

/-- The 20 ms of R167, the 10 ms of a ROLL and the 2 ms of R182 end at the 20th, the 10th and the third reading after
the one they run from, across the wrap of the counter of milliseconds too (R197, log 52). -/
theorem test_waitsAcrossTheWrap :
    let past (src : Source) (ms : Nat) : Bool × Bool :=
      match (sendingTo src 0 ms).field.exchange.map fun e => { e with waitFrom := 0xFFFFFFFA } with
      | some e => (e.isOverdue (BitVec.ofNat 32 ms), e.isSilent (BitVec.ofNat 32 ms))
      | none => (false, false)
    past (.scan 0) 13 = (false, false) ∧ past (.scan 0) 14 = (true, false) ∧
    past (.roll 0 0) 3 = (false, false) ∧ past (.roll 0 0) 4 = (false, true) ∧
    pastGap 1 0xFFFFFFFF = false ∧ pastGap 2 0xFFFFFFFF = true ∧ pastGap 4 4 = false := by
  decide

/-- The reading a wait runs from follows the clock while the command is being sent, and stands from then on (log 52). -/
theorem test_waitRunsFromTheLastCommandByte :
    ((sendingTo (.scan 0) 1 7).field.advance 7).exchange.map (fun e => (e.toSend, e.waitFrom)) = some (0, 7) ∧
    ((sendingTo (.scan 0) 0 7).field.advance 7).exchange.map (fun e => (e.toSend, e.waitFrom)) = some (0, 0) := by
  decide

/-- What a row leaves of the exchange, of FIELD CRC and of the score of tag 13. -/
def fieldSum (i : Instr) (s : State) : Option (Bool × Nat × Nat) :=
  match exec i s with
  | .next t => some (t.field.exchange.isSome, t.status.counters.fieldCrc, (t.node 13).score)
  | _ => none

/-- A damaged, an abandoned and a good frame that end in the wait for the turnaround gap are discarded uncounted; the
same frames end the exchange once its command is being sent (R167, R182, R183, log 18). -/
theorem test_framesBeforeTheCommand :
    (∀ i ∈ [Instr.fieldDamagedResponse (by' [0, 0, 13, 0, 0, 0, 0]), .frameAbandoned .field (by' [1]),
        .lineBreak .field (by' [0])],
      fieldSum i (sendingTo (.scan 0) 561 0) = some (true, 0, 0) ∧
      fieldSum i (sendingTo (.scan 0) 560 0) = some (false, 1, 4)) ∧
    fieldSum (.fieldGoodResponse (bare .response 0 13)) (sendingTo (.scan 0) 561 0) = some (true, 0, 0) ∧
    fieldSum (.fieldGoodResponse (bare .response 0 13)) (sendingTo (.scan 0) 560 0) = some (false, 0, 0) ∧
    fieldSum (.rollDamagedResponse (by' [0, 0, 13, 0, 0, 0, 0])) (sendingTo (.roll 0 0) 561 0) = some (true, 0, 0) ∧
    fieldSum (.rollDamagedResponse (by' [0, 0, 13, 0, 0, 0, 0])) (sendingTo (.roll 0 0) 560 0) = some (true, 1, 0) := by
  decide

/-- The rows of whole frames on the field line, by the exchange that awaits a response (R167, R191). -/
theorem test_fieldRows :
    let row (src : Source) (toSend : Nat) (bytes : List Byte) : Option Instr :=
      let s := sendingTo src toSend 0
      ({ s with field := { s.field with rx := .receiving bytes } } : State).fieldRow none
    let f := bare .response 0 13
    let g := bare .command 0 13
    row (.scan 0) 560 (frameWire f) = some (.fieldGoodResponse f) ∧
    row (.scan 0) 560 (frameWire g) = some (.fieldFrameDiscarded g) ∧
    row (.scan 0) 561 (frameWire f) = some (.fieldFrameDiscarded f) ∧
    row (.roll 0 0) 0 (frameWire f) = some (.rollChainedResponse f) ∧
    row (.roll 0 0) 0 (frameWire g) = some (.rollDamagedResponse []) ∧
    row (.roll 0 0) 0 (by' [1]) = some (.rollDamagedResponse []) ∧
    row (.roll 0 0) 561 (by' [1]) = some (.fieldDamagedResponse []) := by
  decide

theorem witness_FieldFramesAreTakenOrDiscarded_classes :
    (let e : AcceptanceEntry :=
       { dir := .either, kinds := 1, tagVal := 13, tagMask := 63, cls := { action := .valveStatus, arm := some .a2 } }
     let other : AcceptanceEntry := { e with tagVal := 12 }
     [other, e] = [other] ++ e :: [] ∧ classify [other, e] (bare .response 0 13) = e.cls ∧
     classify [other, e] (bare .response 1 13) = {} ∧ classify [other, e] (bare .response 0 14) = {} ∧
     classify [other, { e with kinds := 0, tagMask := 0 }] (bare .response 0 13) = {}) ∧
    readValveStatus (by' [0, 1]) = some ⟨.closed, true⟩ ∧ readMeterCount (by' [255, 255, 1]) = some (65535, false) ∧
    readTemperature (by' [0x7F, 0xFF, 0]) = some (32767, false) ∧
    readTemperature (by' [0x80, 0, 1]) = some (-32768, true) ∧
    (sendingTo (.scan 0) 0 20).field.exchange.map (fun e => (e.toSend, e.waitFrom)) = some (0, 0) ∧
    (bare .response 0 12).tag ≠ 13 := by
  decide

theorem witness_CommandQueueReplacesAndRetries_sources :
    (∀ src ∈ [Source.command (.valve .a2 13 .low 2), .command (.shot .a2 .s1 13 255 20000),
        .command (.display 13 21), .refresh .a2, .scan 31, .slowPoll 13],
      ∃ e, (sendingTo src 0 20).awaits e ∧ e.source = src ∧ e.dropped = false ∧ e.toSend = 0 ∧
        20 ≤ ((sendingTo src 0 20).clock.ms - e.waitFrom).toNat) ∧
    (sendingTo (.refresh .a2) 0 0).fieldListens ∧ rxStatus (by' [0, 0, 13, 0, 0, 0, 0]) = .whole false :=
  ⟨fun _ _ => ⟨_, ⟨rfl, Nat.zero_le _⟩, rfl, rfl, rfl, by simp [sendingTo, later]⟩, ⟨rfl, rfl⟩, by decide⟩

/-! ### Records at the ends of their ranges -/

theorem test_records :
    readConfig (configBytes { aConfig with kFactor := 1000, overrunLimit := 200 }) =
      some { aConfig with kFactor := 1000, overrunLimit := 200 } ∧
    readConfig (configBytes { aConfig with kFactor := 999 }) = none ∧
    readConfig (configBytes { aConfig with valve := aConfig.meter }) = none ∧
    readAcceptance (by' [0, 0, 0, 0, 0, 0, 0, 0, 8, 0, 0]) = some {} ∧
    readAcceptance (by' [0, 16, 0, 0, 0, 0, 0, 0, 8, 0, 0]) = none ∧
    readScan (List.replicate 7 0) = some {} ∧ readScan (by' [1, 0, 0, 0, 49, 1, 0]) = none ∧
    readProduct aBank 15 (15 :: List.replicate 9 0) = some none ∧
    readProduct aBank 3 (productBytes 3 (some aProduct)) = some (some aProduct) ∧
    readProduct {} 3 (productBytes 3 (some aProduct)) = none ∧
    readCurve aBank 16 (0 :: List.replicate 24 7) = some none ∧ readCurve aBank 4 (List.replicate 25 0) = none ∧
    readCurve aBank 4 (by' [2, 1, 44, 1, 164, 3, 132, 1, 54] ++ List.replicate 16 0xFF) =
      some (some [⟨300, 90420⟩, ⟨900, 90310⟩]) ∧
    readRecipe (List.replicate 14 0) = some ⟨none, none⟩ ∧
    readCard (List.replicate 5 0x99) = .ok 9999999999 ∧ readCard (by' [0, 0, 0, 0, 0x0A]) = .error .outOfRange := by
  decide

theorem test_orders :
    readOrder (List.replicate 11 0) = .error .badLength ∧ readOrder (List.replicate 12 0) = .error .outOfRange ∧
    readOrder (orderBytes anOrder ++ [0]) = .error .badLength ∧
    readOrder (orderBytes { anOrder with vehicle := some 65535 }) = .ok { anOrder with vehicle := some 65535 } ∧
    readOrder (orderBytes { anOrder with entries := [{ number := 9, product := 3, preset := 1 }] }) =
      .error .outOfRange := by
  decide

/-! ### Halts, releases and the begin of the compile -/

/-- What SESSION ABORT leaves of a session: its state, its compartments' states, the banks' capture counts, arm 2's
state and the state of note slot 0. -/
def abortSum (s : State) : Option (SessionState × List CompState × Nat × ArmState × Option SlotState) :=
  match exec (.sessionAbort 0) s with
  | .next t =>
    some (t.session.state, t.session.comps.map fun c => c.state, t.banks.countA, t.armState .a2,
      t.notes.slots[0]?.map fun x => x.state)
  | _ => none

/-- An OPEN session that holds a reserved note slot. -/
def noted (s : State) : State := { s with notes := { slots := (List.replicate 16 {}).set 0 { state := .reserved }, held := some 0 } }

/-- SESSION ABORT gives an ARMED arm back and begins the compile; a settled HALTED arm is released SHORT; a flowing one
halts and keeps the session OPEN (R20, R21, R129). -/
theorem test_sessionAbort :
    abortSum (noted (capturing .armed)) = some (.ending, [.notLoaded], 0, .idle, some .updating) ∧
    (let s := capturing .halted
     abortSum (noted { s with arms := s.arms.set .a2 { s.arm .a2 with settled := true } }) =
      some (.ending, [.short], 0, .idle, some .updating)) ∧
    abortSum (noted (capturing .flowing)) = some (.opened, [.active], 1, .halted, some .reserved) :=
  ⟨by decide, by decide, by decide⟩

theorem witness_SessionAbortEndsTheSession_captures :
    settledHalt.holdsApart ∧ (capturing .armed).heldComp .a2 = some { aComp with state := .armed } ∧
    (capturing .armed).capturedBy .a (fun n => (capturing .armed).armState n == .armed) = 1 ∧
    (∀ n : ArmId, (State.reset.arm n).held ≠ some aComp.number) ∧
    (noted (capturing .armed)).compileBegun.nextSerial = 1 :=
  ⟨fun n m => by cases n <;> cases m <;> decide, by decide, by decide, fun n => by cases n <;> decide, by decide⟩

theorem witness_SessionLimitsEndTheSession_examine :
    (let s : State := { held .idle fun a => { a with held := none } with
       session := { aSession with comps := [{ aComp with state := .done }] } }
     s.session.state = .opened ∧ (∀ c ∈ s.session.comps, c.state = .done ∨ c.state = .short ∨ c.state = .notLoaded) ∧
     ∀ n : ArmId, (s.armState n).isHeld = false) ∧
    (let s : State := { held .halted fun a => a with
       session := { aSession with comps := [aComp, { aComp with number := 2, state := .pending }] } }
     s.session.hostAbort = false ∧ (∃ c ∈ s.session.comps, c.state = .pending) ∧
     ∀ n : ArmId, s.armState n = .idle ∨ s.armState n = .blocked ∨ s.armState n = .halted) ∧
    (noted idleLate).notes.held = some 0 ∧ (noted idleLate).notes.slots[0]? = some { state := .reserved } :=
  ⟨⟨rfl, by decide, fun n => by cases n <;> rfl⟩,
    ⟨rfl, ⟨_, List.mem_cons_of_mem _ (List.mem_singleton.2 rfl), rfl⟩, fun n => by cases n <;> decide⟩, rfl, rfl⟩

theorem witness_SettledArmCompletesItsCompartment_halts :
    (let s := held .halted fun a => { a with closeTime := some 0, closedSeen := true, zeroRun := 2 }
     (∀ abort ∈ [true, false],
       let u : State := { s with session := { aSession with hostAbort := abort } }
       u.armState .a2 = .halted ∧ (u.arm .a2).closeTime.isSome = true ∧ (u.arm .a2).closedSeen = true ∧
       2 ≤ (u.arm .a2).zeroRun ∧ (u.arm .a2).settled = false ∧ u.session.hostAbort = abort ∧
       u.heldComp .a2 = some aComp) ∧
     (({ s with arms := s.arms.set .a2 { s.arm .a2 with zeroRun := 1 } } : State).arm .a2).zeroRun < 2 ∧
     ((held .halted fun a => a).arm .a2).closeTime = none) ∧
    aComp.preset + aConfig.overrunLimit * 1000 < 1010001 ∧ ¬(aComp.preset + aConfig.overrunLimit * 1000 < 1010000) ∧
    989999 + 10000 < aComp.preset ∧ ¬(990000 + 10000 < aComp.preset) := by
  decide

/-- A permissive unit that has held a report. -/
def reporting (healthy : Bool) : State :=
  { permitted with
    permissive := { permitted.permissive with healthy := healthy, deadmanBase := some 5 } }

theorem witness_ReportsUpdateTheirRecords_health :
    permitted.nodeLost 30 = false ∧ (reporting true).permissive.tag = some 30 ∧
    (∃ base, (reporting true).permissive.deadmanBase = some base ∧ base ≠ 6) ∧
    ((reporting true).armState .a2).isActive = true ∧ ((reporting true).armState .a1).isActive = false ∧
    (reporting true).permissive.healthy = true ∧ (reporting false).permissive.healthy = false ∧
    (let s := held .closing fun a => { a with closeTime := some 0, zeroRun := 1 }
     (s.arm .a2).closeTime.isSome = true ∧ (s.arm .a2).zeroRun < 2 ∧ (s.arm .a2).trip = false) :=
  ⟨by decide, rfl, ⟨5, rfl, by decide⟩, rfl, rfl, rfl, rfl, by decide⟩

theorem witness_AcceptedSampleIsCredited_sequence :
    (∀ st ∈ [ArmState.closing, .halted],
      let s := metering 0 (held st fun a => { a with closeTime := some 0 })
      (s.armState .a2 = .closing ∨ s.armState .a2 = .halted) ∧ (s.arm .a2).closeTime.isSome = true ∧
      s.heldComp .a2 = some aComp ∧ (65000 + 65536 - 65000) % 65536 = 0 ∧
      0 * 60000000 / ((s.config .a2).kFactor * max 20 (min 5000 (s.clock.ms - 0).toNat)) ≤ 2 * (s.config .a2).maxFlow) ∧
    (metering 0 permitted).armState .a2 ≠ .closing ∧ (metering 0 permitted).armState .a2 ≠ .halted ∧
    ((held .halted fun a => a).arm .a2).closeTime = none := by
  decide

theorem witness_MeteringArithmeticLosesNothing_curve :
    (let points : List CurvePoint := [⟨300, 100420⟩, ⟨900, 100310⟩]
     points.Pairwise (fun p q => p.rate < q.rate) ∧ points[0]? = some ⟨300, 100420⟩ ∧
     points[0 + 1]? = some ⟨900, 100310⟩ ∧ curveFactor points 300 = 100420 ∧ curveFactor points 303 = 100419 ∧
     curveFactor points 302 = 100420 ∧ curveFactor points 899 = 100310 ∧ curveFactor points 900 = 100310) ∧
    vcf 950 1500 = 1000000 ∧ vcf 1 1550 = 1000000 ∧ vcf 1 1650 = 999998 ∧ vcf 1500 (-4000) = 1082500 ∧
    vcf 1500 6000 = 932500 := by
  decide

theorem witness_StaleTemperatureAndOverdueShotOfferTheirCause_owed :
    (let s := dosing .flowing 0 none
     s.heldComp .a2 = some { aComp with additive := ⟨some { owed := 0, commanded := 80000 }, none⟩ } ∧
     (aComp.bank.bind fun bank => s.banks.prescription bank aComp.product .s1).isSome = true) ∧
    ((held .flowing fun a => a).heldComp .a2).bind (fun c => c.bank.bind fun bank =>
      (held .flowing fun a => a).banks.prescription bank c.product .s1) = none := by
  decide

end Sys2Proof.Tests
end

section
/-! ### Queries of objects, and permits and orders by rank (02: R28, R34)

How a QUERY with an empty payload is answered from what its object returns; the objects of the two rank tables; and what
the operations on the permit store make of its lists. -/

namespace Sys2Proof.Machine

/-! #### A QUERY heard whole -/

/-- The row of a QUERY is that QUERY, received whole (R186, R189). -/
theorem exec_objectQuery (addr : ObjAddr) (payload : List Byte) (s : State) :
    exec (.objectQuery addr payload) s = .next (hostQuery addr payload s) := rfl

/-- An object that only a SET reaches returns no data (R189). -/
theorem queryData_of_setOnly (o : Obj) (s : State) (h : o.setOnly = true) : queryData o s = .error .noObject := by
  cases o
  case command | permitInsert | permitRemove | orderInsert | orderRemove | noteRelease => rfl
  all_goals exact absurd h Bool.false_ne_true

/-- Data that an object returns are the answer to its QUERY. -/
theorem queryReply_of_ok (addr : ObjAddr) (o : Obj) (bytes : List Byte) (s : State) (ho : objectAt addr = some o)
    (hq : queryData o s = .ok bytes) : queryReply addr [] s = .data bytes := by
  have hset : ¬o.setOnly = true := fun h => by simp [queryData_of_setOnly o s h] at hq
  simp [queryReply, ho, hq, hset]

/-- The reason for which an object returns no data refuses its QUERY. -/
theorem queryReply_of_error (addr : ObjAddr) (o : Obj) (reason : Reason) (s : State) (ho : objectAt addr = some o)
    (hq : queryData o s = .error reason) : queryReply addr [] s = .refused reason := by
  by_cases hset : o.setOnly = true
  · obtain rfl : reason = .noObject := Except.error.inj (hq.symm.trans (queryData_of_setOnly o s hset))
    simp [queryReply, ho, hset]
  · simp [queryReply, ho, hq, hset]

/-- The data of any object but the status flags and the slot headers are answered with no other effect (R140, R189,
R198). -/
theorem serveQuery_of_ok (addr : ObjAddr) (o : Obj) (bytes : List Byte) (s : State) (ho : objectAt addr = some o)
    (hflags : o ≠ .statusFlags) (hheader : ∀ i, o ≠ .slotHeader i) (hq : queryData o s = .ok bytes) :
    serveQuery addr [] s = respond 0 addr (.data bytes) s := by
  have hread : headerRead addr s = none := by
    unfold headerRead
    rw [ho]
    split
    next i hi => exact absurd (Option.some.inj hi) (hheader i)
    next => rfl
  have heffect : ∀ t, readEffect addr t = t := by
    intro t
    rw [readEffect, ho, if_neg fun h => hflags (Option.some.inj h)]
  simp only [serveQuery, queryReply_of_ok addr o bytes s ho hq, hread, heffect, respond]

/-- A QUERY of any object but the status flags and the slot headers, received whole, is answered with the object's data
(R189). -/
theorem exec_objectQuery_of_ok (addr : ObjAddr) (o : Obj) (bytes : List Byte) (s : State) (h : s.canHear)
    (ho : objectAt addr = some o) (hflags : o ≠ .statusFlags) (hheader : ∀ i, o ≠ .slotHeader i)
    (hq : queryData o s.heardHost = .ok bytes) :
    exec (.objectQuery addr []) s = .next (s.heardHost.answersData addr bytes) := by
  rw [exec_objectQuery, hostQuery_of_canHear _ _ _ h (Nat.zero_le _),
    serveQuery_of_ok addr o bytes _ ho hflags hheader hq, respond_of_room _ _ _ s.heardHost h.2.2.2]
  rfl

/-- A QUERY of an object that returns no data, received whole, is refused with the object's reason (R189). -/
theorem exec_objectQuery_of_error (addr : ObjAddr) (o : Obj) (reason : Reason) (s : State) (h : s.canHear)
    (ho : objectAt addr = some o) (hq : queryData o s.heardHost = .error reason) :
    exec (.objectQuery addr []) s = .next (s.heardHost.answersRefused 0 addr reason) := by
  rw [exec_objectQuery, hostQuery_of_canHear _ _ _ h (Nat.zero_le _)]
  simp only [serveQuery, queryReply_of_error addr o reason _ ho hq]
  rw [respond_of_room _ _ _ s.heardHost h.2.2.2]
  rfl

/-! #### The objects of the rank tables -/

/-- From 0x2000 on an address names a permit, order or note object. -/
theorem objectAt_of_high (a : Nat) (hlo : 0x2000 ≤ a) (hhi : a < 65536) :
    objectAt (BitVec.ofNat 16 a) = highObject a := by
  have ha : (BitVec.ofNat 16 a).toNat = a := Nat.mod_eq_of_lt hhi
  simp only [objectAt, ha]
  rw [if_neg (by omega), if_neg (by omega), if_neg (by omega)]

/-- The address of a permit rank (R28). -/
theorem objectAt_permitAt (i : Nat) (hi : i ≤ 511) :
    objectAt (BitVec.ofNat 16 (0x2400 + i)) = some (.permitAt i) := by
  rw [objectAt_of_high _ (by omega) (by omega)]
  have hin : inRange (0x2400 + i) 0x2400 0x25FF = true := by simp [inRange]; omega
  unfold highObject
  rw [if_neg (by omega), if_neg (by omega), if_neg (by omega), if_neg (by omega), if_pos hin, Nat.add_sub_cancel_left]

/-- The address of an order rank (R34). -/
theorem objectAt_orderAt (i : Nat) (hi : i ≤ 31) :
    objectAt (BitVec.ofNat 16 (0x3100 + i)) = some (.orderAt i) := by
  rw [objectAt_of_high _ (by omega) (by omega)]
  have hout : ¬inRange (0x3100 + i) 0x2400 0x25FF = true := by simp [inRange]; omega
  have hin : inRange (0x3100 + i) 0x3100 0x311F = true := by simp [inRange]; omega
  unfold highObject
  rw [if_neg (by omega), if_neg (by omega), if_neg (by omega), if_neg (by omega), if_neg hout, if_neg (by omega),
    if_neg (by omega), if_pos hin, Nat.add_sub_cancel_left]

/-- A permit rank below the number of records returns its record (R28). -/
theorem queryData_permitAt_of_some (i : Nat) (p : Permit) (s : State) (hp : s.store.permits[i]? = some p) :
    queryData (.permitAt i) s = .ok (permitBytes p) := by
  simp only [queryData, permitData, hp]

/-- A permit rank from the number of records on is NOT FOUND (R28). -/
theorem queryData_permitAt_of_length_le (i : Nat) (s : State) (hi : s.store.permits.length ≤ i) :
    queryData (.permitAt i) s = .error .notFound := by
  simp only [queryData, permitData, List.getElem?_eq_none hi]

/-- An order rank below the number of orders returns its order (R34). -/
theorem queryData_orderAt_of_some (i : Nat) (o : Order) (s : State) (ho : s.store.orders[i]? = some o) :
    queryData (.orderAt i) s = .ok (orderBytes o) := by
  simp only [queryData, orderData, ho]

/-- An order rank from the number of orders on is NOT FOUND (R34). -/
theorem queryData_orderAt_of_length_le (i : Nat) (s : State) (hi : s.store.orders.length ≤ i) :
    queryData (.orderAt i) s = .error .notFound := by
  simp only [queryData, orderData, List.getElem?_eq_none hi]

/-! #### The record layouts -/

/-- The byte that two half-bytes of a driver code are packed in, 0 beyond the code (10, "Permit record"). -/
def codeByte (digits : List Nat) (i : Nat) : Byte :=
  BitVec.ofNat 8 (16 * digits.getD i 0 + digits.getD (i + 1) 0)

/-- The first three bytes that six or more half-bytes are packed in. -/
theorem packHalfBytes_take_three (digits : List Nat) (h : 6 ≤ digits.length) :
    (packHalfBytes digits).take 3 = [codeByte digits 0, codeByte digits 2, codeByte digits 4] := by
  match digits, h with
  | a :: b :: c :: d :: e :: f :: rest, _ => simp [packHalfBytes, codeByte, Nat.mul_comm]

/-- Zeros after a driver code leave its bytes. -/
theorem codeByte_append_zeros (digits : List Nat) (n i : Nat) :
    codeByte (digits ++ List.replicate n 0) i = codeByte digits i := by
  have hget : ∀ j, (digits ++ List.replicate n 0).getD j 0 = digits.getD j 0 := by
    intro j
    rcases Nat.lt_or_ge j digits.length with hj | hj
    · rw [List.getD_append _ _ _ _ hj]
    · rw [List.getD_append_right _ _ _ _ hj, List.getD_eq_default digits 0 hj,
        List.getD_eq_getElem?_getD, List.getElem?_getD_replicate_default_eq]
  simp only [codeByte, hget]

/-- The permit record, byte by byte (10, "Permit record"). -/
theorem permitBytes_eq (p : Permit) :
    permitBytes p =
      cardBytes p.card ++
        [byteOf (p.code.getD []).length, codeByte (p.code.getD []) 0, codeByte (p.code.getD []) 2,
          codeByte (p.code.getD []) 4] ++
        beBytes 2 p.carrier ++ beBytes 2 p.expiry ++ beBytes 2 p.classes.toNat ++ beBytes 4 p.maxLoad ++
        [byteOf (permitStatusCode p.status), byteOf p.attempts] := by
  have hlen : 6 ≤ ((p.code.getD []) ++ List.replicate (6 - (p.code.getD []).length) 0).length := by
    simp; omega
  simp only [permitBytes, packHalfBytes_take_three _ hlen, codeByte_append_zeros, List.append_assoc, List.cons_append,
    List.nil_append]

/-! #### Ranks under the operations on the permit store -/

/-- The code check writes no card number (R28, R40). -/
theorem writeAttempts_cards (card attempts : Nat) (status : PermitStatus) (permits : List Permit) :
    (writeAttempts card attempts status permits).map (fun q => q.card) = permits.map fun q => q.card := by
  unfold writeAttempts
  rw [List.map_map]
  refine List.map_congr_left fun q _ => ?_
  simp only [Function.comp_apply]
  split <;> rfl

/-- A code charged to a permit leaves every card at its rank, locked out or not (R28, R40). -/
theorem chargeAttempt_cards (p : Permit) (s : State) :
    (chargeAttempt p s).1.store.permits.map (fun q => q.card) = s.store.permits.map fun q => q.card := by
  unfold chargeAttempt
  split
  next => exact writeAttempts_cards _ _ _ _
  next => simpa using writeAttempts_cards _ _ _ _

/-- No order is found for a card that none carries. -/
theorem findOrder_eq_none (orders : List Order) (card : Nat) (h : ∀ x ∈ orders, x.card ≠ card) :
    findOrder orders card = none := by
  simpa [findOrder] using h

/-- The order between others of other cards is the one found for its card. -/
theorem findOrder_between (below above : List Order) (o : Order) (h : ∀ x ∈ below, x.card ≠ o.card) :
    findOrder (below ++ o :: above) o.card = some o := by
  have hbelow : below.find? (fun x => x.card == o.card) = none := findOrder_eq_none below o.card h
  simp [findOrder, List.find?_append, hbelow]

/-- Without a card's one order, the orders above it close up to those below. -/
theorem filter_card_between (below above : List Order) (o : Order) (hb : ∀ x ∈ below, x.card ≠ o.card)
    (ha : ∀ x ∈ above, x.card ≠ o.card) :
    (below ++ o :: above).filter (fun x => x.card != o.card) = below ++ above := by
  have hkeep : ∀ l : List Order, (∀ x ∈ l, x.card ≠ o.card) → l.filter (fun x => x.card != o.card) = l :=
    fun l hl => List.filter_eq_self.2 fun x hx => bne_iff_ne.2 (hl x hx)
  simp [List.filter_append, hkeep below hb, hkeep above ha]

/-- Among cards that all differ, one order's card is on no order below or above it. -/
theorem cards_differ_between (below above : List Order) (o : Order)
    (h : ((below ++ o :: above).map fun x => x.card).Nodup) :
    (∀ x ∈ below, x.card ≠ o.card) ∧ ∀ x ∈ above, x.card ≠ o.card := by
  have hpair : (below ++ o :: above).Pairwise fun x y => x.card ≠ y.card := List.pairwise_map.1 h
  obtain ⟨-, habove, hacross⟩ := List.pairwise_append.1 hpair
  exact ⟨fun x hx => hacross x hx o List.mem_cons_self,
    fun x hx => ((List.pairwise_cons.1 habove).1 x hx).symm⟩

/-- An insert that is not refused adds its order at the top (R32). -/
theorem insertOrder_orders (o : Order) (s : State) (hnew : ∀ x ∈ s.store.orders, x.card ≠ o.card)
    (hroom : s.store.orders.length < 32) : (insertOrder o s).1.store.orders = s.store.orders ++ [o] := by
  simp [insertOrder, findOrder_eq_none _ _ hnew, Nat.not_le.2 hroom]

/-- An order that leaves lets the ones above it close up (R33, R35). -/
theorem dropOrder_orders (o : Order) (below above : List Order) (s : State)
    (hs : s.store.orders = below ++ o :: above) (hb : ∀ x ∈ below, x.card ≠ o.card)
    (ha : ∀ x ∈ above, x.card ≠ o.card) : (dropOrder o.card s).store.orders = below ++ above := by
  simp only [dropOrder, modStore_store, hs, filter_card_between below above o hb ha]

/-- A removal that finds its order is that order leaving (R33). -/
theorem removeOrder_of_found (card : Nat) (o : Order) (s : State) (h : findOrder s.store.orders card = some o) :
    removeOrder card s = (dropOrder card s, .done) := by
  simp only [removeOrder, h]

/-- Entry to OPEN consumes the order of the session's card (R9, R35). -/
theorem enterOpen_store (card : Nat) (o : Order) (s : State) (hcard : s.session.card = some card)
    (h : findOrder s.store.orders card = some o) : (enterOpen s).store = (dropOrder o.card s).store := by
  simp [enterOpen, hcard, h]

/-! #### The statements -/

/-- Settles O38, from the record that each rank returns and the cards that a charge keeps in their places. -/
theorem permitsAreReadByRank : Obligations.PermitsAreReadByRank := by
  refine ⟨fun s i h hi => ⟨fun p hp => ⟨?record, ?layout⟩, fun hlen => ?notFound⟩,
    fun s p => chargeAttempt_cards p s⟩
  case record =>
    exact exec_objectQuery_of_ok _ _ _ s h (objectAt_permitAt i hi) (by simp) (by simp)
      (queryData_permitAt_of_some i p s.heardHost hp)
  case layout => exact (permitBytes_eq p).trans (by cases p.status <;> rfl)
  case notFound =>
    exact exec_objectQuery_of_error _ _ _ s h (objectAt_permitAt i hi)
      (queryData_permitAt_of_length_le i s.heardHost hlen)

/-- Settles O39, from the order that each rank returns; both removals are one order leaving, which closes up the orders
above it because the cards differ. -/
theorem ordersAreReadByRank : Obligations.OrdersAreReadByRank := by
  refine ⟨fun s i h hi => ⟨fun o ho => ?record, fun hlen => ?notFound⟩,
    fun s o below above => ⟨insertOrder_orders o s, fun hs hnodup => ?_⟩⟩
  case record =>
    have hbytes := exec_objectQuery_of_ok _ _ _ s h (objectAt_orderAt i hi) (by simp) (by simp)
      (queryData_orderAt_of_some i o s.heardHost ho)
    simpa [orderBytes, byteOf] using hbytes
  case notFound =>
    exact exec_objectQuery_of_error _ _ _ s h (objectAt_orderAt i hi)
      (queryData_orderAt_of_length_le i s.heardHost hlen)
  obtain ⟨hbelow, habove⟩ := cards_differ_between below above o (hs ▸ hnodup)
  have hdrop := dropOrder_orders o below above s hs hbelow habove
  have hfound : findOrder s.store.orders o.card = some o := hs ▸ findOrder_between below above o hbelow
  constructor
  · rw [removeOrder_of_found _ o s hfound]
    exact hdrop
  · intro hcard
    rw [enterOpen_store _ o s hcard hfound]
    exact hdrop

end Sys2Proof.Machine
end

section
/-! ### The first count of a meter (04: R72)

What a METER COUNT from an arm's own meter comes to while the arm has no baseline: R72 ends there, before the delta and
the rate of R73 and R74 are formed, so that neither the plausibility test nor an increment follows. -/

namespace Sys2Proof.Machine

/-- An operation on one arm's metering record changes that record and no other part of the state. -/
theorem modMeter_eq (s : State) (n : ArmId) (f : Metering → Metering) :
    s.modMeter n f = { s with metering := s.metering.set n (f (s.meter n)) } := rfl

/-- An OK count from the arm's own meter, not LOST, while no baseline is set: the report ends with the baseline, before
any delta or rate is formed (R71, R72). -/
theorem meterReport_of_no_baseline (n : ArmId) (tag : Tag) (count : Nat) (s : State)
    (hmeter : (s.config n).meter = some tag) (hlost : s.nodeLost tag = false) (hbase : (s.meter n).baseline = none) :
    meterReport n tag count true s =
      s.modMeter n fun m => { m with baseline := some (count, s.now), run := 0 } := by
  have hheard : (s.config n).meter = some tag ∧ ¬s.nodeLost tag := ⟨hmeter, by simp [hlost]⟩
  have hok : ¬¬true = true := not_not_intro rfl
  rw [meterReport, if_pos hheard, if_neg hok, hbase]

/-- Settles O49: with no baseline the report is one write to the arm's metering record, and that write leaves the rest
of the state. -/
theorem firstCountOnlySetsTheBaseline : Obligations.FirstCountOnlySetsTheBaseline := by
  intro s n tag count hmeter hlost hbase
  rw [meterReport_of_no_baseline n tag count s hmeter hlost hbase, modMeter_eq]
  rfl

end Sys2Proof.Machine
end

section
/-! ### The release of a note (07: R143)

What the search of a release comes to in each of R143's three cases, by the slots that hold the serial, and how the SET
and the QUERY of the release object are answered. -/

namespace Sys2Proof.Machine

/-! #### The search -/

/-- The test of a slot by its state and serial, as R143 words it. -/
theorem slot_test_iff (x : NoteSlot) (st : SlotState) (serial : Nat) :
    (x.state == st && x.serial == some serial) = true ↔ x.state = st ∧ x.serial = some serial := by
  rw [Bool.and_eq_true, beq_iff_eq, beq_iff_eq]

/-- A FILLED slot with the serial, none below it, is the one that becomes FREE (R143 case 1). -/
theorem releaseNote_of_first_filled (serial i : Nat) (x : NoteSlot) (s : State) (hx : s.notes.slots[i]? = some x)
    (hfilled : x.state = .filled ∧ x.serial = some serial)
    (hbelow : ∀ j y, j < i → s.notes.slots[j]? = some y → ¬(y.state = .filled ∧ y.serial = some serial)) :
    releaseNote serial s = (s.modNotes fun y => { y with slots := y.slots.set i {} }, .done) := by
  obtain ⟨hi, hget⟩ := List.getElem?_eq_some_iff.1 hx
  have hfind : (s.notes.slots.findIdx? fun y => y.state == .filled && y.serial == some serial) = some i := by
    refine List.findIdx?_eq_some_iff_getElem.2 ⟨hi, (slot_test_iff _ _ _).2 (hget ▸ hfilled),
      fun j hj htest => ?_⟩
    exact hbelow j _ hj (List.getElem?_eq_getElem (hj.trans hi)) ((slot_test_iff _ _ _).1 htest)
  rw [releaseNote, hfind]

/-- With no FILLED slot that has the serial, the release turns on the UPDATING slots alone (R143 cases 2 and 3). -/
theorem releaseNote_of_none_filled (serial : Nat) (s : State)
    (hnone : ∀ x ∈ s.notes.slots, ¬(x.state = .filled ∧ x.serial = some serial)) :
    releaseNote serial s =
      if s.notes.slots.any fun x => x.state == .updating && x.serial == some serial then (s, .refused .wrongState)
      else (s, .refused .notFound) := by
  have hfind : (s.notes.slots.findIdx? fun x => x.state == .filled && x.serial == some serial) = none :=
    List.findIdx?_eq_none_iff.2 fun x hx => Bool.eq_false_iff.2 fun htest => hnone x hx ((slot_test_iff _ _ _).1 htest)
  rw [releaseNote, hfind]

/-- A serial that is still being compiled is in the WRONG STATE (R143 case 2). -/
theorem releaseNote_of_updating (serial : Nat) (s : State)
    (hnone : ∀ x ∈ s.notes.slots, ¬(x.state = .filled ∧ x.serial = some serial))
    (hupdating : ∃ x ∈ s.notes.slots, x.state = .updating ∧ x.serial = some serial) :
    releaseNote serial s = (s, .refused .wrongState) := by
  obtain ⟨x, hx, htest⟩ := hupdating
  rw [releaseNote_of_none_filled serial s hnone,
    if_pos (List.any_eq_true.2 ⟨x, hx, (slot_test_iff _ _ _).2 htest⟩)]

/-- A serial in neither state is NOT FOUND (R143 case 3). -/
theorem releaseNote_of_absent (serial : Nat) (s : State)
    (hnone : ∀ x ∈ s.notes.slots, ¬(x.state = .filled ∧ x.serial = some serial))
    (hnotUpdating : ∀ x ∈ s.notes.slots, ¬(x.state = .updating ∧ x.serial = some serial)) :
    releaseNote serial s = (s, .refused .notFound) := by
  rw [releaseNote_of_none_filled serial s hnone, if_neg]
  intro hany
  obtain ⟨x, hx, htest⟩ := List.any_eq_true.1 hany
  exact hnotUpdating x hx ((slot_test_iff _ _ _).1 htest)

/-- A payload of another length is no serial, and nothing is searched (R143). -/
theorem setRelease_of_length_ne (payload : List Byte) (s : State) (hlen : payload.length ≠ 4) :
    setRelease payload s = (s, .refused .badLength) := if_pos hlen

/-- Four bytes are the serial that the release names (R143). -/
theorem setRelease_of_length (payload : List Byte) (s : State) (hlen : payload.length = 4) :
    setRelease payload s = releaseNote (fieldNat payload 0 4) s := if_neg (not_not_intro hlen)

/-! #### The release object on the line -/

/-- The address of the release object (10, R143). -/
theorem objectAt_noteRelease : objectAt 0x40F0 = some .noteRelease := by decide

/-- A part that hears the host has room for its answer. -/
theorem heardHost_has_room (s : State) (h : s.canHear) : s.heardHost.up.outgoing.length < 8 := by
  obtain ⟨-, -, -, hroom⟩ := h
  exact hroom

/-- The row of a release is the SET of the release object, received whole (R143, R186). -/
theorem exec_noteRelease (payload : List Byte) (s : State) :
    exec (.noteRelease payload) s = .next (hostSet 0x40F0 payload s) := rfl

/-- A release whose search frees a slot is answered DONE from the state it leaves (R143, R187). -/
theorem exec_noteRelease_of_done (payload : List Byte) (s t : State) (h : s.canHear) (hp : payload.length ≤ 48)
    (hr : setRelease payload s.heardHost = (t, .done)) (ht : t.up.outgoing.length < 8) :
    exec (.noteRelease payload) s = .next (t.answersDone 0x40F0) := by
  rw [exec_noteRelease, hostSet_reply _ _ s t _ _ h hp objectAt_noteRelease hr ht]
  rfl

/-- A release refused for a reason leaves the slots as they are (R143, R187). -/
theorem exec_noteRelease_of_refused (payload : List Byte) (reason : Reason) (s : State) (h : s.canHear)
    (hp : payload.length ≤ 48) (hr : setRelease payload s.heardHost = (s.heardHost, .refused reason)) :
    exec (.noteRelease payload) s = .next (s.heardHost.answersRefused 0 0x40F0 reason) := by
  rw [exec_noteRelease, hostSet_reply _ _ s _ _ _ h hp objectAt_noteRelease hr (heardHost_has_room s h)]
  rfl

/-- A QUERY of an object that only a SET reaches is refused NO OBJECT, whatever its payload (R189). -/
theorem exec_objectQuery_of_setOnly (addr : ObjAddr) (o : Obj) (payload : List Byte) (s : State) (h : s.canHear)
    (hp : payload.length ≤ 48) (ho : objectAt addr = some o) (hset : o.setOnly = true) :
    exec (.objectQuery addr payload) s = .next (s.heardHost.answersRefused 0 addr .noObject) := by
  have hreply : queryReply addr payload s.heardHost = .refused .noObject := by simp only [queryReply, ho, hset, if_true]
  rw [exec_objectQuery, hostQuery_of_canHear _ _ _ h hp]
  simp only [serveQuery, hreply]
  rw [respond_of_room _ _ _ _ (heardHost_has_room s h)]
  rfl

/-! #### The statement -/

/-- Settles O36, from the three outcomes of the search and the answer that each is given. -/
theorem releaseFreesTheFirstFilledSlot : Obligations.ReleaseFreesTheFirstFilledSlot := by
  intro s payload h hp serial
  refine ⟨fun hlen => ?badLength, fun hlen => ⟨fun i x hx hstate hserial hbelow => ?freed,
    fun hnone hupdating => ?wrongState, fun hnone hnotUpdating => ?notFound⟩, ?query⟩
  case badLength =>
    exact exec_noteRelease_of_refused payload _ s h hp (setRelease_of_length_ne payload _ hlen)
  case freed =>
    have hrelease := releaseNote_of_first_filled serial i x s.heardHost hx ⟨hstate, hserial⟩ hbelow
    exact exec_noteRelease_of_done payload s _ h hp ((setRelease_of_length payload _ hlen).trans hrelease)
      (heardHost_has_room s h)
  case wrongState =>
    have hrelease := releaseNote_of_updating serial s.heardHost hnone hupdating
    exact exec_noteRelease_of_refused payload _ s h hp ((setRelease_of_length payload _ hlen).trans hrelease)
  case notFound =>
    have hrelease := releaseNote_of_absent serial s.heardHost hnone hnotUpdating
    exact exec_noteRelease_of_refused payload _ s h hp ((setRelease_of_length payload _ hlen).trans hrelease)
  case query =>
    exact exec_objectQuery_of_setOnly _ _ payload s h hp objectAt_noteRelease rfl

end Sys2Proof.Machine
end

section
/-! ### The bank control object (08: R154, R155)

What a SET of the bank control object comes to by its command value, with SWAP decided by the inactive bank's products,
and the bytes that a QUERY of it returns. -/

namespace Sys2Proof.Machine

/-! #### A SET heard whole -/

/-- The row of a SET of any address is that SET, received whole (R186, R189). -/
theorem exec_otherObjectSet (addr : ObjAddr) (payload : List Byte) (s : State) :
    exec (.otherObjectSet addr payload) s = .next (hostSet addr payload s) := rfl

/-- A SET of an object, its rule done, is answered DONE from the state that the rule leaves (R187, R189). -/
theorem exec_otherObjectSet_of_done (addr : ObjAddr) (o : Obj) (payload : List Byte) (s t : State) (h : s.canHear)
    (hp : payload.length ≤ 48) (ho : objectAt addr = some o) (hr : setObject o payload s.heardHost = (t, .done))
    (ht : t.up.outgoing.length < 8) :
    exec (.otherObjectSet addr payload) s = .next (t.answersDone addr) := by
  rw [exec_otherObjectSet, hostSet_reply _ _ s t o _ h hp ho hr ht]
  rfl

/-- A SET that its object's rule refuses leaves all but the answer as it was (R187, R189). -/
theorem exec_otherObjectSet_of_refused (addr : ObjAddr) (o : Obj) (payload : List Byte) (reason : Reason) (s : State)
    (h : s.canHear) (hp : payload.length ≤ 48) (ho : objectAt addr = some o)
    (hr : setObject o payload s.heardHost = (s.heardHost, .refused reason)) :
    exec (.otherObjectSet addr payload) s = .next (s.heardHost.answersRefused 0 addr reason) := by
  rw [exec_otherObjectSet, hostSet_reply _ _ s _ o _ h hp ho hr (heardHost_has_room s h)]
  rfl

/-! #### SWAP -/

/-- A bank holds a product when some record of its product table is present (R151). -/
theorem holdsProduct_iff (t : BankTables) : t.holdsProduct = true ↔ ∃ p, some p ∈ t.products := by
  simp only [BankTables.holdsProduct, List.any_eq_true, Option.isSome_iff_exists]
  constructor
  · rintro ⟨_, hmem, p, rfl⟩
    exact ⟨p, hmem⟩
  · rintro ⟨p, hmem⟩
    exact ⟨some p, hmem, p, rfl⟩

/-- SWAP makes an inactive bank that holds a product the active one (R155). -/
theorem swapBanks_of_product (s : State)
    (hproduct : ∃ p, some p ∈ (s.banks.tables (otherBank s.banks.active)).products) :
    swapBanks s = ({ s with banks := { s.banks with active := otherBank s.banks.active } }, .done) :=
  if_pos ((holdsProduct_iff _).2 hproduct)

/-- SWAP to a bank without a product is OUT OF RANGE and changes nothing (R155). -/
theorem swapBanks_of_no_product (s : State)
    (hempty : ¬∃ p, some p ∈ (s.banks.tables (otherBank s.banks.active)).products) :
    swapBanks s = (s, .refused .outOfRange) :=
  if_neg fun hholds => hempty ((holdsProduct_iff _).1 hholds)

/-! #### The command value -/

/-- A one-byte field is its byte's number. -/
theorem fieldNat_singleton (value : Byte) : fieldNat [value] 0 1 = value.toNat := by
  simp [fieldNat, beNat]

/-- The command value 1 is SWAP (R154). -/
theorem setBankControl_swap (s : State) : setBankControl [1] s = swapBanks s := rfl

/-- Any other command value is OUT OF RANGE and changes nothing (R154). -/
theorem setBankControl_of_ne_swap (value : Byte) (s : State) (hvalue : value ≠ 1) :
    setBankControl [value] s = (s, .refused .outOfRange) := by
  have hfield : fieldNat [value] 0 1 ≠ 1 := by
    rw [fieldNat_singleton]
    exact fun heq => hvalue (BitVec.eq_of_toNat_eq heq)
  rw [setBankControl, if_neg (not_not_intro List.length_singleton), if_neg hfield]

/-! #### The bank control object on the line -/

/-- The address of the bank control object (10, R154). -/
theorem objectAt_bankControl : objectAt 5 = some .bankControl := by decide

/-- The row of SWAP is the SET of the bank control object with the command value 1 (R154, R155, R186). -/
theorem exec_swap (s : State) : exec .swap s = exec (.otherObjectSet 5 [1]) s := rfl

/-- The bank control object's bytes: the active bank, the capture counts and the present products (R154). -/
theorem bankControlBytes_eq (b : Banks) :
    bankControlBytes b =
      [if b.active = .a then 1 else 2, BitVec.ofNat 8 b.countA, BitVec.ofNat 8 b.countB,
        BitVec.ofNat 8 (b.a.products.filter Option.isSome).length,
        BitVec.ofNat 8 (b.b.products.filter Option.isSome).length] := by
  have hactive : byteOf (bankCode (some b.active)) = if b.active = .a then 1 else 2 := by
    cases b.active <;> rfl
  rw [bankControlBytes, hactive]
  rfl

/-! #### The statement -/

/-- Settles O25, from the outcome of the SET for each command value and the bytes that the object returns. -/
theorem bankControlReadsAndSwaps : Obligations.BankControlReadsAndSwaps := by
  intro s h
  refine ⟨?read, fun hproduct => ?swapped, fun hempty => ?noProduct, (exec_swap s).symm,
    fun value hvalue => ?otherValue⟩
  case read =>
    rw [← bankControlBytes_eq]
    exact exec_objectQuery_of_ok _ _ _ s h objectAt_bankControl (by simp) (by simp) rfl
  case swapped =>
    have hswap := (setBankControl_swap _).trans (swapBanks_of_product s.heardHost hproduct)
    rw [exec_swap]
    exact exec_otherObjectSet_of_done _ _ _ s _ h (by simp) objectAt_bankControl hswap (heardHost_has_room s h)
  case noProduct =>
    have hswap := (setBankControl_swap _).trans (swapBanks_of_no_product s.heardHost hempty)
    rw [exec_swap]
    exact exec_otherObjectSet_of_refused _ _ _ _ s h (by simp) objectAt_bankControl hswap
  case otherValue =>
    exact exec_otherObjectSet_of_refused _ _ _ _ s h (by simp) objectAt_bankControl
      (setBankControl_of_ne_swap value s.heardHost hvalue)

end Sys2Proof.Machine
end

section
/-! ### The status flags written clear (11: R194, R195)

The mask that the two bytes of the SET carry, what R195 makes of one flag, the standing conditions once the host has
been heard, and how the SET of the status flags is answered. -/

namespace Sys2Proof.Machine

/-! #### The mask -/

/-- Two bytes carry the number whose bits are those of the high byte above those of the low one (10, "Encodings"). -/
theorem fieldNat_pair (hi lo : Byte) : fieldNat [hi, lo] 0 2 = (hi ++ lo : BitVec 16).toNat := by
  have hlo : lo.toNat < 2 ^ 8 := lo.isLt
  calc fieldNat [hi, lo] 0 2 = hi.toNat * 256 + lo.toNat := by simp [fieldNat, beNat]
    _ = hi.toNat <<< 8 ||| lo.toNat := by rw [← Nat.shiftLeft_add_eq_or_of_lt hlo, Nat.shiftLeft_eq]
    _ = (hi ++ lo : BitVec 16).toNat := (BitVec.toNat_append hi lo).symm

/-- Bits 0 to 7 of the mask are those of its low byte. -/
theorem mask_getLsbD_low (hi lo : Byte) (i : Nat) (h : i < 8) : (hi ++ lo : BitVec 16).getLsbD i = lo.getLsbD i := by
  rw [BitVec.getLsbD_append, if_pos h]

/-- Bit 8 of the mask is bit 0 of its high byte. -/
theorem mask_getLsbD_eight (hi lo : Byte) : (hi ++ lo : BitVec 16).getLsbD 8 = hi.getLsbD 0 := by
  rw [BitVec.getLsbD_append, if_neg (Nat.lt_irrefl 8)]

/-! #### One flag -/

/-- A flag whose standing condition does not hold is left set only when its bit is 0 (R195). -/
theorem clearedFlag_of_not_standing (bit flag : Bool) : clearedFlag bit flag false = (!bit && flag) := by
  cases bit <;> rfl

/-- A flag with a standing condition is set by that condition when its bit is 1, else by itself (R195). -/
theorem clearedFlag_iff (bit flag standing : Bool) (P : Prop) (h : standing = true ↔ P) :
    clearedFlag bit flag standing = true ↔ if bit then P else flag = true := by
  cases bit
  case false => exact Iff.rfl
  case true => exact h

/-- The flags under a mask of two bytes: those of bits 0 to 7 go by the low byte, LINK ERRORS by the high one (R195, 10
"Encodings"). -/
theorem cleared_pair (f st : StatusFlags) (hi lo : Byte) :
    f.cleared st (hi ++ lo) =
      { noteReady := clearedFlag (lo.getLsbD 0) f.noteReady st.noteReady
        nodeLost := clearedFlag (lo.getLsbD 1) f.nodeLost st.nodeLost
        unassignedFlow := clearedFlag (lo.getLsbD 2) f.unassignedFlow st.unassignedFlow
        lockout := clearedFlag (lo.getLsbD 3) f.lockout st.lockout
        additiveFault := clearedFlag (lo.getLsbD 4) f.additiveFault st.additiveFault
        valveFault := clearedFlag (lo.getLsbD 5) f.valveFault st.valveFault
        meterFault := clearedFlag (lo.getLsbD 6) f.meterFault st.meterFault
        hostLost := clearedFlag (lo.getLsbD 7) f.hostLost st.hostLost
        linkErrors := clearedFlag (hi.getLsbD 0) f.linkErrors st.linkErrors } := by
  simp only [StatusFlags.cleared, mask_getLsbD_low, mask_getLsbD_eight, Nat.reduceLT]

/-! #### The standing conditions -/

/-- Some arm passes a test when one of the four does. -/
theorem any_armIds_iff (p : ArmId → Bool) : armIds.any p = true ↔ ∃ n, p n = true := by
  have hmem : ∀ n, n ∈ armIds := by
    intro n
    cases n <;> decide
  rw [List.any_eq_true]
  exact ⟨fun ⟨n, _, hn⟩ => ⟨n, hn⟩, fun ⟨n, hn⟩ => ⟨n, hmem n, hn⟩⟩

/-- The host heard, host lost stands no more, and the other conditions stand as before (R198, 11 "Sticky status
flags"). -/
theorem heardHost_standing (s : State) : s.heardHost.standing = { s.standing with hostLost := false } := rfl

/-- VALVE FAULT stands while some arm has a valve trip (11, "Sticky status flags"). -/
theorem standing_valveFault_iff (s : State) : s.standing.valveFault = true ↔ ∃ n : ArmId, (s.arm n).trip = true :=
  any_armIds_iff fun n => (s.arm n).trip

/-- METER FAULT stands while some arm is BLOCKED with the cause METER (11, "Sticky status flags"). -/
theorem standing_meterFault_iff (s : State) :
    s.standing.meterFault = true ↔ ∃ n : ArmId, s.armState n = .blocked ∧ (s.arm n).blockCause = some .meter := by
  refine (any_armIds_iff fun n => (s.arm n).state == .blocked && (s.arm n).blockCause == some .meter).trans
    (exists_congr fun n => ?_)
  rw [Bool.and_eq_true, beq_iff_eq, beq_iff_eq]
  rfl

/-! #### The status flags object on the line -/

/-- The address of the status flags (10, R195). -/
theorem objectAt_statusFlags : objectAt 2 = some .statusFlags := by decide

/-- Two bytes clear the flags of their mask (R195). -/
theorem setStatusFlags_pair (hi lo : Byte) (s : State) :
    setStatusFlags [hi, lo] s = (clearFlags (hi ++ lo) s, .done) := by
  have hlen : ¬[hi, lo].length ≠ 2 := not_not_intro rfl
  rw [setStatusFlags, if_neg hlen, fieldNat_pair, BitVec.ofNat_toNat, BitVec.setWidth_eq]

/-- The row of the SET that clears status flags is the SET of the status flags object (R186, R195). -/
theorem exec_clearStatusFlags (payload : List Byte) (s : State) :
    exec (.clearStatusFlags payload) s = exec (.otherObjectSet 2 payload) s := rfl

/-- The status flags written clear are answered DONE once they are cleared (R187, R195). -/
theorem exec_clearStatusFlags_pair (hi lo : Byte) (s : State) (h : s.canHear) :
    exec (.clearStatusFlags [hi, lo]) s = .next ((clearFlags (hi ++ lo) s.heardHost).answersDone 2) := by
  rw [exec_clearStatusFlags]
  exact exec_otherObjectSet_of_done _ _ _ s _ h (by simp) objectAt_statusFlags (setStatusFlags_pair hi lo _)
    (heardHost_has_room s h)

/-- Flags cleared at the host's word go by their bits and the standing conditions, host lost standing no more (R195,
R198). -/
theorem clearFlags_heardHost_flags (mask : BitVec 16) (s : State) :
    (clearFlags mask s.heardHost).status.flags = s.status.flags.cleared { s.standing with hostLost := false } mask := by
  rw [← heardHost_standing]
  rfl

/-! #### The statement -/

/-- Settles O21, flag by flag: the flag's bit of the mask decides between the flag and its standing condition. -/
theorem clearedFlagsStandWithTheirConditions : Obligations.ClearedFlagsStandWithTheirConditions := by
  intro s hi lo h
  have hflags : ((clearFlags (hi ++ lo) s.heardHost).answersDone 2).status.flags = _ :=
    (clearFlags_heardHost_flags (hi ++ lo) s).trans (cleared_pair _ _ hi lo)
  refine ⟨_, exec_clearStatusFlags_pair hi lo s h, ?noteReady, ?nodeLost, ?unassignedFlow, ?lockout, ?additiveFault,
    ?valveFault, ?meterFault, ?hostLost, ?linkErrors, rfl⟩
  all_goals rw [hflags]
  case noteReady => rfl
  case nodeLost => rfl
  case unassignedFlow => exact clearedFlag_of_not_standing _ _
  case lockout => exact clearedFlag_of_not_standing _ _
  case additiveFault => exact clearedFlag_of_not_standing _ _
  case valveFault => exact clearedFlag_iff _ _ _ _ (standing_valveFault_iff s)
  case meterFault => exact clearedFlag_iff _ _ _ _ (standing_meterFault_iff s)
  case hostLost => exact clearedFlag_of_not_standing _ _
  case linkErrors => exact clearedFlag_of_not_standing _ _

end Sys2Proof.Machine
end

section
/-! ### What a step can change (R2, R24, R31, R44, R47, R121, R126, R129, R152, R153, R169, R172, R185, R196)

The parts of the state that the invariants read, as a view; the elementary moves that the part's operations make of a
view; and the relation between two states that a chain of moves joins, the second keeping BAY PERMIT within its
conditions if the first does. Each invariant is then proved once for each move. -/

namespace Sys2Proof.Machine

/-! #### The view -/

/-- What the invariants read of an arm record. -/
structure ArmView where
  state     : ArmState
  held      : Option Nat
  commanded : Position

/-- What the invariants read of a compartment record. -/
structure CompView where
  number : Nat
  state  : CompState
  arm    : Option ArmId
  bank   : Option Bank

/-- The parts of the state that the invariants read, but for those of BAY PERMIT. -/
structure View where
  counters : Counters
  phase    : SessionState
  comps    : List CompView
  store    : PermitStore
  banks    : Banks
  arm      : ArmId → ArmView
  slots    : List SlotState
  slotHeld : Option Nat
  sizes    : Nat × Nat × Nat
  queue    : List Cmd
  relayed  : Nat
  answers  : Nat
  gap      : Nat

def Arm.view (a : Arm) : ArmView := { state := a.state, held := a.held, commanded := a.commanded }

def Comp.view (c : Comp) : CompView := { number := c.number, state := c.state, arm := c.arm, bank := c.bank }

def State.view (s : State) : View :=
  { counters := s.status.counters
    phase := s.session.state
    comps := s.session.comps.map Comp.view
    store := s.store
    banks := s.banks
    arm := fun n => (s.arm n).view
    slots := s.notes.slots.map fun x => x.state
    slotHeld := s.notes.held
    sizes := (s.nodes.length, s.scans.length, s.acceptance.length)
    queue := s.cmdQueue
    relayed := s.relayQueue.length
    answers := s.up.outgoing.length
    gap := s.up.gap }

/-- What the conditions of BAY PERMIT read (R121). -/
structure PermitView where
  mode      : Mode
  tag       : Option Tag
  last      : Option PermissiveReport
  bayPermit : Bool
  lost      : Tag → Bool
  trip      : ArmId → Bool

def State.permitView (s : State) : PermitView :=
  { mode := s.mode
    tag := s.permissive.tag
    last := s.permissive.last
    bayPermit := s.permissive.bayPermit
    lost := s.nodeLost
    trip := fun n => (s.arm n).trip }

/-! #### Moves -/

/-- The compartment that an arm of the view holds (R44). -/
def View.heldComp (v : View) (n : ArmId) : Option CompView :=
  (v.arm n).held.bind fun k => v.comps.find? fun c => c.number == k

/-- The compartments, those with the number that an arm holds changed. -/
def View.mapHeld (v : View) (n : ArmId) (f : CompView → CompView) : List CompView :=
  match (v.arm n).held with
  | none => v.comps
  | some k => v.comps.map fun c => if c.number = k then f c else c

/-- A bank captured once more (R152). -/
def Banks.counted (b : Banks) : Bank → Banks
  | .a => { b with countA := b.countA + 1 }
  | .b => { b with countB := b.countB + 1 }

/-- A bank captured once less (R152). -/
def Banks.uncounted (b : Banks) : Option Bank → Banks
  | none => b
  | some .a => { b with countA := b.countA - 1 }
  | some .b => { b with countB := b.countB - 1 }

/-- LOW or FULL only in STARTING, FLOWING or TRIMMING (R47). -/
def ArmView.ok (a : ArmView) : Prop := a.commanded ≠ .closed → a.state.isMoving = true

/-- An arm record changes so that it is held as before, and its valve stays within R47. -/
structure ArmView.Step (a b : ArmView) : Prop where
  held   : b.held = a.held
  isHeld : b.state.isHeld = a.state.isHeld
  armed  : b.state = .armed ↔ a.state = .armed
  ok     : a.ok → b.ok

/-- The slot that the session holds is being compiled. -/
def View.compiling (v : View) : Prop := ∃ i, v.slotHeld = some i ∧ v.slots[i]? = some .updating

/-- The elementary moves of the part on its view; a bank of `frozen` is not written. -/
inductive Move (frozen : Bank → Prop) (v : View) : View → Prop
  | counted (c : CounterId) (k : Nat) : Move frozen v { v with counters := v.counters.raise c k }
  | answers (k : Nat) (h : k ≤ v.answers ∨ k ≤ 8) : Move frozen v { v with answers := k }
  | relayed (k : Nat) (h : k ≤ v.relayed ∨ k ≤ 4) : Move frozen v { v with relayed := k }
  | gap (k : Nat) (h : 100 ≤ k ∧ k ≤ 2000) : Move frozen v { v with gap := k }
  | queue (q : List Cmd) (h : Cmd.queueOk v.queue → Cmd.queueOk q) : Move frozen v { v with queue := q }
  | store (x : PermitStore) (h : v.store.ok → x.ok) : Move frozen v { v with store := x }
  | slots (l : List SlotState) (i : Option Nat) (hl : l.length = v.slots.length)
      (hc : View.compiling { v with slots := l, slotHeld := i } → v.phase = .ending ∨ v.compiling) :
      Move frozen v { v with slots := l, slotHeld := i }
  | active (bank : Bank) : Move frozen v { v with banks := { v.banks with active := bank } }
  | tables (bank : Bank) (t : BankTables) (hf : ¬frozen bank) (ht : (v.banks.tables bank).ok → t.ok) :
      Move frozen v { v with banks := v.banks.setTables bank t }
  | arms (g : ArmId → ArmView) (h : ∀ n, (v.arm n).Step (g n)) : Move frozen v { v with arm := g }
  | take (n : ArmId) (k : Nat) (ho : v.phase = .opened) (hi : (v.arm n).state = .idle)
      (hc : ∃ c ∈ v.comps, c.number = k ∧ c.state = .pending) :
      Move frozen v
        { v with
          arm := Function.update v.arm n { v.arm n with state := .armed, held := some k }
          comps := v.comps.map fun c =>
            if c.number = k then { c with state := .armed, arm := some n, bank := some v.banks.active } else c
          banks := v.banks.counted v.banks.active }
  | giveBack (n : ArmId) (st : ArmState) (ha : (v.arm n).state = .armed) (hs : st = .idle ∨ st = .blocked) :
      Move frozen v
        { v with
          arm := Function.update v.arm n { v.arm n with state := st, held := none }
          comps := v.mapHeld n fun c => { c with state := .pending, arm := none, bank := none }
          banks := v.banks.uncounted ((v.heldComp n).bind fun c => c.bank) }
  | start (n : ArmId) (p : Position) (ha : (v.arm n).state = .armed) :
      Move frozen v
        { v with
          arm := Function.update v.arm n { v.arm n with state := .starting, commanded := p }
          comps := v.mapHeld n fun c => { c with state := .active } }
  | finish (n : ArmId) (st : ArmState) (fin : CompState) (hh : (v.heldComp n).isSome = true)
      (hl : (v.arm n).state.isLoading = true) (hv : (v.arm n).ok → (v.arm n).commanded = .closed)
      (hs : st = .idle ∨ st = .blocked) (hf : fin.isFinished = true) :
      Move frozen v
        { v with
          arm := Function.update v.arm n { v.arm n with state := st, held := none }
          comps := v.mapHeld n fun c => { c with state := fin }
          banks := v.banks.uncounted ((v.heldComp n).bind fun c => c.bank) }
  | notLoaded :
      Move frozen v
        { v with comps := v.comps.map fun c => if c.state = .pending then { c with state := .notLoaded } else c }
  | codeEntry (h : v.phase = .vacant) : Move frozen v { v with phase := .codeEntry }
  | opened (cs : List CompView) (hp : v.phase = .vacant ∨ v.phase = .codeEntry)
      (hn : v.store.ok → (cs.map fun c => c.number).Nodup) (hc : ∀ c ∈ cs, c.state = .pending) :
      Move frozen v { v with phase := .opened, comps := cs }
  | ending (h : ∀ n, (v.arm n).state.isHeld = true → v.heldComp n = none) : Move frozen v { v with phase := .ending }
  | vacate (h : v.phase ≠ .opened ∨ v.compiling) :
      Move frozen v { v with phase := .vacant, comps := [], slotHeld := none }
  | restart (h : v.phase = .vacant) :
      Move frozen v
        { v with
          counters := {}, store := { v.store with orders := [] }, banks := { v.banks with countA := 0, countB := 0 }
          arm := fun _ => { state := .idle, held := none, commanded := .closed }
          sizes := (64, v.sizes.2), queue := [], relayed := 0, answers := 0 }

/-! #### Chains of moves -/

/-- A chain of moves joins the views of two states. -/
def Chain (frozen : Bank → Prop) (s t : State) : Prop := Relation.ReflTransGen (Move frozen) s.view t.view

/-- A chain of moves joins two states, and BAY PERMIT stays within its conditions (R121). -/
structure Kept (frozen : Bank → Prop) (s t : State) : Prop where
  chain  : Chain frozen s t
  permit : s.bayPermitOk → t.bayPermitOk

section Kept
variable {fr : Bank → Prop} {s t u : State}

theorem Chain.refl (s : State) : Chain fr s s := Relation.ReflTransGen.refl

theorem Chain.trans (h : Chain fr s t) (h' : Chain fr t u) : Chain fr s u := Relation.ReflTransGen.trans h h'

theorem Chain.of_eq (h : t.view = s.view) : Chain fr s t := by
  rw [Chain, h]

theorem Chain.of_move {w : View} (h : t.view = w) (hm : Move fr s.view w) : Chain fr s t :=
  Relation.ReflTransGen.single (h ▸ hm)

/-- The conditions of BAY PERMIT, from what they read. -/
theorem bayPermitHolds_iff (s : State) :
    s.bayPermitHolds = true ↔
      s.mode = .run ∧ (∃ t, s.permissive.tag = some t ∧ s.nodeLost t = false) ∧
      (∃ r, s.permissive.last = some r ∧ r.estop = true) ∧ ∀ n, (s.arm n).trip = false := by
  have ha : (armIds.all fun n => !(s.arm n).trip) = true ↔ ∀ n, (s.arm n).trip = false := by
    constructor
    · intro h n
      have := List.all_eq_true.1 h n (by cases n <;> decide)
      simpa using this
    · intro h
      exact List.all_eq_true.2 fun n _ => by simp [h n]
  have hu : s.permissiveNodeUp = true ↔ ∃ t, s.permissive.tag = some t ∧ s.nodeLost t = false := by
    unfold State.permissiveNodeUp
    cases s.permissive.tag <;> simp
  have he : (match s.permissive.last with | none => false | some r => r.estop) = true ↔
      ∃ r, s.permissive.last = some r ∧ r.estop = true := by
    cases s.permissive.last <;> simp
  unfold State.bayPermitHolds
  simp only [Bool.and_eq_true, beq_iff_eq, hu, ha, and_assoc]
  exact and_congr_right fun _ => and_congr_right fun _ => and_congr_left fun _ => he

/-- BAY PERMIT keeps within its conditions while what they read stays, a node that is no longer LOST aside. -/
theorem bayPermitOk_of_view (hm : t.mode = s.mode) (ht : t.permissive.tag = s.permissive.tag)
    (hl : t.permissive.last = s.permissive.last) (hb : t.permissive.bayPermit = s.permissive.bayPermit)
    (hn : ∀ x, s.permissive.tag = some x → s.nodeLost x = false → t.nodeLost x = false)
    (ha : ∀ n, (t.arm n).trip = (s.arm n).trip) (h : s.bayPermitOk) : t.bayPermitOk := by
  intro hp
  rw [hb] at hp
  obtain ⟨hrun, ⟨x, hx, hup⟩, hstop, htrip⟩ := (bayPermitHolds_iff s).1 (h hp)
  exact (bayPermitHolds_iff t).2
    ⟨hm.trans hrun, ⟨x, ht.trans hx, hn x hx hup⟩, by rwa [hl], fun n => (ha n).trans (htrip n)⟩

theorem bayPermitOk_of_permitView (h : t.permitView = s.permitView) (hs : s.bayPermitOk) : t.bayPermitOk := by
  have hlost : ∀ x, t.nodeLost x = s.nodeLost x := congrFun (congrArg PermitView.lost h)
  exact bayPermitOk_of_view (congrArg PermitView.mode h) (congrArg PermitView.tag h) (congrArg PermitView.last h)
    (congrArg PermitView.bayPermit h) (fun x _ hx => (hlost x).trans hx) (congrFun (congrArg PermitView.trip h)) hs

/-- BAY PERMIT decided anew is within its conditions (R121). -/
theorem decideBayPermit_ok (s : State) : (decideBayPermit s).bayPermitOk := fun h => h

theorem Kept.refl (s : State) : Kept fr s s := ⟨Chain.refl s, id⟩

theorem Kept.trans (h : Kept fr s t) (h' : Kept fr t u) : Kept fr s u :=
  ⟨h.chain.trans h'.chain, h'.permit ∘ h.permit⟩

/-- What no invariant reads has changed. -/
theorem Kept.quiet (hv : t.view = s.view) (hp : t.permitView = s.permitView) : Kept fr s t :=
  ⟨Chain.of_eq hv, bayPermitOk_of_permitView hp⟩

/-- One move has been made, BAY PERMIT aside. -/
theorem Kept.of_move {w : View} (hv : t.view = w) (hm : Move fr s.view w) (hp : t.permitView = s.permitView) :
    Kept fr s t :=
  ⟨Chain.of_move hv hm, bayPermitOk_of_permitView hp⟩

theorem Kept.ite {p : Prop} [Decidable p] (ht : p → Kept fr s t) (hu : ¬p → Kept fr s u) :
    Kept fr s (if p then t else u) := by
  split
  · exact ht ‹_›
  · exact hu ‹_›

/-- The command queue alone has changed, in keeping with R169. -/
theorem Kept.queue (hv : t.view = { s.view with queue := t.cmdQueue }) (hq : s.cmdsOk → t.cmdsOk)
    (hp : t.permitView = s.permitView) : Kept fr s t :=
  Kept.of_move hv (.queue _ hq) hp

/-- What each arm's step keeps, the four steps keep. -/
theorem Kept.forArms {f : ArmId → State → State} (h : ∀ n t, Kept fr t (f n t)) (s : State) :
    Kept fr s (Machine.forArms f s) :=
  (h .a1 s).trans ((h .a2 _).trans ((h .a3 _).trans (h .a4 _)))

end Kept
end Sys2Proof.Machine
end

section
/-! ### The shared operations as moves

Each update of the state and each operation that several blocks share, joined to its result by moves. -/

namespace Sys2Proof.Machine

section
variable {fr : Bank → Prop} {s t : State}

/-! #### Updates of one part of the state -/

theorem permitView_eq (hm : t.mode = s.mode) (hp : t.permissive = s.permissive) (hn : t.nodes = s.nodes)
    (ha : ∀ n, (t.arm n).trip = (s.arm n).trip) : t.permitView = s.permitView := by
  have hlost : t.nodeLost = s.nodeLost := by
    funext x
    simp only [State.nodeLost, State.node, hn]
  simp only [State.permitView, hm, hp, hlost, ha]

theorem kept_raiseFlag (s : State) (f : StatusFlag) : Kept fr s (s.raiseFlag f) := Kept.quiet rfl rfl

theorem kept_modClock (s : State) (f : Clock → Clock) : Kept fr s (s.modClock f) := Kept.quiet rfl rfl

theorem kept_modMeter (s : State) (n : ArmId) (f : Metering → Metering) : Kept fr s (s.modMeter n f) :=
  Kept.quiet rfl rfl

theorem kept_modDose (s : State) (n : ArmId) (k : Slot) (f : Dosing → Dosing) : Kept fr s (s.modDose n k f) :=
  Kept.quiet rfl rfl

theorem kept_modField (s : State) (f : FieldLine → FieldLine) : Kept fr s (s.modField f) := Kept.quiet rfl rfl

theorem kept_setReader (s : State) (r : Extraction) : Kept fr s (s.setReader r) := Kept.quiet rfl rfl

theorem kept_setConfig (s : State) (n : ArmId) (c : ArmConfig) : Kept fr s (s.setConfig n c) := Kept.quiet rfl rfl

theorem kept_countBy (s : State) (c : CounterId) (k : Nat) : Kept fr s (s.countBy c k) :=
  Kept.of_move rfl (.counted c k) rfl

theorem kept_count (s : State) (c : CounterId) : Kept fr s (s.count c) := kept_countBy s c 1

/-- An update of the port that keeps the gap, and no longer an outgoing list than before or than 8. -/
theorem kept_modUp (s : State) (f : Upstream → Upstream)
    (ho : (f s.up).outgoing.length ≤ s.up.outgoing.length ∨ (f s.up).outgoing.length ≤ 8)
    (hg : (f s.up).gap = s.up.gap) : Kept fr s (s.modUp f) := by
  refine Kept.of_move (w := { s.view with answers := (f s.up).outgoing.length }) ?_ (.answers _ ho) rfl
  simp only [State.view, modUp_up, hg]
  rfl

theorem kept_setRelayQueue (s : State) (q : List Relayed) (h : q.length ≤ s.relayQueue.length ∨ q.length ≤ 4) :
    Kept fr s (s.setRelayQueue q) :=
  Kept.of_move rfl (.relayed _ h) rfl

/-- An update of the session that keeps its state and the compartments. -/
theorem kept_modSession (s : State) (f : Session → Session) (hp : (f s.session).state = s.session.state)
    (hc : (f s.session).comps = s.session.comps) : Kept fr s (s.modSession f) :=
  Kept.quiet (by simp only [State.view, modSession_session, hp, hc]; rfl) rfl

theorem view_modHeld (s : State) (n : ArmId) (f : Comp → Comp) (g : CompView → CompView)
    (h : ∀ c, (f c).view = g c.view) : (s.modHeld n f).view = { s.view with comps := s.view.mapHeld n g } := by
  have hheld : (s.view.arm n).held = (s.arm n).held := rfl
  unfold State.modHeld View.mapHeld
  rw [hheld]
  cases (s.arm n).held with
  | none => rfl
  | some k =>
    have hmap : ((s.modComp k f).session.comps).map Comp.view =
        s.view.comps.map fun c => if c.number = k then g c else c := by
      simp only [State.modComp, State.modSession, State.view, List.map_map]
      refine List.map_congr_left fun c _ => ?_
      simp only [Function.comp_apply, apply_ite Comp.view, h]
      rfl
    simp only [State.view] at hmap ⊢
    rw [hmap]
    rfl

theorem permitView_modHeld (s : State) (n : ArmId) (f : Comp → Comp) : (s.modHeld n f).permitView = s.permitView :=
  permitView_eq (by simp) (by simp) (by simp) fun m => by rw [arm_modHeld]

theorem View.mapHeld_id (v : View) (n : ArmId) : (v.mapHeld n fun c => c) = v.comps := by
  unfold View.mapHeld
  split
  · rfl
  · simp

/-- An update of the held compartment that changes nothing that the capture counts rest on. -/
theorem kept_modHeld (s : State) (n : ArmId) (f : Comp → Comp)
    (h : ∀ c, (f c).view = c.view := by exact fun _ => rfl) :
    Kept fr s (s.modHeld n f) := by
  refine Kept.quiet ?_ (permitView_modHeld s n f)
  rw [view_modHeld s n f (fun c => c) h, View.mapHeld_id]

theorem view_modArm (s : State) (n : ArmId) (f : Arm → Arm) :
    (s.modArm n f).view = { s.view with arm := Function.update s.view.arm n (f (s.arm n)).view } := by
  have harm : (fun m => ((s.modArm n f).arm m).view) = Function.update s.view.arm n (f (s.arm n)).view := by
    funext m
    rw [arm_modArm, Function.update_apply, apply_ite Arm.view]
    rfl
  simp only [State.view] at harm ⊢
  rw [harm]
  rfl

theorem ArmView.Step.refl (a : ArmView) : a.Step a := ⟨rfl, rfl, Iff.rfl, id⟩

theorem permitView_modArm (s : State) (n : ArmId) (f : Arm → Arm) (ht : (f (s.arm n)).trip = (s.arm n).trip) :
    (s.modArm n f).permitView = s.permitView := by
  refine permitView_eq rfl rfl rfl fun m => ?_
  rw [arm_modArm]
  split
  next h => rw [ht, h]
  next => rfl

/-- The arm records changed at one arm. -/
theorem move_arm (v : View) (n : ArmId) (a : ArmView) (h : (v.arm n).Step a) :
    Move fr v { v with arm := Function.update v.arm n a } := by
  refine .arms _ fun m => ?_
  by_cases hm : m = n
  · subst hm; simpa using h
  · simpa [hm] using ArmView.Step.refl (v.arm m)

theorem chain_modArm (s : State) (n : ArmId) (f : Arm → Arm) (h : (s.arm n).view.Step (f (s.arm n)).view) :
    Chain fr s (s.modArm n f) :=
  Chain.of_move (view_modArm s n f) (move_arm s.view n _ h)

theorem kept_modArm (s : State) (n : ArmId) (f : Arm → Arm) (h : (s.arm n).view.Step (f (s.arm n)).view)
    (ht : (f (s.arm n)).trip = (s.arm n).trip) : Kept fr s (s.modArm n f) :=
  ⟨chain_modArm s n f h, bayPermitOk_of_permitView (permitView_modArm s n f ht)⟩

/-- An update of an arm record that no invariant reads. -/
theorem kept_modArm_quiet (s : State) (n : ArmId) (f : Arm → Arm)
    (h : (f (s.arm n)).view = (s.arm n).view := by rfl) (ht : (f (s.arm n)).trip = (s.arm n).trip := by rfl) : Kept fr s (s.modArm n f) :=
  kept_modArm s n f (h ▸ ArmView.Step.refl _) ht

/-- An update of the permissive record that BAY PERMIT does not read. -/
theorem kept_modPermissive (s : State) (f : Permissive → Permissive) (ht : (f s.permissive).tag = s.permissive.tag)
    (hl : (f s.permissive).last = s.permissive.last) (hb : (f s.permissive).bayPermit = s.permissive.bayPermit) :
    Kept fr s (s.modPermissive f) :=
  Kept.quiet rfl (by simp only [State.permitView, modPermissive_permissive, ht, hl, hb]; rfl)

theorem kept_modStore (s : State) (f : PermitStore → PermitStore) (h : s.store.ok → (f s.store).ok) :
    Kept fr s (s.modStore f) :=
  Kept.of_move rfl (.store _ h) rfl

theorem view_modNode_length (s : State) (x : Tag) (f : Node → Node) : (s.modNode x f).nodes.length = s.nodes.length := by
  unfold State.modNode
  dsimp only
  split <;> simp

theorem chain_modNode (s : State) (x : Tag) (f : Node → Node) : Chain fr s (s.modNode x f) :=
  Chain.of_eq (by simp only [State.view, view_modNode_length]; rfl)

/-- The node record of a tag after an update of one. -/
theorem node_modNode (s : State) (x y : Tag) (f : Node → Node) :
    (s.modNode x f).node y = s.node y ∨ y = x ∧ (s.modNode x f).node y = f (s.node x) := by
  unfold State.modNode State.node
  dsimp only
  split
  · by_cases hy : y = x
    · subst hy
      by_cases hl : y.toNat < s.nodes.length
      · right; simp [hl]
      · left; rw [List.set_eq_of_length_le (Nat.not_lt.1 hl)]
    · left
      have hne : x.toNat ≠ y.toNat := fun he => hy (BitVec.eq_of_toNat_eq he.symm)
      simp [List.getD, List.getElem?_set_ne hne]
  · exact .inl rfl

/-- An update of a node record that keeps its state. -/
theorem kept_modNode (s : State) (x : Tag) (f : Node → Node) (h : ∀ y, (f y).state = y.state) :
    Kept fr s (s.modNode x f) := by
  refine ⟨chain_modNode s x f, bayPermitOk_of_view rfl rfl rfl rfl (fun y _ hy => ?_) fun n => rfl⟩
  rcases node_modNode s x y f with he | ⟨hyx, he⟩
  · simpa only [State.nodeLost, he] using hy
  · subst hyx
    simpa only [State.nodeLost, he, h] using hy

theorem kept_modScans (s : State) (f : List ScanEntry → List ScanEntry) (h : (f s.scans).length = s.scans.length) :
    Kept fr s (s.modScans f) :=
  Kept.quiet (by simp only [State.view, modScans_scans, h]; rfl) rfl

theorem kept_modAcceptance (s : State) (f : List AcceptanceEntry → List AcceptanceEntry)
    (h : (f s.acceptance).length = s.acceptance.length) : Kept fr s (s.modAcceptance f) :=
  Kept.quiet (by simp only [State.view, modAcceptance_acceptance, h]; rfl) rfl

theorem kept_setCmdQueue (s : State) (q : List Cmd) (h : s.cmdsOk → Cmd.queueOk q) : Kept fr s (s.setCmdQueue q) :=
  Kept.queue rfl h rfl

/-- An update of the notes that keeps the states of the slots and the one held. -/
theorem kept_modNotes (s : State) (f : NoteStore → NoteStore)
    (hl : (f s.notes).slots.map (fun x => x.state) = s.notes.slots.map fun x => x.state)
    (hh : (f s.notes).held = s.notes.held) : Kept fr s (s.modNotes f) :=
  Kept.quiet (by simp only [State.view, modNotes_notes, hl, hh]; rfl) rfl

/-! #### Responses (R172, R185) -/

theorem kept_pushResponse (r : Outgoing) (s : State) : Kept fr s (pushResponse r s) := by
  unfold pushResponse
  split
  · exact kept_modUp s _ (.inr (by simp; omega)) rfl
  · exact kept_count s _

theorem kept_respond (tag : Tag) (addr : ObjAddr) (r : Reply) (s : State) : Kept fr s (respond tag addr r s) :=
  kept_pushResponse _ s

/-! #### Messages and valves (R22, R47, R169) -/

theorem kept_display (code : Nat) (s : State) : Kept fr s (display code s) :=
  Kept.queue (by simp [State.view, State.arm]) (display_cmdsOk code)
    (permitView_eq (by simp) (by simp) (by simp) fun m => congrArg Arm.trip (arm_of_arms (by simp) m))

theorem kept_queueValve (n : ArmId) (p : Position) (s : State) : Kept fr s (queueValve n p s) :=
  Kept.queue (by simp [State.view, State.arm]) (queueValve_cmdsOk n p)
    (permitView_eq (by simp) (by simp) (by simp) fun m => congrArg Arm.trip (arm_of_arms (by simp) m))

theorem commandPosition_state (a : Arm) (p : Position) (now settleAt : Ms) :
    (a.commandPosition p now settleAt).state = a.state ∧ (a.commandPosition p now settleAt).held = a.held ∧
      (a.commandPosition p now settleAt).commanded = p ∧ (a.commandPosition p now settleAt).trip = a.trip := by
  unfold Arm.commandPosition
  split <;> exact ⟨rfl, rfl, rfl, rfl⟩

theorem view_commandValve (n : ArmId) (p : Position) (s : State) :
    (commandValve n p s).view =
      { s.view with
        queue := (commandValve n p s).cmdQueue
        arm := Function.update s.view.arm n ((s.arm n).commandPosition p s.now (s.ahead 15000)).view } := by
  have harm : (fun m => ((commandValve n p s).arm m).view) = Function.update s.view.arm n
      ((s.arm n).commandPosition p s.now (s.ahead 15000)).view := by
    funext m
    rw [commandValve_arm, Function.update_apply, apply_ite Arm.view]
    rfl
  simp only [State.view] at harm ⊢
  rw [harm]
  simp

/-- A position is commanded, then the arm record changes: the arm is held as before and its valve within R47. -/
theorem kept_commandValve_modArm (n : ArmId) (p : Position) (f : Arm → Arm) (s : State)
    (h : (s.arm n).view.Step (f ((s.arm n).commandPosition p s.now (s.ahead 15000))).view)
    (ht : ∀ a, (f a).trip = a.trip) : Kept fr s ((commandValve n p s).modArm n f) := by
  have hview : ((commandValve n p s).modArm n f).view =
      { s.view with
        queue := (commandValve n p s).cmdQueue
        arm := Function.update s.view.arm n (f ((s.arm n).commandPosition p s.now (s.ahead 15000))).view } := by
    rw [view_modArm, view_commandValve, commandValve_arm, if_pos rfl]
    simp
  have hqueue : Move fr s.view { s.view with queue := (commandValve n p s).cmdQueue } :=
    .queue _ (commandValve_cmdsOk n p)
  refine ⟨?_, bayPermitOk_of_permitView (permitView_eq (by simp) (by simp) (by simp) fun m => ?_)⟩
  · rw [Chain, hview]
    exact (Relation.ReflTransGen.single hqueue).tail (move_arm _ n _ h)
  · rw [arm_modArm, commandValve_arm, commandValve_arm, if_pos rfl]
    split
    next hm => rw [ht, (commandPosition_state _ _ _ _).2.2.2, hm]
    next => rfl

theorem modArm_id (s : State) (n : ArmId) : s.modArm n (fun a => a) = s := by
  cases n <;> rfl

/-- CLOSED is commanded (R47). -/
theorem kept_close (n : ArmId) (s : State) : Kept fr s (commandValve n .closed s) := by
  obtain ⟨hst, hheld, hcmd, -⟩ := commandPosition_state (s.arm n) .closed s.now (s.ahead 15000)
  have h := kept_commandValve_modArm (fr := fr) n .closed (fun a => a) s
    ⟨hheld, by simp only [Arm.view, hst], by simp only [Arm.view, hst],
      fun _ hne => absurd hcmd hne⟩ fun _ => rfl
  rwa [modArm_id] at h

/-! #### Halts (R57, R58) -/

theorem kept_haltArm (n : ArmId) (s : State) (h : (s.armState n).isActive = true) : Kept fr s (haltArm n s) := by
  have hheld : (s.armState n).isHeld = true ∧ s.armState n ≠ .armed := by
    revert h
    cases s.armState n <;> decide
  have hstep : ∀ a : Arm, a.state = s.armState n → ((s.armState n).isMoving = true → a.commanded = .closed) →
      ∀ now dl, a.view.Step { a with state := .halted, haltEntry := some now, haltDeadline := some dl : Arm }.view := by
    intro a hst hclosed now dl
    refine ⟨rfl, ?_, ?_, fun hok hne => ?_⟩
    · simp only [Arm.view, hst, hheld.1]; rfl
    · simp only [Arm.view, hst]
      exact ⟨fun he => absurd he (by decide), fun he => absurd he hheld.2⟩
    · have hmoving : a.state.isMoving = true := hok hne
      exact absurd (hclosed (hst ▸ hmoving)) hne
  unfold haltArm
  dsimp only
  refine Kept.trans ?_ (kept_modHeld _ n _)
  split
  next hm =>
    have harm := commandValve_arm n n .closed s
    rw [if_pos rfl] at harm
    obtain ⟨hst, -, hcmd, -⟩ := commandPosition_state (s.arm n) .closed s.now (s.ahead 15000)
    exact (kept_close n s).trans
      (kept_modArm _ n _ (hstep _ (by rw [harm, hst]; rfl) (fun _ => by rw [harm, hcmd]) _ _) rfl)
  next hm => exact kept_modArm _ n _ (hstep _ rfl (fun h' => absurd h' hm) _ _) rfl

theorem kept_addCause (n : ArmId) (c : Cause) (s : State) : Kept fr s (addCause n c s) := by
  unfold addCause
  dsimp only
  split
  · exact (kept_modArm_quiet s n _).trans (kept_modHeld _ n _)
  · exact kept_modArm_quiet s n _

theorem kept_dropCause (n : ArmId) (c : Cause) (s : State) : Kept fr s (dropCause n c s) :=
  kept_modArm_quiet s n _

theorem kept_offerCause (n : ArmId) (c : Cause) (s : State) : Kept fr s (offerCause n c s) := by
  unfold offerCause
  split
  next h =>
    refine (kept_addCause n c s).trans (kept_haltArm n _ ?_)
    simpa [State.armState, addCause_arm] using h
  next =>
    split
    · exact kept_addCause n c s
    · exact Kept.refl s

theorem kept_offerMoving (c : Cause) (s : State) : Kept fr s (offerMoving c s) :=
  Kept.forArms (fun n t => Kept.ite (fun _ => kept_offerCause n c t) fun _ => Kept.refl t) s

theorem kept_offerActive (c : Cause) (s : State) : Kept fr s (offerActive c s) :=
  Kept.forArms (fun n t => Kept.ite (fun _ => kept_offerCause n c t) fun _ => Kept.refl t) s

/-! #### BAY PERMIT (R121) -/

theorem chain_decideBayPermit (s : State) : Chain fr s (decideBayPermit s) := Chain.of_eq rfl

/-- Whatever came before, BAY PERMIT is within its conditions once it is decided anew. -/
theorem Chain.decided {s t : State} (h : Chain fr s t) : Kept fr s (decideBayPermit t) :=
  ⟨h.trans (chain_decideBayPermit t), fun _ => decideBayPermit_ok t⟩

theorem chain_tripPermit (s : State) : Chain fr s (tripPermit s) := by
  unfold tripPermit
  split
  · exact (chain_decideBayPermit s).trans (kept_offerMoving _ _).chain
  · exact chain_decideBayPermit s

theorem tripPermit_ok (s : State) : (tripPermit s).bayPermitOk := by
  unfold tripPermit
  split
  · exact (kept_offerMoving (fr := fun _ => False) _ _).permit (decideBayPermit_ok s)
  · exact decideBayPermit_ok s

theorem Chain.tripped {s t : State} (h : Chain fr s t) : Kept fr s (tripPermit t) :=
  ⟨h.trans (chain_tripPermit t), fun _ => tripPermit_ok t⟩

end
end Sys2Proof.Machine
end

section
/-! ### The arm controllers and the engines as moves

Arming and disarming, start and resume, releases, staging and settle, the faults of an arm, dosing and metering. -/

namespace Sys2Proof.Machine

section
variable {fr : Bank → Prop} {s t : State}

/-! #### Capture and the held compartment (R152, R44) -/

theorem view_modComp (s : State) (k : Nat) (f : Comp → Comp) (g : CompView → CompView)
    (h : ∀ c, (f c).view = g c.view) :
    (s.modComp k f).view = { s.view with comps := s.view.comps.map fun c => if c.number = k then g c else c } := by
  have hmap : ((s.modComp k f).session.comps).map Comp.view =
      s.view.comps.map fun c => if c.number = k then g c else c := by
    simp only [State.modComp, State.modSession, State.view, List.map_map]
    refine List.map_congr_left fun c _ => ?_
    simp only [Function.comp_apply, apply_ite Comp.view, h]
    rfl
  simp only [State.view] at hmap ⊢
  rw [hmap]
  rfl

theorem view_captureBank (bank : Bank) (s : State) :
    (captureBank bank s).view = { s.view with banks := s.view.banks.counted bank } := by
  cases bank <;> rfl

theorem view_uncaptureBank (bank : Option Bank) (s : State) :
    (uncaptureBank bank s).view = { s.view with banks := s.view.banks.uncounted bank } := by
  rcases bank with _ | (_ | _) <;> rfl

theorem permitView_uncaptureBank (bank : Option Bank) (s : State) :
    (uncaptureBank bank s).permitView = s.permitView := by
  rcases bank with _ | (_ | _) <;> rfl

/-- The compartment that an arm holds, in the view. -/
theorem view_heldComp (s : State) (n : ArmId) : s.view.heldComp n = (s.heldComp n).map Comp.view := by
  have hheld : (s.view.arm n).held = (s.arm n).held := rfl
  unfold View.heldComp State.heldComp
  rw [hheld]
  cases (s.arm n).held with
  | none => rfl
  | some k =>
    simp only [Option.bind_some, State.view, List.find?_map]
    rfl

/-- Without a compartment of the number that an arm holds, none is changed. -/
theorem View.mapHeld_of_heldComp_none (v : View) (n : ArmId) (f : CompView → CompView) (h : v.heldComp n = none) :
    v.mapHeld n f = v.comps := by
  unfold View.mapHeld
  unfold View.heldComp at h
  split
  next => rfl
  next k hk =>
    rw [hk, Option.bind_some, List.find?_eq_none] at h
    calc v.comps.map (fun c => if c.number = k then f c else c) = v.comps.map id :=
          List.map_congr_left fun c hc => if_neg fun he => h c hc (beq_iff_eq.2 he)
      _ = v.comps := List.map_id _

theorem view_modHeld_quiet (s : State) (n : ArmId) (f : Comp → Comp)
    (h : ∀ c, (f c).view = c.view := by exact fun _ => rfl) :
    (s.modHeld n f).view = s.view := by
  rw [view_modHeld s n f (fun c => c) h, View.mapHeld_id]

theorem view_markIdle (s : State) : (markIdle s).view = s.view := by
  unfold markIdle
  split <;> rfl

theorem permitView_markIdle (s : State) : (markIdle s).permitView = s.permitView := by
  unfold markIdle
  split <;> rfl

/-! #### Arming and disarming (R12, R13, R49) -/

theorem kept_takeArm (n : ArmId) (c : Comp) (s : State) (ho : s.session.state = .opened) (hi : s.armState n = .idle)
    (hc : c ∈ s.session.comps) (hp : c.state = .pending) : Kept fr s (takeArm n c s) := by
  have hview : (takeArm n c s).view =
      { s.view with
        arm := Function.update s.view.arm n { s.view.arm n with state := .armed, held := some c.number }
        comps := s.view.comps.map fun x =>
          if x.number = c.number then { x with state := .armed, arm := some n, bank := some s.view.banks.active } else x
        banks := s.view.banks.counted s.view.banks.active } := by
    unfold takeArm
    dsimp only
    rw [view_modComp (g := fun x => x), view_captureBank,
      view_modComp (g := fun x => { x with state := .armed, arm := some n, bank := some s.banks.active }), view_modArm]
    · simp only [ite_self, List.map_id']
      rfl
    · exact fun _ => rfl
    · exact fun _ => rfl
  refine Kept.of_move hview (.take n c.number ho hi ⟨c.view, List.mem_map_of_mem hc, rfl, hp⟩) ?_
  refine permitView_eq (by simp) (by simp) (by simp) fun m => ?_
  have harms : (takeArm n c s).arms = (s.modArm n fun a => a.takeComp c.number (s.ahead 120000)).arms := by
    simp [takeArm, captureBank]
  rw [arm_of_arms harms, arm_modArm]
  split
  next h => rw [h]; rfl
  next => rfl

theorem view_returnToPending (n : ArmId) (s : State) :
    (returnToPending n s).view =
      { s.view with
        comps := s.view.mapHeld n fun c => { c with state := .pending, arm := none, bank := none }
        banks := s.view.banks.uncounted ((s.view.heldComp n).bind fun c => c.bank) } := by
  unfold returnToPending
  cases hc : s.heldComp n with
  | none =>
    have hnone : s.view.heldComp n = none := by rw [view_heldComp, hc]; rfl
    rw [View.mapHeld_of_heldComp_none _ _ _ hnone, hnone]
    rfl
  | some c =>
    have hsome : s.view.heldComp n = some c.view := by rw [view_heldComp, hc]; rfl
    rw [hsome, view_uncaptureBank,
      view_modHeld _ _ _ (fun c => { c with state := .pending, arm := none, bank := none }) fun _ => rfl]
    rfl

theorem arm_returnToPending (n m : ArmId) (s : State) : (returnToPending n s).arm m = s.arm m :=
  arm_of_arms (by unfold returnToPending; split; rfl; rw [uncaptureBank_arms]; simp) m

theorem kept_disarm (n : ArmId) (blk : Option BlockCause) (s : State) (ha : s.armState n = .armed) :
    Kept fr s (disarm n blk s) := by
  have hst : (if blk.isSome then ArmState.blocked else .idle) = .idle ∨
      (if blk.isSome then ArmState.blocked else .idle) = .blocked := by
    split
    · exact .inr rfl
    · exact .inl rfl
  refine Kept.of_move (w := _) ?_ (.giveBack n (if blk.isSome then .blocked else .idle) ha hst) ?_
  · unfold disarm
    rw [view_markIdle, view_modArm, view_returnToPending, arm_returnToPending]
    rfl
  · refine permitView_eq (by simp) (by simp) (by simp) fun m => ?_
    rw [disarm_arm]
    split
    next h => rw [h]
    next => rfl

theorem kept_disarmAll (s : State) : Kept fr s (disarmAll s) :=
  Kept.forArms (fun n t => Kept.ite (fun h => kept_disarm n none t h) fun _ => Kept.refl t) s

theorem kept_armedExpiry (n : ArmId) (s : State) (h : s.armState n = .armed) : Kept fr s (armedExpiry n s) :=
  (kept_disarm n none s h).trans (kept_display _ _)

/-! #### Start and resume (R50, R60) -/

theorem kept_startArm (n : ArmId) (s : State) (ha : s.armState n = .armed) : Kept fr s (startArm n s) := by
  have hqueue : Move fr s.view { s.view with queue := (startArm n s).cmdQueue } :=
    .queue _ fun h => cmdsOk_of_queue (by unfold startArm; rfl)
      (commandValve_cmdsOk n .low (s := (s.modHeld n fun c => c.started (s.arm n).totalizer).modArm n
        fun a => { a with gStart := 0 }) (cmdsOk_of_queue (by simp) h))
  have hmove := Move.start (frozen := fr) (v := { s.view with queue := (startArm n s).cmdQueue }) n .low ha
  obtain ⟨hst, hheld, hcmd, htrip⟩ := commandPosition_state
    ({ s.arm n with gStart := 0 } : Arm) .low s.now (s.ahead 15000)
  have harm : (((s.modHeld n fun c => c.started (s.arm n).totalizer).modArm n fun a => { a with gStart := 0 }).arm n) =
      { s.arm n with gStart := 0 } := by
    rw [arm_modArm, if_pos rfl, arm_modHeld]
  have hnow : ((s.modHeld n fun c => c.started (s.arm n).totalizer).modArm n fun a => { a with gStart := 0 }).now =
      s.now := now_of_clock (by simp)
  have hahead : ((s.modHeld n fun c => c.started (s.arm n).totalizer).modArm n fun a => { a with gStart := 0 }).ahead
      15000 = s.ahead 15000 := ahead_of_clock (by simp) _
  refine ⟨?_, bayPermitOk_of_permitView (permitView_eq (by simp) (by simp) (by simp) fun m => ?_)⟩
  · refine (Relation.ReflTransGen.single hqueue).trans (Chain.of_move (s := { s with cmdQueue := (startArm n s).cmdQueue })
      (t := startArm n s) ?_ hmove)
    conv_lhs => unfold startArm
    rw [view_modArm, view_commandValve, view_modArm, view_modHeld _ _ _ (fun c => { c with state := .active }) fun _ => rfl,
      commandValve_arm, if_pos rfl, harm, hnow, hahead]
    simp only [Function.update_idem, Arm.view, hheld, hcmd]
    rfl
  · unfold startArm
    rw [arm_modArm, commandValve_arm, commandValve_arm, if_pos rfl, harm, hnow, hahead]
    split
    next hm => rw [htrip, hm]
    next hm => rw [arm_modArm, if_neg hm, arm_modHeld]

/-- A held arm that is not ARMED goes to another such state. -/
theorem ArmView.Step.loading {a b : ArmView} (hheld : b.held = a.held) (ha : a.state.isLoading = true)
    (hb : b.state.isLoading = true) (hok : a.ok → b.ok) : a.Step b := by
  have hload : ∀ x : ArmState, x.isLoading = true → x.isHeld = true ∧ x ≠ .armed := by
    intro x
    cases x <;> decide
  obtain ⟨ha1, ha2⟩ := hload _ ha
  obtain ⟨hb1, hb2⟩ := hload _ hb
  exact ⟨hheld, hb1.trans ha1.symm, ⟨fun h => absurd h hb2, fun h => absurd h ha2⟩, hok⟩

/-- LOW is commanded of a HALTED arm, which is STARTING then (R60). -/
theorem kept_resume (n : ArmId) (s : State) (hh : s.armState n = .halted) :
    Kept fr s ((commandValve n .low s).modArm n fun a =>
      { a with state := .starting, haltEntry := none, haltDeadline := none }) := by
  obtain ⟨-, hheld, -, -⟩ := commandPosition_state (s.arm n) .low s.now (s.ahead 15000)
  have hst : (s.arm n).state = .halted := hh
  exact kept_commandValve_modArm n .low _ s (.loading hheld (by rw [Arm.view, hst]; rfl) rfl fun _ _ => rfl) fun _ => rfl

theorem kept_resumeArm (n : ArmId) (s : State) (hh : s.armState n = .halted) : Kept fr s (resumeArm n s) := by
  have hcauses : Kept fr s (s.modArm n fun a => { a with causes := a.causes.afterStart }) :=
    kept_modArm_quiet s n _
  unfold resumeArm
  dsimp only
  split
  · refine hcauses.trans ((kept_modArm_quiet _ n _).trans (kept_resume n _ ?_))
    simp only [State.armState, arm_modArm, if_true]
    exact hh
  · exact hcauses

/-! #### Ending and release (R18, R21, R56) -/

theorem View.not_compiling_of_held_none {v : View} (h : v.slotHeld = none) : ¬v.compiling := by
  rintro ⟨i, hi, -⟩
  exact absurd (h.symm.trans hi) (by simp)

theorem permitView_beginCompile (s : State) : (beginCompile s).permitView = s.permitView :=
  permitView_eq (by simp) (by simp) (by simp) fun m => congrArg Arm.trip (arm_of_arms (by simp) m)

theorem view_beginCompile (s : State) :
    (beginCompile s).view = { s.view with slots := (beginCompile s).view.slots, slotHeld := s.view.slotHeld } := by
  unfold beginCompile
  split <;> rfl

theorem slots_beginCompile (s : State) : (beginCompile s).view.slots.length = s.view.slots.length := by
  unfold beginCompile
  split <;> simp [State.view]

/-- Entry to ENDING from a state in which no arm holds a compartment (R21). -/
theorem kept_enterEnding (s : State) (h : ∀ n, (s.armState n).isHeld = true → s.view.heldComp n = none) :
    Kept fr s (enterEnding s) := by
  unfold enterEnding
  have hending : Kept fr s (s.modSession fun x =>
      { x with state := .ending, closeTime := some s.terminalTime, idleBase := none }) :=
    Kept.of_move rfl (.ending h) rfl
  refine hending.trans (Kept.of_move (view_beginCompile _) (.slots _ _ (slots_beginCompile _) fun _ => .inl rfl)
    (permitView_beginCompile _))

theorem noArmHeld_iff (s : State) : s.noArmHeld = true ↔ ∀ n, (s.armState n).isHeld = false := by
  unfold State.noArmHeld
  rw [List.all_eq_true]
  exact ⟨fun h n => by simpa using h n (by cases n <;> decide), fun h n _ => by simp [h n]⟩

theorem kept_enterEnding_of_noArmHeld (s : State) (h : s.noArmHeld = true) : Kept fr s (enterEnding s) :=
  kept_enterEnding s fun n hn => absurd hn (by simp [(noArmHeld_iff s).1 h n])

theorem kept_examine (s : State) : Kept fr s (examine s) := by
  unfold examine
  split
  · split
    next h => exact kept_enterEnding_of_noArmHeld s h.2
    next => exact Kept.ite (fun _ => kept_display _ s) fun _ => Kept.refl s
  · exact Kept.refl s

theorem view_endCheckSlot (n : ArmId) (k : Slot) (s : State) : (endCheckSlot n k s).view = s.view := by
  unfold endCheckSlot
  split
  · rfl
  · split
    · rfl
    · dsimp only
      split
      · exact view_modHeld_quiet s n _
      · exact view_modHeld_quiet s n _

theorem view_endCheck (n : ArmId) (s : State) : (endCheck n s).view = s.view :=
  (view_endCheckSlot n .s2 _).trans (view_endCheckSlot n .s1 s)

theorem permitView_release (n : ArmId) (blk : Option BlockCause) (s : State) :
    (release n blk s).permitView = s.permitView := by
  refine permitView_eq (by simp) (by simp) (by simp) fun m => ?_
  rw [release_arm]
  split
  next h => rw [h.1]; rfl
  next => rfl

/-- The compartment that a loading arm holds gets its end state, and the arm is released (R56). -/
theorem chain_release {s t : State} (n : ArmId) (blk : Option BlockCause) (fin : CompState)
    (ht : t.view = { s.view with comps := s.view.mapHeld n fun c => { c with state := fin } })
    (hl : (s.armState n).isLoading = true) (hv : (s.arm n).view.ok → (s.arm n).commanded = .closed)
    (hf : fin.isFinished = true) : Chain fr s (release n blk t) := by
  have hheld : t.view.heldComp n = (s.view.heldComp n).map fun c => { c with state := fin } := by
    rw [ht]
    unfold View.heldComp View.mapHeld
    dsimp only
    cases (s.view.arm n).held with
    | none => rfl
    | some k =>
      simp only [Option.bind_some, List.find?_map]
      have hnum : (fun c : CompView => c.number == k) ∘
          (fun c => if c.number = k then { c with state := fin } else c) = fun c => c.number == k := by
        funext c
        simp only [Function.comp_apply]
        split <;> rfl
      rw [hnum]
      cases hfind : s.view.comps.find? fun c => c.number == k with
      | none => rfl
      | some c =>
        have hc : c.number = k := beq_iff_eq.1 (List.find?_some (p := fun c : CompView => c.number == k) hfind)
        simp [hc]
  have hst : (if blk.isSome then ArmState.blocked else .idle) = .idle ∨
      (if blk.isSome then ArmState.blocked else .idle) = .blocked := by
    split
    · exact .inr rfl
    · exact .inl rfl
  unfold release
  cases hc : t.heldComp n with
  | none =>
    have hnone : s.view.heldComp n = none := by
      rw [view_heldComp, hc] at hheld
      exact Option.map_eq_none_iff.1 hheld.symm
    refine Chain.of_eq (ht.trans ?_)
    rw [View.mapHeld_of_heldComp_none _ _ _ hnone]
  | some c =>
    obtain ⟨d, hd, hdc⟩ : ∃ d, s.view.heldComp n = some d ∧ { d with state := fin } = c.view := by
      rw [view_heldComp, hc] at hheld
      exact Option.map_eq_some_iff.1 hheld.symm
    refine Chain.of_move (w := _) ?_ (.finish n (if blk.isSome then .blocked else .idle) fin (by rw [hd]; rfl) hl hv hst hf)
    have harm : (endCheck n (uncaptureBank c.bank (t.modHeld n fun c => c.closed (t.arm n).totalizer))).arm n = t.arm n :=
      arm_of_arms (by rw [endCheck_arms, uncaptureBank_arms]; simp) n
    have hta : (t.arm n).view = s.view.arm n := by
      have : t.view.arm n = s.view.arm n := by rw [ht]
      exact this
    have hbank : c.bank = d.bank := congrArg CompView.bank hdc.symm
    dsimp only
    have hclosed : (t.modHeld n fun c => c.closed (t.arm n).totalizer).view = t.view :=
      view_modHeld_quiet t n _
    rw [view_markIdle, view_modArm, harm, view_endCheck, view_uncaptureBank, hclosed, ht, hd, hbank]
    rw [← hta]
    rfl

theorem chain_releaseExamine {s t : State} (n : ArmId) (blk : Option BlockCause) (fin : CompState)
    (ht : t.view = { s.view with comps := s.view.mapHeld n fun c => { c with state := fin } })
    (hl : (s.armState n).isLoading = true) (hv : (s.arm n).view.ok → (s.arm n).commanded = .closed)
    (hf : fin.isFinished = true) : Chain fr s (releaseExamine n blk t) :=
  (chain_release n blk fin ht hl hv hf).trans (kept_examine _).chain

/-- A compartment gets its end state and its arm is released (R56). -/
theorem kept_release (n : ArmId) (blk : Option BlockCause) (f : Comp → Comp) (fin : CompState) (s : State)
    (hc : ∀ c, (f c).view = { c.view with state := fin }) (hf : fin.isFinished = true)
    (hl : (s.armState n).isLoading = true) (hv : (s.arm n).view.ok → (s.arm n).commanded = .closed) :
    Kept fr s (release n blk (s.modHeld n f)) :=
  ⟨chain_release n blk fin (view_modHeld s n f _ hc) hl hv hf, fun h => bayPermitOk_of_permitView
    ((permitView_release n blk _).trans (permitView_modHeld s n f)) h⟩

theorem kept_releaseExamine (n : ArmId) (blk : Option BlockCause) (f : Comp → Comp) (fin : CompState) (s : State)
    (hc : ∀ c, (f c).view = { c.view with state := fin }) (hf : fin.isFinished = true)
    (hl : (s.armState n).isLoading = true) (hv : (s.arm n).view.ok → (s.arm n).commanded = .closed) :
    Kept fr s (releaseExamine n blk (s.modHeld n f)) :=
  (kept_release n blk f fin s hc hf hl hv).trans (kept_examine _)

/-- An arm whose product does not move keeps its valve CLOSED (R47). -/
theorem commanded_closed_of_not_moving {a : Arm} (h : a.state.isMoving = false) (hok : a.view.ok) :
    a.commanded = .closed := by
  by_contra hne
  exact absurd (hok hne) (by simp [Arm.view, h])

/-! #### Completion, settle and staging (R52 to R54, R62) -/

theorem view_modArm_quiet (s : State) (n : ArmId) (f : Arm → Arm)
    (h : (f (s.arm n)).view = (s.arm n).view := by rfl) :
    (s.modArm n f).view = s.view := by
  rw [view_modArm, h]
  have : Function.update s.view.arm n (s.arm n).view = s.view.arm := Function.update_eq_self n s.view.arm
  rw [this]

theorem armState_modArm_quiet (s : State) (n m : ArmId) (f : Arm → Arm)
    (h : ∀ a, (f a).state = a.state := by exact fun _ => rfl) :
    (s.modArm n f).armState m = s.armState m := by
  unfold State.armState
  rw [arm_modArm]
  split
  next hm => rw [h, hm]
  next => rfl

theorem kept_completeComp (n : ArmId) (s : State) (h : s.armState n = .closing) : Kept fr s (completeComp n s) := by
  unfold completeComp
  split
  · exact Kept.refl s
  · have hst : (s.modArm n fun a => { a with anticipation := learned a.anticipation (Comp.error ‹Comp›) }).armState n =
        .closing := (armState_modArm_quiet s n n _).trans h
    refine (kept_modArm_quiet s n _).trans
      (kept_releaseExamine n none _ .done _ (fun _ => rfl) rfl (by rw [hst]; rfl) fun hok => ?_)
    exact commanded_closed_of_not_moving (by rw [State.armState] at hst; rw [hst]; rfl) hok

theorem kept_shortRelease (n : ArmId) (s : State) (h : s.armState n = .halted) :
    Kept fr s (release n none (shortHeld n s)) :=
  kept_release n none _ .short s (fun _ => rfl) rfl (by rw [h]; rfl)
    (commanded_closed_of_not_moving (by rw [State.armState] at h; rw [h]; rfl))

theorem kept_haltExpiry (n : ArmId) (s : State) (h : s.armState n = .halted) : Kept fr s (haltExpiry n s) :=
  (kept_shortRelease n s h).trans (kept_examine _)

theorem kept_settleTest (n : ArmId) (s : State) : Kept fr s (settleTest n s) := by
  unfold settleTest
  split
  · have hs : Kept fr s (s.modArm n fun a => { a with settled := true, settleDeadline := none }) :=
      kept_modArm_quiet s n _
    have hst := armState_modArm_quiet s n n (fun a => { a with settled := true, settleDeadline := none })
    dsimp only
    split
    case h_1 h => exact hs.trans (kept_completeComp n _ (hst.trans h))
    case h_2 h =>
      split
      · exact hs.trans (kept_haltExpiry n _ (hst.trans h))
      · exact hs
    all_goals exact hs
  · exact Kept.refl s

/-- An arm moves to another stage with the position that goes with it (R52). -/
theorem kept_moveStage (n : ArmId) (p : Position) (st : ArmState) (s : State) (hl : (s.armState n).isLoading = true)
    (hst : st.isLoading = true) (hp : p ≠ .closed → st.isMoving = true) : Kept fr s (moveStage n p st s) := by
  obtain ⟨-, hheld, hcmd, -⟩ := commandPosition_state (s.arm n) p s.now (s.ahead 15000)
  exact kept_commandValve_modArm n p _ s (.loading hheld hl hst fun _ hne => hp fun he => hne (hcmd.trans he)) fun _ => rfl

theorem isLoading_of_isMoving {x : ArmState} (h : x.isMoving = true) : x.isLoading = true := by
  cases x <;> simp_all [ArmState.isMoving, ArmState.isLoading]

theorem kept_stagingTest (n : ArmId) (s : State) : Kept fr s (stagingTest n s) := by
  unfold stagingTest
  split
  · exact Kept.refl s
  · refine Kept.ite (fun hm => ?_) fun _ => Kept.refl s
    have hl := isLoading_of_isMoving hm
    refine Kept.ite (fun _ => kept_moveStage n _ _ s hl rfl fun h => absurd rfl h) fun _ => ?_
    refine Kept.ite (fun _ => kept_moveStage n _ _ s hl rfl fun _ => rfl) fun _ => ?_
    exact Kept.ite (fun _ => kept_moveStage n _ _ s hl rfl fun _ => rfl) fun _ => Kept.refl s

/-! #### Faults (R55, R63 to R67) -/

theorem view_raiseTrip (n : ArmId) (s : State) : (raiseTrip n s).view = s.view :=
  view_modArm_quiet s n _

theorem kept_clearTrip {t : State} (n : ArmId) (h : Chain fr s t) : Kept fr s (clearTrip n t) :=
  (h.trans (Chain.of_eq (view_modArm_quiet t n _))).decided

/-- The compartment fails and its arm goes to BLOCKED (R55, R64, R65). -/
theorem kept_valveFault (n : ArmId) (s : State) (hl : (s.armState n).isLoading = true)
    (hv : (s.arm n).view.ok → (s.arm n).commanded = .closed) : Kept fr s (valveFault n s) := by
  refine (chain_releaseExamine n (some .valve) .short ?_ hl hv rfl).tripped
  rw [view_raiseTrip, view_modHeld _ _ _ (fun c => { c with state := .short }) fun _ => rfl]

theorem kept_settleFailure (n : ArmId) (s : State) (h : s.armState n = .closing ∨ s.armState n = .halted) :
    Kept fr s (settleFailure n s) := by
  have harm : ∀ m, (s.modHeld n fun c => { c with closing := some (s.arm n).totalizer }).arm m = s.arm m :=
    fun m => arm_modHeld s n m _
  have hst : (s.armState n).isLoading = true ∧ (s.armState n).isMoving = false := by
    rcases h with h | h <;> rw [h] <;> exact ⟨rfl, rfl⟩
  refine (kept_modHeld s n _).trans (kept_valveFault n _ ?_ ?_)
  · rw [State.armState, harm]; exact hst.1
  · rw [harm]; exact commanded_closed_of_not_moving hst.2

theorem kept_closeIfOpen (n : ArmId) (s : State) : Kept fr s (closeIfOpen n s) :=
  Kept.ite (fun _ => Kept.refl s) fun _ => kept_close n s

theorem closeIfOpen_arm (n : ArmId) (s : State) :
    (closeIfOpen n s).armState n = s.armState n ∧ ((closeIfOpen n s).arm n).commanded = .closed := by
  unfold closeIfOpen State.armState
  split
  next h => exact ⟨rfl, h⟩
  next =>
    obtain ⟨hst, -, hcmd, -⟩ := commandPosition_state (s.arm n) .closed s.now (s.ahead 15000)
    rw [commandValve_arm, if_pos rfl]
    exact ⟨hst, hcmd⟩

theorem kept_meterFault (n : ArmId) (s : State) : Kept fr s (meterFault n s) := by
  have hflag : Kept fr s (s.raiseFlag .meterFault) := kept_raiseFlag s _
  obtain ⟨hst, hcmd⟩ := closeIfOpen_arm n (s.raiseFlag .meterFault)
  unfold meterFault
  dsimp only
  split
  next h =>
    exact hflag.trans ((kept_closeIfOpen n _).trans
      (kept_releaseExamine n _ _ .short _ (fun _ => rfl) rfl (by rw [hst]; exact h) fun _ => hcmd))
  next =>
    refine Kept.ite (fun h => ?_) fun _ => hflag
    exact hflag.trans ((kept_disarm n _ (s.raiseFlag .meterFault) h).trans (kept_examine _))

theorem kept_valveNodeLost (n : ArmId) (s : State) : Kept fr s (valveNodeLost n s) := by
  have hlast : Kept fr s (s.modArm n fun a => { a with lastValve := none }) := kept_modArm_quiet s n _
  have hst := armState_modArm_quiet s n n (fun a => { a with lastValve := none })
  obtain ⟨hclose, hcmd⟩ := closeIfOpen_arm n (s.modArm n fun a => { a with lastValve := none })
  unfold valveNodeLost
  dsimp only
  split
  next h =>
    exact hlast.trans ((kept_closeIfOpen n _).trans
      (kept_valveFault n _ (by rw [hclose, hst]; exact h) fun _ => hcmd))
  next =>
    refine Kept.ite (fun h => ?_) fun _ => hlast
    have htrip : Chain fr s (raiseTrip n (s.modArm n fun a => { a with lastValve := none })) :=
      hlast.chain.trans (Chain.of_eq (view_raiseTrip n _))
    have harmed : (raiseTrip n (s.modArm n fun a => { a with lastValve := none })).armState n = .armed :=
      (armState_modArm_quiet _ n n (fun a => { a with trip := true })).trans (hst.trans h)
    exact ((htrip.trans (kept_disarm n _ _ harmed).chain).trans (kept_examine _).chain).tripped

theorem kept_driveFailed (n : ArmId) (p : Position) (s : State) : Kept fr s (driveFailed n p s) := by
  refine Kept.ite (fun h => ?_) fun _ => Kept.refl s
  obtain ⟨hst, -, hcmd, -⟩ := commandPosition_state (s.arm n) .closed s.now (s.ahead 15000)
  refine (kept_close n s).trans (kept_valveFault n _ ?_ fun _ => ?_)
  · rw [State.armState, commandValve_arm, if_pos rfl, hst]
    exact isLoading_of_isMoving h.2.2
  · rw [commandValve_arm, if_pos rfl, hcmd]

theorem kept_valveReport (n : ArmId) (tag : Tag) (r : ValveReport) (s : State) :
    Kept fr s (valveReport n tag r s) := by
  refine Kept.ite (fun _ => ?_) fun _ => Kept.refl s
  have htake : Kept fr s (s.modArm n fun a => a.takeReport r) := kept_modArm_quiet s n _
  exact (htake.trans (Kept.ite (fun _ => kept_clearTrip n (Chain.refl _)) fun _ => Kept.refl _)).trans
    (kept_settleTest n _)

/-! #### Dosing (R96 to R108) -/

theorem kept_modAdditive (n : ArmId) (k : Slot) (f : Additive → Additive) (s : State) :
    Kept fr s (s.modHeld n fun c => c.modAdditive k f) :=
  kept_modHeld s n _

theorem kept_recomputeOwed (n : ArmId) (k : Slot) (s : State) : Kept fr s (recomputeOwed n k s) := by
  unfold recomputeOwed
  split
  · exact Kept.refl s
  · split
    · exact Kept.refl s
    · exact kept_modHeld s n _

theorem kept_commandShot (n : ArmId) (k : Slot) (t : Tag) (size : Nat) (s : State) :
    Kept fr s (commandShot n k t size s) := by
  have hq : Kept fr s (s.setCmdQueue (s.cmdQueue ++ [.shot n k t (s.dose n k).nextShot size])) :=
    kept_setCmdQueue s _ fun h => by
      have := commandShot_cmdsOk n k t size h
      rwa [cmdsOk_iff, show (commandShot n k t size s).cmdQueue = _ from by simp [commandShot]; rfl] at this
  exact (hq.trans (kept_modDose _ n k _)).trans (kept_modAdditive n k _ _)

theorem kept_paceSlot (n : ArmId) (k : Slot) (s : State) : Kept fr s (paceSlot n k s) := by
  unfold paceSlot
  split
  · exact Kept.refl s
  · split
    · split
      · exact Kept.refl s
      · exact Kept.ite (fun _ => kept_commandShot n k _ _ s) fun _ => Kept.refl s
    · exact Kept.refl s

theorem kept_doseIncrement (n : ArmId) (s : State) : Kept fr s (doseIncrement n s) :=
  (kept_recomputeOwed n .s1 s).trans ((kept_recomputeOwed n .s2 _).trans
    ((kept_paceSlot n .s1 _).trans (kept_paceSlot n .s2 _)))

theorem kept_writeOffShot (n : ArmId) (k : Slot) (s : State) : Kept fr s (writeOffShot n k s) := by
  unfold writeOffShot
  split
  · exact Kept.refl s
  · exact (kept_modAdditive n k _ s).trans (kept_modDose _ n k _)

theorem kept_shotOutcome (n : ArmId) (k : Slot) (number : Nat) (refused : Bool) (s : State) :
    Kept fr s (shotOutcome n k number refused s) := by
  unfold shotOutcome
  split
  · exact Kept.refl s
  · exact Kept.ite (fun _ => kept_writeOffShot n k s) fun _ => Kept.refl s

theorem kept_runningCheck (n : ArmId) (k : Slot) (s : State) : Kept fr s (runningCheck n k s) := by
  unfold runningCheck
  refine Kept.ite (fun _ => ?_) fun _ => Kept.refl s
  split
  · exact Kept.refl s
  · split
    · refine Kept.ite (fun _ => ?_) fun _ => Kept.refl s
      exact ((kept_modHeld s n _).trans (kept_raiseFlag _ _)).trans (kept_offerCause n _ _)
    · exact Kept.refl s

theorem kept_completeShot (n : ArmId) (k : Slot) (last : Nat) (s : State) : Kept fr s (completeShot n k last s) := by
  unfold completeShot
  split
  · exact Kept.refl s
  · exact Kept.ite (fun _ => (kept_modDose s n k _).trans (kept_runningCheck n k _)) fun _ => Kept.refl s

theorem kept_injectorReport (n : ArmId) (k : Slot) (tag : Tag) (d last : Nat) (s : State) :
    Kept fr s (injectorReport n k tag d last s) := by
  refine Kept.ite (fun _ => ?_) fun _ => Kept.refl s
  split
  · exact kept_modDose s n k _
  · exact ((kept_modDose s n k _).trans (Kept.ite (fun _ => kept_modAdditive n k _ _) fun _ => Kept.refl _)).trans
      (kept_completeShot n k last _)

theorem kept_shotExpiry (n : ArmId) (k : Slot) (s : State) : Kept fr s (shotExpiry n k s) :=
  (((kept_modDose s n k _).trans (kept_count _ _)).trans (kept_raiseFlag _ _)).trans (kept_offerCause n _ _)

theorem kept_injectorLost (n : ArmId) (k : Slot) (s : State) : Kept fr s (injectorLost n k s) :=
  ((kept_writeOffShot n k s).trans (kept_modDose _ n k _)).trans
    (Kept.ite (fun _ => kept_offerCause n _ _) fun _ => Kept.refl _)

theorem kept_injectorRecovered (n : ArmId) (s : State) : Kept fr s (injectorRecovered n s) :=
  Kept.ite (fun _ => Kept.refl s) fun _ => kept_dropCause n _ s

/-! #### Metering (R71 to R90) -/

theorem kept_temperatureReport (n : ArmId) (tag : Tag) (x : Int) (valid : Bool) (s : State) :
    Kept fr s (temperatureReport n tag x valid s) :=
  Kept.ite
    (fun _ => Kept.ite (fun _ => (kept_modMeter s n _).trans (kept_dropCause n _ _)) fun _ => kept_modMeter s n _)
    fun _ => Kept.refl s

theorem kept_tempExpiry (n : ArmId) (s : State) : Kept fr s (tempExpiry n s) :=
  (kept_modMeter s n _).trans (kept_offerCause n _ _)

theorem kept_sampleOffers (n : ArmId) (sat : Bool) (s : State) : Kept fr s (sampleOffers n sat s) :=
  ((Kept.ite (fun _ => kept_offerCause n _ s) fun _ => Kept.refl s).trans
    (Kept.ite (fun _ => kept_offerCause n _ _) fun _ => Kept.refl _)).trans
    (Kept.ite (fun _ => kept_offerCause n _ _) fun _ => Kept.refl _)

theorem kept_settleStep (n : ArmId) (delta : Nat) (s : State) : Kept fr s (settleStep n delta s) := by
  refine (kept_modArm_quiet s n _ ?_ ?_).trans (kept_settleTest n _)
  all_goals unfold Arm.countZero; split <;> rfl

theorem kept_handOn (n : ArmId) (delta : Nat) (wasClosed : Bool) (s : State) :
    Kept fr s (handOn n delta wasClosed s) :=
  ((kept_stagingTest n s).trans (kept_doseIncrement n _)).trans
    (Kept.ite (fun _ => kept_settleStep n delta _) fun _ => Kept.refl _)

theorem kept_accumulateSample (n : ArmId) (g st : Nat × Nat) (x : Int) (held sat : Bool) (s : State) :
    Kept fr s (accumulateSample n g st x held sat s) :=
  (kept_modHeld s n fun c => (c.accumulate g st x).sampleFlags held sat).trans (kept_modArm_quiet _ n _)

theorem kept_creditSample (n : ArmId) (delta rate : Nat) (c : Comp) (s : State) :
    Kept fr s (creditSample n delta rate c s) := by
  unfold creditSample takeIncrements
  exact ((kept_accumulateSample n _ _ _ _ _ s).trans (kept_sampleOffers n _ _)).trans (kept_handOn n delta _ _)

theorem kept_takeUnassigned (n : ArmId) (g : Nat × Nat) (s : State) : Kept fr s (takeUnassigned n g s) := by
  unfold takeUnassigned
  exact (kept_modArm_quiet s n _).trans (Kept.ite (fun _ => kept_raiseFlag _ _) fun _ => Kept.refl _)

theorem kept_unassignedSample (n : ArmId) (delta : Nat) (s : State) : Kept fr s (unassignedSample n delta s) :=
  kept_takeUnassigned n _ s

theorem kept_implausibleSample (n : ArmId) (s : State) : Kept fr s (implausibleSample n s) :=
  (kept_count s _).trans
    (Kept.ite (fun _ => kept_modMeter _ n _) fun _ => (kept_modMeter _ n _).trans (kept_meterFault n _))

theorem kept_acceptedSample (n : ArmId) (count delta rate : Nat) (s : State) :
    Kept fr s (acceptedSample n count delta rate s) := by
  have hbase : Kept fr s (s.modMeter n fun m => { m with baseline := some (count, s.now), run := 0 }) :=
    kept_modMeter s n _
  unfold acceptedSample
  dsimp only
  split
  · split
    · exact hbase
    · exact hbase.trans (kept_creditSample n delta rate _ _)
  · exact hbase.trans (kept_unassignedSample n delta _)

theorem kept_meterReport (n : ArmId) (tag : Tag) (count : Nat) (ok : Bool) (s : State) :
    Kept fr s (meterReport n tag count ok s) := by
  refine Kept.ite (fun _ => ?_) fun _ => Kept.refl s
  refine Kept.ite (fun _ => kept_implausibleSample n s) fun _ => ?_
  split
  · exact kept_modMeter s n _
  · exact Kept.ite (fun _ => kept_implausibleSample n s) fun _ => kept_acceptedSample n _ _ _ s

theorem kept_meterNodeLost (n : ArmId) (s : State) : Kept fr s (meterNodeLost n s) :=
  (kept_modMeter s n _).trans (kept_meterFault n _)

end
end Sys2Proof.Machine
end

section
/-! ### The permissive unit and the session controller as moves -/

namespace Sys2Proof.Machine

section
variable {fr : Bank → Prop} {s t : State}

/-! #### Health and the deadman (R111 to R119) -/

theorem kept_returnOfHealth (s : State) : Kept fr s (returnOfHealth s) :=
  Kept.forArms (fun n t => kept_dropCause n _ t) s

theorem kept_decideHealth (s : State) : Kept fr s (decideHealth s) := by
  have hh : Kept fr s (s.modPermissive fun p => { p with healthy := s.healthHolds }) :=
    kept_modPermissive s _ rfl rfl rfl
  unfold decideHealth
  exact hh.trans (Kept.ite (fun _ => kept_offerActive _ _) fun _ =>
    Kept.ite (fun _ => kept_returnOfHealth _) fun _ => Kept.refl _)

theorem kept_renewDeadman (s : State) : Kept fr s (renewDeadman s) := kept_modPermissive s _ rfl rfl rfl

theorem kept_takeDeadman (count : Nat) (s : State) : Kept fr s (takeDeadman count s) := by
  have hbase : Kept fr s (s.modPermissive fun p => { p with deadmanBase := some count }) :=
    kept_modPermissive s _ rfl rfl rfl
  unfold takeDeadman
  dsimp only
  split
  · exact hbase
  · exact Kept.ite (fun _ => hbase) fun _ => hbase.trans (kept_renewDeadman _)

theorem kept_warnDeadman (s : State) : Kept fr s (warnDeadman s) := by
  have hwarn : Kept fr s (s.modPermissive fun p => { p with deadman := .warned, warnAt := none }) :=
    kept_modPermissive s _ rfl rfl rfl
  exact Kept.ite (fun _ => hwarn.trans (kept_display _ _)) fun _ => hwarn

theorem kept_expireDeadman (s : State) : Kept fr s (expireDeadman s) :=
  Kept.trans (kept_modPermissive s (fun p => { p with deadman := .expired, warnAt := none, expireAt := none }) rfl rfl rfl)
    (kept_offerMoving _ _)

theorem chain_modPermissive (s : State) (f : Permissive → Permissive) : Chain fr s (s.modPermissive f) :=
  Chain.of_eq rfl

theorem kept_permissiveReport (tag : Tag) (r : PermissiveReport) (count : Nat) (s : State) :
    Kept fr s (permissiveReport tag r count s) := by
  refine Kept.ite (fun _ => Kept.refl s) fun _ => Chain.decided ?_
  exact (((chain_modPermissive s _).trans (chain_modPermissive _ _)).trans (kept_takeDeadman count _).chain).trans
    (kept_decideHealth _).chain

theorem kept_reportExpiry (s : State) : Kept fr s (reportExpiry s) :=
  Kept.trans (kept_modPermissive s (fun p => { p with ageDeadline := none }) rfl rfl rfl) (kept_decideHealth _)

theorem chain_permissiveNodeLost (s : State) : Chain fr s (permissiveNodeLost s) :=
  (((chain_modPermissive s _).trans (kept_decideHealth _).chain).decided).chain

theorem kept_permissiveNodeRecovered {s t : State} (h : Chain fr s t) : Kept fr s (permissiveNodeRecovered t) :=
  (h.trans (kept_decideHealth t).chain).decided

/-! #### The session's own steps (R1, R9, R21, R128, R163) -/

theorem chain_setMode (s : State) (m : Mode) : Chain fr s (s.setMode m) := Chain.of_eq rfl

theorem kept_pendingNotLoaded (s : State) : Kept fr s (pendingNotLoaded s) := by
  refine Kept.of_move (w := _) ?_ .notLoaded rfl
  have hmap : (s.session.comps.map fun c => if c.state = .pending then { c with state := .notLoaded } else c).map Comp.view =
      s.view.comps.map fun c => if c.state = .pending then { c with state := .notLoaded } else c := by
    simp only [State.view, List.map_map]
    refine List.map_congr_left fun c _ => ?_
    simp only [Function.comp_apply, apply_ite Comp.view]
    rfl
  unfold pendingNotLoaded State.modSession
  simp only [State.view] at hmap ⊢
  rw [hmap]
  rfl

theorem kept_reserveSlot (s : State) : Kept fr s (reserveSlot s) := by
  unfold reserveSlot
  split
  · exact Kept.refl s
  · rename_i i _
    refine Kept.of_move (w := { s.view with
      slots := (s.notes.slots.modify i fun y => { y with state := .reserved }).map fun x => x.state
      slotHeld := some i }) rfl (.slots _ _ (by simp [State.view]) ?_) rfl
    rintro ⟨j, hj, hslot⟩
    obtain rfl : i = j := Option.some.inj hj
    rw [List.getElem?_map, List.getElem?_modify_eq] at hslot
    obtain ⟨x, hx, hstate⟩ := Option.map_eq_some_iff.1 hslot
    obtain ⟨y, -, rfl⟩ := Option.map_eq_some_iff.1 hx
    exact absurd hstate (by simp)

/-- Return to VACANT, of a session that is not OPEN, or whose note is being compiled (R1, R163). -/
theorem kept_returnVacant (s : State) (h : s.session.state ≠ .opened ∨ s.view.compiling) :
    Kept fr s (returnVacant s) := by
  have hv : Kept fr s ((s.modSession Session.vacated).modNotes fun x => { x with held := none }) :=
    Kept.of_move (w := { s.view with phase := .vacant, comps := [], slotHeld := none }) rfl (.vacate h) rfl
  unfold returnVacant
  split
  · exact (hv.chain.trans (chain_setMode _ .service)).decided
  · exact hv

theorem store_ok_dropOrder (card : Nat) (x : PermitStore) (h : x.ok) :
    ({ x with orders := x.orders.filter fun o => o.card != card } : PermitStore).ok := by
  obtain ⟨h1, h2, h3, h4, h5, h6⟩ := h
  exact ⟨h1, h2, h3, (List.length_filter_le _ _).trans h4, h5.sublist (List.filter_sublist.map _),
    fun o ho => h6 o (List.mem_of_mem_filter ho)⟩

theorem kept_dropOrder (card : Nat) (s : State) : Kept fr s (dropOrder card s) :=
  kept_modStore s _ (store_ok_dropOrder card s.store)

theorem nodup_of_numbersDiffer (es : List OrderEntry) (h : numbersDiffer es = true) :
    (es.map fun e => e.number).Nodup := by
  induction es with
  | nil => exact List.nodup_nil
  | cons e rest ih =>
    simp only [numbersDiffer, Bool.and_eq_true, List.all_eq_true, bne_iff_ne] at h
    refine List.nodup_cons.2 ⟨fun hmem => ?_, ih h.2⟩
    obtain ⟨x, hx, hn⟩ := List.mem_map.1 hmem
    exact h.1 x hx hn

/-- Entry to OPEN from VACANT or CODE ENTRY (R9). -/
theorem kept_enterOpen (s : State) (h : s.session.state = .vacant ∨ s.session.state = .codeEntry) :
    Kept fr s (enterOpen s) := by
  unfold enterOpen
  split
  · exact Kept.refl s
  · rename_i o ho
    refine Kept.trans ?_ (kept_reserveSlot _)
    have hfound : o ∈ s.store.orders := by
      obtain ⟨card, -, hcard⟩ := Option.bind_eq_some_iff.1 ho
      exact List.mem_of_find?_eq_some hcard
    have hopen : Kept fr s (s.modSession fun x =>
        { x with
          state := .opened, orderRef := some o.ref, vehicle := o.vehicle
          comps := o.entries.map compOfEntry, openTime := some s.terminalTime
          hostAbort := false, hostLostDuring := false, digits := []
          lastKey := some s.now, idleBase := some s.now, codeDeadline := none }) := by
      refine Kept.of_move (w := { s.view with phase := .opened, comps := (o.entries.map compOfEntry).map Comp.view }) rfl
        (.opened _ h (fun hok => ?_) fun c hc => ?_) rfl
      · have hentries := hok.2.2.2.2.2 o hfound
        simp only [entriesOk, Bool.and_eq_true] at hentries
        rw [List.map_map, List.map_map]
        exact nodup_of_numbersDiffer _ hentries.1.2
      · obtain ⟨d, hd, rfl⟩ := List.mem_map.1 hc
        obtain ⟨e, -, rfl⟩ := List.mem_map.1 hd
        rfl
    exact hopen.trans (kept_dropOrder o.card _)

theorem display_session (m : Nat) (s : State) : (display m s).session = s.session := by simp

theorem kept_admitCard (card : Nat) (p : Permit) (s : State) (h : s.session.state = .vacant) :
    Kept fr s (admitCard card p s) := by
  have hcard : Kept fr s (s.modSession fun x => { x with card := some card, carrier := some p.carrier }) :=
    kept_modSession s _ rfl rfl
  unfold admitCard
  dsimp only
  split
  · exact (hcard.trans (kept_enterOpen _ (.inl h))).trans (kept_display _ _)
  · refine hcard.trans (Kept.trans ?_ (kept_display _ _))
    exact Kept.of_move (w := { s.view with phase := .codeEntry }) rfl (.codeEntry h) rfl

theorem kept_cardEvent (card : Nat) (s : State) : Kept fr s (cardEvent card s) := by
  unfold cardEvent
  split
  case h_1 h =>
    split
    · exact kept_display _ s
    · exact kept_admitCard card _ s h
  all_goals exact Kept.ite (fun _ => Kept.refl s) fun _ => kept_display _ s

/-! #### The driver code (R7, R8, R39, R40) -/

/-- The code check writes attempts and status that R23 accepts. -/
theorem store_ok_writeAttempts (card attempts : Nat) (status : PermitStatus) (x : PermitStore)
    (ha : attempts ≤ 3) (hs : attempts = 3 → status = .locked) (h : x.ok) :
    ({ x with permits := writeAttempts card attempts status x.permits } : PermitStore).ok := by
  obtain ⟨h1, h2, h3, h4⟩ := h
  refine ⟨by simpa [writeAttempts] using h1, ?_, fun p hp => ?_, h4⟩
  · have hcards : ∀ p : Permit, (if p.card = card then { p with attempts := attempts, status := status } else p).card =
        p.card := by
      intro p
      split <;> rfl
    unfold writeAttempts
    rw [List.pairwise_map]
    exact h2.imp fun hlt => by simpa only [hcards] using hlt
  · obtain ⟨q, hq, rfl⟩ := List.mem_map.1 hp
    have hok := h3 q hq
    split
    · simp only [Permit.ok, Bool.and_eq_true, Bool.or_eq_true, decide_eq_true_eq, bne_iff_ne, beq_iff_eq] at hok ⊢
      obtain ⟨⟨⟨⟨hcode, hcarrier⟩, hload⟩, -⟩, -⟩ := hok
      exact ⟨⟨⟨⟨hcode, hcarrier⟩, hload⟩, ha⟩, or_iff_not_imp_left.2 fun h => hs (not_not.1 h)⟩
    · exact hok

theorem kept_writeAttempts (card attempts : Nat) (status : PermitStatus) (s : State) (ha : attempts ≤ 3)
    (hs : attempts = 3 → status = .locked) :
    Kept fr s (s.modStore fun x => { x with permits := writeAttempts card attempts status x.permits }) :=
  kept_modStore s _ (store_ok_writeAttempts card attempts status s.store ha hs)

theorem kept_chargeAttempt (p : Permit) (s : State) : Kept fr s (chargeAttempt p s).1 := by
  unfold chargeAttempt
  split
  next h => exact kept_writeAttempts _ _ _ s (by omega) (by omega)
  next => exact (kept_writeAttempts _ 3 .locked s le_rfl fun _ => rfl).trans (kept_raiseFlag _ _)

theorem kept_codeCheck (card : Nat) (code : Option (List Nat)) (s : State) : Kept fr s (codeCheck card code s).1 := by
  unfold codeCheck
  split
  · exact Kept.refl s
  · split
    · exact Kept.refl s
    · exact Kept.refl s
    · rw [apply_ite Prod.fst]
      exact Kept.ite (fun _ => kept_writeAttempts _ 0 .active s (Nat.zero_le 3) (by simp)) fun _ => kept_chargeAttempt _ s

theorem codeCheck_session (card : Nat) (code : Option (List Nat)) (s : State) :
    (codeCheck card code s).1.session = s.session := by
  unfold codeCheck chargeAttempt
  repeat' split
  all_goals rfl

theorem kept_takeOutcome (o : CodeOutcome) (s : State) (h : s.session.state = .codeEntry) :
    Kept fr s (takeOutcome o s) := by
  have hleave : ∀ m, Kept fr s (returnVacant (display m s)) := fun m =>
    (kept_display m s).trans (kept_returnVacant _ (.inl (by rw [display_session, h]; decide)))
  unfold takeOutcome
  split
  · split
    · exact hleave _
    · exact (kept_enterOpen s (.inr h)).trans (kept_display _ _)
  · exact kept_display _ s
  · exact hleave _
  · exact hleave _

theorem kept_submitCode (code : Option (List Nat)) (s : State) (h : s.session.state = .codeEntry) :
    Kept fr s (submitCode code s) := by
  unfold submitCode
  exact ((kept_modSession s (fun x => { x with digits := [], codeDeadline := some (s.ahead 30000) }) rfl rfl).trans
    (kept_codeCheck _ code _)).trans (kept_takeOutcome _ _ (by rw [codeCheck_session]; exact h))

theorem kept_appendDigit (d : Nat) (s : State) : Kept fr s (appendDigit d s) := kept_modSession s _ rfl rfl

theorem kept_emptyDigits (s : State) : Kept fr s (emptyDigits s) := kept_modSession s _ rfl rfl

theorem kept_codeKey (k : Key) (s : State) (h : s.session.state = .codeEntry) : Kept fr s (codeKey k s) := by
  cases k with
  | digit d => exact Kept.ite (fun _ => kept_appendDigit d s) fun _ => kept_submitCode none s h
  | enter => exact Kept.ite (fun _ => Kept.refl s) fun _ => kept_submitCode _ s h
  | start => exact Kept.refl s
  | stop => exact Kept.refl s
  | finish => exact Kept.refl s

/-! #### The keys in OPEN (R11 to R16) -/

theorem kept_selectComp (number : Nat) (s : State) (h : s.session.state = .opened) :
    Kept fr s (selectComp number s) := by
  unfold selectComp
  refine Kept.ite (fun _ => Kept.refl s) fun _ => ?_
  split
  · exact kept_display _ s
  · rename_i c hc
    have hpend : c.state = .pending := by
      have := List.find?_some hc
      simp only [Bool.and_eq_true, beq_iff_eq] at this
      exact this.2
    refine Kept.ite (fun _ => kept_display _ s) fun _ => ?_
    refine Kept.ite (fun _ => kept_display _ s) fun _ => ?_
    refine Kept.ite (fun _ => kept_display _ s) fun _ => ?_
    split
    · exact kept_display _ s
    · rename_i n hn
      have hidle : s.armState n = .idle := by
        have := List.find?_some hn
        simp only [State.armSuits, Bool.and_eq_true, beq_iff_eq] at this
        exact this.1.1.1.1
      exact (kept_takeArm n c s h hidle (List.mem_of_find?_eq_some hc) hpend).trans (kept_display _ _)

theorem kept_startOne (n : ArmId) (s : State) : Kept fr s (startOne n s) :=
  Kept.ite (fun h => kept_startArm n s h) fun _ => Kept.ite (fun h => kept_resumeArm n s h) fun _ => Kept.refl s

theorem kept_startKey (s : State) : Kept fr s (startKey s) := by
  unfold startKey
  refine Kept.ite (fun _ => Kept.refl s) fun _ => ?_
  refine (kept_emptyDigits s).trans ?_
  refine Kept.ite (fun _ => kept_display _ _) fun _ => ?_
  refine Kept.ite (fun _ => kept_display _ _) fun _ => ?_
  have hstart := (kept_renewDeadman (fr := fr) (emptyDigits s)).trans (Kept.forArms (f := startOne) kept_startOne _)
  exact Kept.ite (fun _ => hstart.trans (kept_display _ _)) fun _ => hstart

theorem kept_stopKey (s : State) : Kept fr s (stopKey s) :=
  (((kept_emptyDigits s).trans (kept_offerMoving _ _)).trans (kept_disarmAll _)).trans (kept_display _ _)

theorem kept_endHalted (n : ArmId) (s : State) : Kept fr s (endHalted n s) :=
  Kept.ite (fun h => kept_shortRelease n s h) fun _ => Kept.refl s

/-- An arm that is not held, or holds no compartment of the session. -/
def State.doneWith (s : State) (n : ArmId) : Prop := (s.armState n).isHeld = true → s.view.heldComp n = none

/-- An arm in no state that END or its own end leaves product moving in. -/
def ArmState.isCalm (x : ArmState) : Prop := x = .idle ∨ x = .halted ∨ x = .blocked

/-- Whether an arm holds a compartment rests on its number and on those of the compartments. -/
theorem heldComp_none_of_numbers {s t : State} {n : ArmId} (ha : (t.arm n).held = (s.arm n).held)
    (hc : t.session.comps.map (fun c => c.number) = s.session.comps.map fun c => c.number)
    (h : s.view.heldComp n = none) : t.view.heldComp n = none := by
  rw [view_heldComp, Option.map_eq_none_iff, State.heldComp, Option.bind_eq_none_iff] at h ⊢
  intro k hk
  have hnone := h k (ha ▸ hk)
  rw [List.find?_eq_none] at hnone ⊢
  intro c hcm
  have hmem : c.number ∈ s.session.comps.map fun c => c.number := hc ▸ List.mem_map_of_mem hcm
  obtain ⟨d, hd, hnum⟩ := List.mem_map.1 hmem
  have := hnone d hd
  rwa [hnum] at this

theorem endHalted_numbers (n : ArmId) (s : State) :
    (endHalted n s).session.comps.map (fun c => c.number) = s.session.comps.map fun c => c.number := by
  have hshort := modHeld_keeps (fun c : Comp => c.number) n (fun c => { c with state := .short }) (fun _ => rfl) s
  unfold endHalted
  split
  · cases hc : (shortHeld n s).heldComp n with
    | none =>
      simp only [release, hc]
      exact hshort
    | some c =>
      rw [release_comps (fun c : Comp => c.number) n none _ c hc fun _ _ => rfl]
      simp only [Comp.closed, ite_self]
      exact hshort
  · rfl

theorem endHalted_arm (n m : ArmId) (s : State) :
    (endHalted n s).arm m =
      if m = n ∧ s.armState n = .halted ∧ (s.view.heldComp n).isSome then (s.arm n).released none else s.arm m := by
  have hheld : ((shortHeld n s).heldComp n).isSome = (s.view.heldComp n).isSome := by
    have hview := view_modHeld s n (fun c => { c with state := .short }) (fun c => { c with state := .short }) fun _ => rfl
    cases hs : s.view.heldComp n with
    | none =>
      have hnone := heldComp_none_of_numbers (t := shortHeld n s) (congrArg Arm.held (arm_modHeld s n n _))
        (modHeld_keeps (fun c : Comp => c.number) n (fun c => { c with state := .short }) (fun _ => rfl) s) hs
      rw [view_heldComp, Option.map_eq_none_iff] at hnone
      rw [hnone]
      rfl
    | some d =>
      rw [Option.isSome_some]
      by_contra hne
      have hnone : (shortHeld n s).view.heldComp n = none := by
        rw [view_heldComp, Option.map_eq_none_iff]
        simpa using hne
      have hback := heldComp_none_of_numbers (s := shortHeld n s) (t := s)
        (congrArg Arm.held (arm_modHeld s n n _)).symm
        (modHeld_keeps (fun c : Comp => c.number) n (fun c => { c with state := .short }) (fun _ => rfl) s).symm hnone
      rw [hs] at hback
      exact absurd hback (by simp)
  unfold endHalted
  by_cases h : s.armState n = .halted
  · rw [if_pos h, release_arm, hheld]
    simp only [h, true_and, shortHeld, arm_modHeld]
  · simp only [h, if_false, false_and, and_false]

theorem endHalted_calm (n m : ArmId) (s : State) (h : (s.armState m).isCalm) : ((endHalted n s).armState m).isCalm := by
  unfold State.armState
  rw [endHalted_arm]
  split
  · exact .inl rfl
  · exact h

theorem endHalted_done_self (n : ArmId) (s : State) (h : (s.armState n).isCalm) : (endHalted n s).doneWith n := by
  intro hheld
  unfold State.armState at hheld
  rw [endHalted_arm] at hheld
  split at hheld
  next => exact absurd hheld Bool.false_ne_true
  next hn =>
    have hhalted : s.armState n = .halted := by
      rcases h with h | h | h
      · rw [State.armState] at h; rw [h] at hheld; exact absurd hheld (by decide)
      · exact h
      · rw [State.armState] at h; rw [h] at hheld; exact absurd hheld (by decide)
    have hnone : s.view.heldComp n = none := by
      by_contra hne
      exact hn ⟨rfl, hhalted, Option.isSome_iff_ne_none.2 hne⟩
    refine heldComp_none_of_numbers ?_ (endHalted_numbers n s) hnone
    rw [endHalted_arm, if_neg hn]

theorem endHalted_done (n m : ArmId) (s : State) (h : s.doneWith m) : (endHalted n s).doneWith m := by
  intro hheld
  unfold State.armState at hheld
  rw [endHalted_arm] at hheld
  split at hheld
  next => exact absurd hheld Bool.false_ne_true
  next hn =>
    refine heldComp_none_of_numbers ?_ (endHalted_numbers n s) (h hheld)
    rw [endHalted_arm, if_neg hn]

theorem forArms_endHalted_done (s : State) (h : ∀ n, (s.armState n).isCalm) (n : ArmId) :
    (forArms endHalted s).doneWith n := by
  unfold forArms
  have h1 := endHalted_calm .a1 n s (h n)
  have h2 := endHalted_calm .a2 n _ h1
  have h3 := endHalted_calm .a3 n _ h2
  cases n
  · exact endHalted_done _ _ _ (endHalted_done _ _ _ (endHalted_done _ _ _ (endHalted_done_self _ _ (h _))))
  · exact endHalted_done _ _ _ (endHalted_done _ _ _ (endHalted_done_self _ _ h1))
  · exact endHalted_done _ _ _ (endHalted_done_self _ _ h2)
  · exact endHalted_done_self _ _ h3

theorem disarmAll_calm (s : State) (h : s.bayActive = false) (m : ArmId) : ((disarmAll s).armState m).isCalm := by
  have harm := forArms_arm (fun n t => if t.armState n = .armed then disarm n none t else t)
    (fun a _ => if a.state = .armed then { a with state := .idle, held := none, armedDeadline := none } else a)
    (fun n t => by split <;> simp) (fun n m t => by
      by_cases ha : t.armState n = .armed
      · have ha' : (t.arm n).state = .armed := ha
        rw [if_pos ha, disarm_arm, if_pos ha']
        rfl
      · have ha' : ¬(t.arm n).state = .armed := ha
        rw [if_neg ha, if_neg ha']
        split
        next hm => rw [hm]
        next => rfl) m s
  have hact : (s.armState m).isActive = false := by
    have := List.any_eq_false.1 h m (by cases m <;> decide)
    simpa using this
  unfold State.armState disarmAll
  rw [harm]
  unfold State.armState at hact
  split
  · exact .inl rfl
  next hne =>
    revert hact hne
    cases (s.arm m).state <;> simp [ArmState.isActive, ArmState.isCalm]

theorem pendingNotLoaded_numbers (s : State) :
    (pendingNotLoaded s).session.comps.map (fun c => c.number) = s.session.comps.map fun c => c.number := by
  simp only [pendingNotLoaded, modSession_session, List.map_map]
  refine List.map_congr_left fun c _ => ?_
  simp only [Function.comp_apply]
  split <;> rfl

/-- END from arms that move no product and are not ARMED any more (R16). -/
theorem kept_endSession (s : State) (h : ∀ n, (s.armState n).isCalm) :
    Kept fr s (enterEnding (pendingNotLoaded (forArms endHalted s))) := by
  have hhalted : Kept fr s (forArms endHalted s) := Kept.forArms (f := endHalted) kept_endHalted s
  generalize hu : forArms endHalted s = u at hhalted
  have hdone : ∀ n, u.doneWith n := hu ▸ forArms_endHalted_done s h
  exact (hhalted.trans (kept_pendingNotLoaded u)).trans (kept_enterEnding _ fun n hn =>
    heldComp_none_of_numbers (s := u) rfl (pendingNotLoaded_numbers u) (hdone n hn))

theorem kept_endKey (s : State) : Kept fr s (endKey s) := by
  unfold endKey
  refine (kept_emptyDigits s).trans ?_
  refine Kept.ite (fun _ => Kept.refl _) fun _ => ?_
  refine Kept.ite (fun _ => kept_display _ _) fun hact => ?_
  have hbay : (emptyDigits s).bayActive = false := Bool.eq_false_iff.2 hact
  exact (kept_disarmAll _).trans (kept_endSession _ (disarmAll_calm _ hbay))

theorem kept_openKey (k : Key) (s : State) (h : s.session.state = .opened) : Kept fr s (openKey k s) := by
  cases k with
  | digit d =>
    exact Kept.ite (fun _ => kept_appendDigit d s) fun _ => (kept_emptyDigits s).trans (kept_display _ _)
  | enter => exact Kept.ite (fun _ => Kept.refl s) fun _ => (kept_emptyDigits s).trans (kept_selectComp _ _ h)
  | start => exact kept_startKey s
  | stop => exact kept_stopKey s
  | finish => exact kept_endKey s

theorem kept_markKey (s : State) : Kept fr s (markKey s) := kept_modSession s _ rfl rfl

theorem kept_keyEvent (k : Key) (s : State) : Kept fr s (keyEvent k s) := by
  unfold keyEvent
  split
  case h_2 h => exact (kept_markKey s).trans (kept_codeKey k _ h)
  case h_3 h => exact (kept_markKey s).trans (kept_openKey k _ h)
  all_goals exact Kept.refl s

theorem kept_overrunEvent (s : State) : Kept fr s (overrunEvent s) :=
  (Kept.ite (fun _ => kept_markKey s) fun _ => Kept.refl s).trans (kept_emptyDigits _)

theorem kept_readerSeen (tag : Tag) (s : State) : Kept fr s (readerSeen tag s) := kept_modSession s _ rfl rfl

/-! #### SESSION ABORT, the limits and the compile (R10, R17, R20, R130, R131) -/

theorem kept_abortHalted (n : ArmId) (s : State) : Kept fr s (abortHalted n s) :=
  Kept.ite (fun h => kept_shortRelease n s h.1) fun _ => Kept.refl s

/-- The session ends if no arm is left held (R20, R21). -/
theorem Kept.endedIfUnheld {s u : State} (h : Kept fr s u) : Kept fr s (if u.noArmHeld then enterEnding u else u) :=
  Kept.ite (fun hn => h.trans (kept_enterEnding_of_noArmHeld u hn)) fun _ => h

theorem kept_abortOpen (s : State) : Kept fr s (abortOpen s) := by
  have habort : Kept fr s (s.modSession fun x => { x with hostAbort := true }) := kept_modSession s _ rfl rfl
  unfold abortOpen
  exact ((((habort.trans (kept_disarmAll _)).trans (kept_pendingNotLoaded _)).trans
    (Kept.forArms (f := fun n t => offerCause n .hostStop t) (fun n t => kept_offerCause n _ t) _)).trans
    (Kept.forArms (f := abortHalted) kept_abortHalted _)).endedIfUnheld

theorem kept_sessionAbort (s : State) : Kept fr s (sessionAbort s).1 := by
  unfold sessionAbort
  split
  · exact Kept.refl s
  · exact Kept.refl s
  case h_3 h => exact kept_returnVacant s (.inl (by rw [h]; decide))
  · split
    · exact Kept.refl s
    · dsimp only
      exact kept_abortOpen s

theorem kept_idleExpiry (s : State) (h : s.noArmHeld = true) : Kept fr s (idleExpiry s) :=
  (kept_pendingNotLoaded s).trans (kept_enterEnding_of_noArmHeld _ h)

theorem kept_readerNodeLost (tag : Tag) (s : State) : Kept fr s (readerNodeLost tag s) :=
  Kept.ite (fun h => kept_returnVacant s (.inl (by rw [h.1]; decide))) fun _ => Kept.refl s

/-- Slots that changed, none of them the one held. -/
theorem kept_slots_unheld (s : State) (f : NoteStore → NoteStore) (hl : (f s.notes).slots.length = s.notes.slots.length)
    (hh : (f s.notes).held = s.notes.held) (hn : s.notes.held = none) : Kept fr s (s.modNotes f) := by
  refine Kept.of_move (w := { s.view with slots := (f s.notes).slots.map fun x => x.state, slotHeld := (f s.notes).held })
    rfl (.slots _ _ (by simp [State.view, hl]) fun hc => ?_) rfl
  exact absurd hc (View.not_compiling_of_held_none (hh.trans hn))

theorem view_compiling (s : State) (i : Nat) (x : NoteSlot) (h : s.compiling = some (i, x)) :
    s.view.compiling ∧ s.notes.held = some i ∧ s.notes.slots[i]? = some x ∧ x.state = .updating := by
  unfold State.compiling at h
  split at h
  · exact absurd h (by simp)
  rename_i j hj
  split at h
  · exact absurd h (by simp)
  rename_i y hy
  split at h
  · rename_i hu
    obtain ⟨rfl, rfl⟩ := Prod.mk.inj (Option.some.inj h)
    refine ⟨⟨j, hj, ?_⟩, hj, hy, hu⟩
    simp [State.view, hy, hu]
  · exact absurd h (by simp)

theorem writePage_state (s : State) (x : NoteSlot) : (writePage s x).state = x.state := by
  unfold writePage
  repeat' split
  all_goals rfl

/-- The compile ends: in the view the session returns to VACANT, and then its slot is filled (R131). -/
theorem kept_completeCompile (i : Nat) (s : State) (h : s.view.compiling) : Kept fr s (completeCompile i s) := by
  have hvacate : Move fr s.view { s.view with phase := .vacant, comps := [], slotHeld := none } := .vacate (.inr h)
  have hslots : Move fr { s.view with phase := .vacant, comps := [], slotHeld := none }
      { s.view with
        phase := .vacant, comps := [], slotHeld := none
        slots := (s.notes.slots.modify i fillSlot).map fun x => x.state } :=
    .slots (v := { s.view with phase := .vacant, comps := [], slotHeld := none }) _ none (by simp [State.view])
      fun hc => absurd hc (View.not_compiling_of_held_none rfl)
  let filled := (s.modNotes fun x => { x with slots := x.slots.modify i fillSlot }).raiseFlag .noteReady
  have hfilled : Kept fr s ((filled.modSession Session.vacated).modNotes fun x => { x with held := none }) :=
    ⟨(Relation.ReflTransGen.single hvacate).tail hslots, bayPermitOk_of_permitView rfl⟩
  have hqueue : Kept fr s (((display msgLoadComplete filled).modSession Session.vacated).modNotes
      fun x => { x with held := none }) := by
    refine hfilled.trans (Kept.queue ?_ (fun hq => ?_) ?_)
    · simp [State.view, State.arm, Session.vacated]
    · exact cmdsOk_of_queue (s := display msgLoadComplete filled) rfl (display_cmdsOk _ hq)
    · exact permitView_eq (by simp) (by simp) (by simp) fun m => congrArg Arm.trip (arm_of_arms (by simp) m)
  unfold completeCompile returnVacant
  split
  · exact (hqueue.chain.trans (chain_setMode _ .service)).decided
  · exact hqueue

theorem kept_writeNextPage (s : State) : Kept fr s (writeNextPage s) := by
  unfold writeNextPage
  split
  · exact Kept.refl s
  · rename_i i x hx
    obtain ⟨hc, hheld, hslot, hupd⟩ := view_compiling s i x hx
    have hstates : (s.notes.slots.set i (writePage s x)).map (fun y => y.state) = s.notes.slots.map fun y => y.state := by
      rw [List.map_set, writePage_state]
      refine List.ext_getElem? fun j => ?_
      by_cases hj : i = j
      · subst hj
        rw [List.getElem?_set_self (by simpa using (List.getElem?_eq_some_iff.1 hslot).1)]
        simp [hslot]
      · rw [List.getElem?_set_ne hj]
    have hpage : Kept fr s (s.modNotes fun z => { z with slots := z.slots.set i (writePage s x), pageTimer := 0 }) :=
      kept_modNotes s _ hstates rfl
    refine Kept.ite (fun _ => hpage.trans (kept_completeCompile i _ ?_)) fun _ => hpage
    have hview : (s.modNotes fun z => { z with slots := z.slots.set i (writePage s x), pageTimer := 0 }).view = s.view := by
      simp only [State.view, modNotes_notes, hstates]
      rfl
    rwa [hview]

end
end Sys2Proof.Machine
end

section
/-! ### Nodes, objects and the two lines as moves -/

namespace Sys2Proof.Machine

section
variable {fr : Bank → Prop} {s t : State}

/-! #### Reader events and delivery (R176, R180, R181) -/

theorem Kept.foldl {α : Type} {f : State → α → State} (h : ∀ t x, Kept fr t (f t x)) (l : List α) (s : State) :
    Kept fr s (l.foldl f s) := by
  induction l generalizing s with
  | nil => exact Kept.refl s
  | cons x l ih => exact (h s x).trans (ih _)

theorem kept_deliverKey (tag : Tag) (s : State) (code : Nat) : Kept fr s (deliverKey tag s code) := by
  unfold deliverKey
  split
  · exact Kept.refl s
  · exact (kept_readerSeen tag s).trans (kept_keyEvent _ _)

theorem kept_deliverEvents (tag : Tag) (r : ReaderReport) (cardSeq keySeq : Nat) (s : State) :
    Kept fr s (deliverEvents tag r cardSeq keySeq s) := by
  have hcard : Kept fr s (deliverCard tag (seqDelta r.cardSeq cardSeq) r.card s) :=
    Kept.ite (fun _ => (kept_readerSeen tag s).trans (kept_cardEvent _ _)) fun _ => Kept.refl s
  have hover : ∀ u, Kept fr u (deliverOverrun tag (seqDelta r.keySeq keySeq) u) := fun u =>
    Kept.ite (fun _ => (kept_readerSeen tag u).trans (kept_overrunEvent _)) fun _ => Kept.refl u
  exact (hcard.trans (hover _)).trans (Kept.foldl (kept_deliverKey tag) _ _)

theorem kept_readerReport (tag : Tag) (r : ReaderReport) (s : State) : Kept fr s (readerReport tag r s) := by
  unfold readerReport
  refine Kept.ite (fun _ => Kept.refl s) fun _ => Kept.trans ?_ (kept_setReader _ _)
  split
  · exact Kept.refl s
  · exact kept_deliverEvents tag r _ _ s

theorem kept_deliverToArm (n : ArmId) (k : Option Slot) (action : Action) (tag : Tag) (payload : List Byte)
    (s : State) : Kept fr s (deliverToArm n k action tag payload s) := by
  unfold deliverToArm
  split
  case h_1 =>
    split
    · exact Kept.refl s
    · exact kept_meterReport n tag _ _ s
  case h_2 =>
    split
    · exact Kept.refl s
    · exact kept_temperatureReport n tag _ _ s
  case h_3 =>
    split
    · exact Kept.refl s
    · exact kept_valveReport n tag _ s
  case h_4 =>
    split
    · exact kept_injectorReport n _ tag _ _ s
    · exact Kept.refl s
  all_goals exact Kept.refl s

theorem kept_deliver (c : FrameClass) (f : Frame) (s : State) : Kept fr s (deliver c f s) := by
  refine Kept.ite (fun _ => Kept.refl s) fun _ => ?_
  refine Kept.ite (fun _ => ?permissive) fun _ => Kept.ite (fun _ => ?reader) fun _ => ?arm
  case permissive =>
    unfold deliverPermissive
    split
    · exact Kept.refl s
    · exact kept_permissiveReport _ _ _ s
  case reader =>
    unfold deliverReader
    split
    · exact Kept.refl s
    · exact kept_readerReport _ _ s
  case arm =>
    unfold deliverArmReport
    split
    · exact Kept.refl s
    · exact kept_deliverToArm _ _ _ _ _ s

/-! #### Changes of node state (R177, R178) -/

theorem kept_tellArms (uses : ArmConfig → Bool) {f : ArmId → State → State} (h : ∀ n t, Kept fr t (f n t)) (s : State) :
    Kept fr s (tellArms uses f s) :=
  Kept.forArms (fun n t => Kept.ite (fun _ => h n t) fun _ => Kept.refl t) s

theorem kept_modScansOf (tag : Tag) (f : ScanEntry → ScanEntry) (s : State) : Kept fr s (modScansOf tag f s) :=
  kept_modScans s _ (by simp)

theorem kept_loseExtraction (tag : Tag) (s : State) : Kept fr s (loseExtraction tag s) :=
  Kept.ite (fun _ => kept_setReader s _) fun _ => Kept.refl s

theorem tripPermit_tag (s : State) : (tripPermit s).permissive.tag = s.permissive.tag := by
  unfold tripPermit
  split
  · rw [(offerMoving_leaves _ _).2.2.2.2.2.2.2.2.1]
    rfl
  · rfl

theorem valveNodeLost_tag (n : ArmId) (s : State) : (valveNodeLost n s).permissive.tag = s.permissive.tag := by
  unfold valveNodeLost valveFault
  dsimp only
  repeat' split
  all_goals simp [tripPermit_tag]

theorem tellArms_tag (uses : ArmConfig → Bool) (f : ArmId → State → State)
    (h : ∀ n t, (f n t).permissive.tag = t.permissive.tag) (s : State) :
    (tellArms uses f s).permissive.tag = s.permissive.tag :=
  forArms_keeps (fun t => t.permissive.tag) _
    (fun n t => by
      split
      · exact h n t
      · rfl) s

/-- A node's loss is told to its owners: the permissive unit, if the node is its own, decides BAY PERMIT anew, and else
BAY PERMIT does not rest on the node (R178, R116). -/
theorem kept_tellLoss (tag : Tag) (h : Chain fr s t)
    (hp : t.permissive.tag ≠ some tag → s.bayPermitOk → t.bayPermitOk) : Kept fr s (tellLoss tag t) := by
  have harms : Kept fr t
      (tellArms (fun c => c.injector.s2 == some tag) (fun n => injectorLost n .s2)
        (tellArms (fun c => c.injector.s1 == some tag) (fun n => injectorLost n .s1)
          (tellArms (fun c => c.valve == some tag) valveNodeLost
            (tellArms (fun c => c.meter == some tag) meterNodeLost t)))) :=
    (((kept_tellArms _ kept_meterNodeLost t).trans (kept_tellArms _ kept_valveNodeLost _)).trans
      (kept_tellArms _ (fun n => kept_injectorLost n .s1) _)).trans (kept_tellArms _ (fun n => kept_injectorLost n .s2) _)
  have htag : (tellArms (fun c => c.injector.s2 == some tag) (fun n => injectorLost n .s2)
        (tellArms (fun c => c.injector.s1 == some tag) (fun n => injectorLost n .s1)
          (tellArms (fun c => c.valve == some tag) valveNodeLost
            (tellArms (fun c => c.meter == some tag) meterNodeLost t)))).permissive.tag = t.permissive.tag := by
    rw [tellArms_tag _ _ (fun n u => by simp), tellArms_tag _ _ (fun n u => by simp), tellArms_tag _ _ valveNodeLost_tag,
      tellArms_tag _ _ (fun n u => by simp)]
  unfold tellLoss
  dsimp only
  generalize tellArms (fun c => c.injector.s2 == some tag) _ _ = u at harms htag
  refine Kept.trans ?_ (kept_readerNodeLost tag _)
  unfold tellPermissive
  split
  · exact ((h.trans harms.chain).trans ((chain_modPermissive u _).trans (kept_decideHealth _).chain)).decided
  next hne => exact ⟨h.trans harms.chain, fun hs => harms.permit (hp (htag ▸ hne) hs)⟩

theorem kept_becomeLost (tag : Tag) (h : Chain fr s t)
    (hp : t.permissive.tag ≠ some tag → s.bayPermitOk → t.bayPermitOk) : Kept fr s (becomeLost tag t) := by
  have hpre : ∀ u, Kept fr u (u.setCmdQueue (u.cmdQueue.filter fun c => c.tag != tag)) := fun u =>
    kept_setCmdQueue u _ fun hq => Cmd.queueOk_sublist List.filter_sublist hq
  have hnode : ∀ u, Kept fr u (u.modNode tag fun x =>
      { x with slowDue := some (u.ahead 5000), slowMark := false, refreshMark := false }) :=
    fun u => kept_modNode u tag _ fun _ => rfl
  have hkept := ((((kept_raiseFlag (fr := fr) t .nodeLost).trans (hpre _)).trans
    (kept_modScansOf tag (fun e => { e with dueMark := false }) _)).trans (hnode _)).trans (kept_loseExtraction tag _)
  refine kept_tellLoss tag (h.trans hkept.chain) fun hne hs => hkept.permit (hp ?_ hs)
  intro he
  refine hne (Eq.trans ?_ he)
  unfold loseExtraction
  split <;> rfl

theorem kept_recover (tag : Tag) (s : State) : Kept fr s (recover tag s) := by
  have hnode : Kept fr s (s.modNode tag fun x => { x with slowDue := none, slowMark := false }) :=
    kept_modNode s tag _ fun _ => rfl
  unfold recover
  exact ((hnode.trans (kept_modScansOf tag _ _)).trans (kept_tellArms _ kept_injectorRecovered _)).trans
    (Kept.ite (fun _ => kept_permissiveNodeRecovered (Chain.refl _)) fun _ => Kept.refl _)

theorem nextNodeState_lost (st : NodeState) (k : Nat) (h : nextNodeState st k = .lost) : st = .lost ∨ 100 ≤ k := by
  unfold nextNodeState at h
  split at h
  · exact absurd h (by decide)
  · split at h
    · exact .inr ‹_›
    · split at h
      · exact .inl ‹_›
      · exact absurd h (by decide)

theorem kept_rescore (tag : Tag) (f : Nat → Nat) (s : State) : Kept fr s (rescore tag f s) := by
  unfold rescore
  dsimp only
  generalize hst : nextNodeState (s.node tag).state (f (s.node tag).score) = st
  have hchain : Chain fr s (s.modNode tag fun x => { x with score := f (s.node tag).score, state := st }) :=
    chain_modNode s tag _
  have hpermit : (s.permissive.tag ≠ some tag ∨ ¬((s.node tag).state ≠ .lost ∧ st = .lost)) → s.bayPermitOk →
      (s.modNode tag fun x => { x with score := f (s.node tag).score, state := st }).bayPermitOk := by
    intro hor
    refine bayPermitOk_of_view rfl rfl rfl rfl (fun x hx hup => ?_) fun _ => rfl
    rcases node_modNode s tag x fun y => { y with score := f (s.node tag).score, state := st } with he | ⟨rfl, he⟩
    · simpa only [State.nodeLost, he] using hup
    · have hlost : (s.node x).state ≠ .lost := by simpa [State.nodeLost] using hup
      have hst' : st ≠ .lost := fun h => hor.elim (fun h' => h' hx) fun h' => h' ⟨hlost, h⟩
      simpa [State.nodeLost, he] using hst'
  split
  · split
    next h => exact kept_becomeLost tag hchain fun hne => hpermit (.inl hne)
    next h =>
      have hkept : Kept fr s (s.modNode tag fun x => { x with score := f (s.node tag).score, state := st }) :=
        ⟨hchain, hpermit (.inr h)⟩
      exact Kept.ite (fun _ => hkept.trans (kept_recover tag _)) fun _ => hkept
  · exact Kept.refl s

theorem kept_scoreFailed (tag : Tag) (s : State) : Kept fr s (scoreFailed tag s) := kept_rescore tag _ s

theorem kept_takeResponse (f : Frame) (s : State) : Kept fr s (takeResponse f s) :=
  (kept_rescore f.tag _ s).trans (kept_deliver _ f _)

/-! #### The arbiter and the end of an exchange (R168, R170, R173, R192) -/

theorem kept_beginExchange (src : Source) (f : Frame) (s : State) : Kept fr s (beginExchange src f s) :=
  kept_modField s _

theorem kept_markDrive (x : Tag) (s : State) : Kept fr s (markDrive x s) := kept_modNode s x _ fun _ => rfl

theorem kept_sendCommand (c : Cmd) (rest : List Cmd) (s : State) (h : s.cmdQueue = c :: rest) :
    Kept fr s (sendCommand c rest s) := by
  have hq : Kept fr s (s.setCmdQueue rest) :=
    kept_setCmdQueue s rest fun hok => Cmd.queueOk_sublist (List.sublist_cons_self c rest)
      (by rw [cmdsOk_iff, h] at hok; exact hok)
  unfold sendCommand
  refine (hq.trans ?_).trans (kept_beginExchange _ _ _)
  cases c
  · exact kept_markDrive _ _
  · exact Kept.refl _
  · exact Kept.refl _

theorem kept_sendScan (i : Nat) (s : State) : Kept fr s (sendScan i s) := by
  unfold sendScan
  exact ((Kept.ite (fun _ => kept_count s _) fun _ => Kept.refl s).trans (kept_modScans _ _ (by simp))).trans
    (kept_beginExchange _ _ _)

theorem kept_sendPoll (x : Tag) (e : ScanEntry) (s : State) : Kept fr s (sendPoll x e s) :=
  Kept.trans (kept_modNode s x (fun y => { y with slowDue := some (s.ahead 5000), slowMark := false }) fun _ => rfl)
    (kept_beginExchange _ _ _)

/-- The head of the relay queue, and that of the command queue, are what the arbiter takes (R168). -/
theorem choose_heads (s : State) :
    (∀ c rest, s.choose = some (.command c rest) → s.cmdQueue = c :: rest) ∧
      ∀ r rest, s.choose = some (.relay r rest) → s.relayQueue = r :: rest := by
  unfold State.choose
  split
  next c rest hq =>
    refine ⟨fun d rest' h => ?_, fun r rest' h => by simp at h⟩
    simp only [Option.some.injEq, Choice.command.injEq] at h
    rw [hq, h.1, h.2]
  next hq =>
    unfold State.chooseRefresh State.chooseFast State.chooseRelay State.chooseNormal State.choosePoll
    repeat' split
    all_goals refine ⟨fun c rest h => ?_, fun r rest h => ?_⟩
    all_goals simp_all

theorem kept_setRelayRest (r : Relayed) (rest : List Relayed) (s : State) (h : s.relayQueue = r :: rest) :
    Kept fr s (s.setRelayQueue rest) :=
  kept_setRelayQueue s rest (.inl (by simp [h]))

theorem kept_arbitrate (fuel : Nat) (s : State) : Kept fr s (arbitrate fuel s) := by
  induction fuel generalizing s with
  | zero => exact Kept.refl s
  | succ fuel ih =>
    obtain ⟨hcmd, hrelay⟩ := choose_heads s
    unfold arbitrate
    split
    · exact Kept.refl s
    case h_2 c rest h => exact kept_sendCommand c rest s (hcmd c rest h)
    · exact (kept_markDrive _ s).trans (kept_beginExchange _ _ _)
    · exact kept_sendScan _ s
    · exact kept_sendPoll _ _ s
    case h_6 r rest h =>
      have hrest : Kept fr s (s.setRelayQueue rest) := kept_setRelayRest r rest s (hrelay r rest h)
      split
      · exact hrest.trans (kept_beginExchange _ _ _)
      · exact (hrest.trans (kept_respond _ _ _ _)).trans (ih _)

theorem kept_takeNext (s : State) : Kept fr s (takeNext s) :=
  Kept.ite (fun _ => kept_arbitrate _ s) fun _ => Kept.refl s

theorem kept_putBack (n : ArmId) (x : Tag) (p : Position) (r : Nat) (s : State) (h : s.valveQueued n = false) :
    Kept fr s (putBack (.valve n x p r) s) :=
  kept_setCmdQueue s _ fun hok => (queueOk_valve x p r hok h).2

theorem kept_commandOutcome (c : Cmd) (x : Ending) (s : State) : Kept fr s (commandOutcome c x s) := by
  cases c with
  | valve n y p r =>
    refine Kept.ite (fun _ => Kept.refl s) fun _ => Kept.ite (fun _ => Kept.refl s) fun _ => ?_
    refine Kept.ite (fun _ => Kept.refl s) fun hq => ?_
    have hq' : s.valveQueued n = false := Bool.eq_false_iff.2 hq
    refine Kept.ite (fun _ => kept_putBack n y p r s hq') fun _ => ?_
    exact Kept.ite (fun _ => kept_putBack n y p _ s hq') fun _ => kept_driveFailed n p s
  | shot n k y number z => exact kept_shotOutcome n k number _ s
  | display y code => exact Kept.refl s

theorem kept_sourceOutcome (e : Exchange) (x : Ending) (s : State) : Kept fr s (sourceOutcome e x s) := by
  unfold sourceOutcome
  split
  · exact kept_commandOutcome _ x s
  · unfold relayOutcome
    refine Kept.ite (fun _ => Kept.refl s) fun _ => ?_
    split
    · exact kept_pushResponse _ s
    · exact kept_respond _ _ _ s
    · exact kept_respond _ _ _ s
  all_goals exact Kept.refl s

theorem kept_endExchange (e : Exchange) (x : Ending) (s : State) : Kept fr s (endExchange e x s) := by
  have hcount : Kept fr s (countEnding x (freeLine s)) := by
    refine Kept.trans (kept_modField s fun y => { y with exchange := none }) ?_
    cases x
    · exact Kept.refl _
    · exact kept_count _ _
    · exact kept_count _ _
  have hscore : ∀ u, Kept fr u (scoreEnding x e.tag u) := by
    intro u
    cases x
    · exact kept_takeResponse _ u
    · exact kept_scoreFailed _ u
    · exact kept_scoreFailed _ u
  unfold endExchange
  exact Kept.ite (fun _ => hcount) fun _ => (hcount.trans (hscore _)).trans (kept_sourceOutcome e x _)

theorem kept_bumpRoll (r d : Nat) (s : State) : Kept fr s (bumpRoll r d s) := kept_modField s _

theorem kept_chainedResponse (e : Exchange) (f : Frame) (s : State) : Kept fr s (chainedResponse e f s) := by
  have hbump : Kept fr s (bumpRoll 1 0 s) := kept_bumpRoll 1 0 s
  unfold chainedResponse
  exact Kept.ite (fun _ => hbump) fun _ => (hbump.trans
    (Kept.ite (fun _ => Kept.refl _) fun _ => kept_pushResponse _ _)).trans (kept_takeResponse f _)

theorem kept_chainedDamage (s : State) : Kept fr s (chainedDamage s) := (kept_count s _).trans (kept_bumpRoll 0 1 _)

theorem kept_readEffect (addr : ObjAddr) (s : State) : Kept fr s (readEffect addr s) :=
  Kept.ite (fun _ => Kept.quiet rfl rfl) fun _ => Kept.refl s

theorem kept_closeRoll (addr : ObjAddr) (r d : Nat) (s : State) : Kept fr s (closeRoll addr r d s) := by
  refine Kept.ite (fun _ => kept_pushResponse _ s) fun _ => ?_
  split
  · exact kept_pushResponse _ s
  · exact (kept_pushResponse _ s).trans (kept_readEffect addr _)

theorem kept_endRoll (e : Exchange) (s : State) : Kept fr s (endRoll e s) := by
  have hfree : Kept fr s (freeLine s) := kept_modField s _
  exact Kept.ite (fun _ => hfree) fun _ => hfree.trans (kept_closeRoll _ _ _ _)

/-! #### The field receiver (R167, R182 to R184, R191) -/

theorem kept_takeDamage (s : State) : Kept fr s (takeDamage s) := by
  unfold takeDamage
  split
  · exact Kept.refl s
  · exact Kept.ite (fun _ => kept_chainedDamage s) fun _ => kept_endExchange _ _ s

theorem kept_fieldHeard (rx : Receiver) (s : State) : Kept fr s (fieldHeard rx s) := kept_modField s _

theorem kept_receiveField (f : Frame) {take : State → State} (h : ∀ u, Kept fr u (take u)) (s : State) :
    Kept fr s (receiveField f take s) := by
  have htake : Kept fr s (take (fieldHeard .idle s)) := (kept_fieldHeard _ s).trans (h _)
  refine Kept.ite (fun _ => Kept.refl s) fun _ => ?_
  split
  · exact kept_fieldHeard _ s
  · exact htake
  · exact Kept.ite (fun _ => htake) fun _ => Kept.refl s

theorem kept_receiveFieldBytes (bytes : List Byte) {take : List Byte → State → State} (h : ∀ b u, Kept fr u (take b u))
    (s : State) : Kept fr s (receiveFieldBytes bytes take s) := by
  refine Kept.ite (fun _ => Kept.refl s) fun _ => ?_
  split
  · exact Kept.ite (fun _ => Kept.refl s) fun _ => kept_fieldHeard _ s
  · exact h _ s
  · exact h _ s

theorem kept_fieldDamage (all : List Byte) (s : State) : Kept fr s (fieldDamage all s) := by
  unfold fieldDamage
  split
  · exact Kept.refl s
  · exact (kept_fieldHeard _ s).trans (kept_takeDamage _)

theorem kept_chainedBytes (all : List Byte) (s : State) : Kept fr s (chainedBytes all s) := by
  have hdamage : ∀ rx, Kept fr s (chainedDamage (fieldHeard rx s)) := fun rx =>
    (kept_fieldHeard rx s).trans (kept_chainedDamage _)
  unfold chainedBytes
  split
  · exact hdamage _
  · exact Kept.ite (fun _ => hdamage _) fun _ => Kept.refl s

theorem kept_goodResponse (f : Frame) (s : State) : Kept fr s (goodResponse f s) := by
  unfold goodResponse
  split
  · exact Kept.refl s
  · exact Kept.ite (fun _ => kept_receiveField f (kept_endExchange _ _) s) fun _ => Kept.refl s

theorem kept_discardedFrame (f : Frame) (s : State) : Kept fr s (discardedFrame f s) := by
  unfold discardedFrame
  split
  · exact kept_receiveField f (take := fun t => t) Kept.refl s
  · exact Kept.ite (fun _ => Kept.refl s) fun _ => kept_receiveField f
      (fun u => Kept.ite (fun _ => kept_endExchange _ _ u) fun _ => Kept.refl u) s

theorem kept_rollResponse (f : Frame) (s : State) : Kept fr s (rollResponse f s) := by
  unfold rollResponse
  split
  · exact Kept.refl s
  · exact Kept.ite (fun _ => kept_receiveField f (kept_chainedResponse _ f) s) fun _ => Kept.refl s

theorem kept_fieldFirstByte (b : Byte) (s : State) : Kept fr s (fieldFirstByte b s) :=
  (kept_fieldHeard _ s).trans (Kept.ite (fun _ => kept_takeDamage _) fun _ => Kept.refl _)

theorem kept_fieldGapEnd (bytes : List Byte) (s : State) : Kept fr s (fieldGapEnd bytes s) :=
  Kept.ite (fun _ => kept_modField s _) fun _ => kept_modField s _

theorem kept_fieldAfterGap (after : Option Byte) (s : State) : Kept fr s (fieldAfterGap after s) := by
  cases after
  · exact Kept.refl s
  · exact kept_fieldFirstByte _ s

theorem kept_receiveFieldGap (bytes : List Byte) (after : Option Byte) (s : State) :
    Kept fr s (receiveFieldGap bytes after s) := by
  have hgap : ∀ all, Kept fr s (fieldGap bytes after all s) := fun all =>
    Kept.ite (fun _ => ((kept_fieldGapEnd bytes s).trans (kept_takeDamage _)).trans (kept_fieldAfterGap after _))
      fun _ => Kept.refl s
  refine Kept.ite (fun _ => Kept.refl s) fun _ => Kept.ite (fun _ => Kept.refl s) fun _ => ?_
  split
  · exact (kept_fieldGapEnd bytes s).trans (kept_fieldAfterGap after _)
  · exact hgap _
  · exact hgap _

theorem kept_fieldBreak (bytes : List Byte) (s : State) : Kept fr s (fieldBreak bytes s) := by
  unfold fieldBreak
  have hbreak := (Kept.ite (fr := fr) (p := bytes = []) (fun _ => Kept.refl s) fun _ => kept_fieldHeard .idle s).trans
    (kept_modField _ fun x => { x with rx := .idle, inBreak := true })
  exact Kept.ite (fun _ => hbreak.trans (kept_takeDamage _)) fun _ => hbreak

/-! #### The upstream port (R182 to R186, R198) -/

theorem kept_upHeard (rx : Receiver) (s : State) : Kept fr s (upHeard rx s) := kept_modUp s _ (.inl le_rfl) rfl

theorem kept_ignoreBytes (n : Nat) (s : State) : Kept fr s (ignoreBytes n s) :=
  Kept.ite (fun _ => Kept.refl s) fun _ => (kept_countBy s _ n).trans (kept_modUp _ _ (.inl le_rfl) rfl)

theorem kept_receiveUpstream (f : Frame) {take : State → State} (s : State) (h : Kept fr s (take (upHeard .idle s))) :
    Kept fr s (receiveUpstream f take s) := by
  refine Kept.ite (fun _ => Kept.refl s) fun _ => Kept.ite (fun _ => kept_ignoreBytes _ s) fun _ => ?_
  split
  · exact kept_upHeard _ s
  · exact h
  · exact Kept.ite (fun _ => h) fun _ => Kept.refl s

theorem kept_receiveUpBytes (bytes : List Byte) {take : List Byte → State → State} (h : ∀ b u, Kept fr u (take b u))
    (s : State) : Kept fr s (receiveUpBytes bytes take s) := by
  refine Kept.ite (fun _ => Kept.refl s) fun _ => Kept.ite (fun _ => kept_ignoreBytes _ s) fun _ => ?_
  split
  · exact Kept.ite (fun _ => Kept.refl s) fun _ => kept_upHeard _ s
  · exact h _ s
  · exact h _ s

theorem kept_upAbandoned (all : List Byte) (s : State) : Kept fr s (upAbandoned all s) :=
  Kept.ite (fun _ => (kept_count s _).trans (kept_upHeard _ _)) fun _ => Kept.refl s

theorem kept_upBadCrc (all : List Byte) (s : State) : Kept fr s (upBadCrc all s) :=
  Kept.ite (fun _ => (kept_count s _).trans (kept_upHeard _ _)) fun _ => Kept.refl s

theorem kept_upAfterGap (after : Option Byte) (s : State) : Kept fr s (upAfterGap after s) := by
  cases after
  · exact Kept.refl s
  · exact (Kept.ite (fun _ => kept_count s _) fun _ => Kept.refl s).trans (kept_upHeard _ _)

theorem kept_upGapEnd (bytes : List Byte) (s : State) : Kept fr s (upGapEnd bytes s) :=
  Kept.ite (fun _ => kept_modUp s _ (.inl le_rfl) rfl) fun _ => kept_modUp s _ (.inl le_rfl) rfl

theorem kept_receiveUpGap (bytes : List Byte) (after : Option Byte) (s : State) :
    Kept fr s (receiveUpGap bytes after s) := by
  have hgap : ∀ all, Kept fr s (upGap bytes after all s) := fun all =>
    Kept.ite (fun _ => ((kept_count s _).trans (kept_upGapEnd bytes _)).trans (kept_upAfterGap after _))
      fun _ => Kept.refl s
  refine Kept.ite (fun _ => Kept.refl s) fun _ => Kept.ite (fun _ => kept_ignoreBytes _ s) fun _ => ?_
  refine Kept.ite (fun _ => Kept.refl s) fun _ => ?_
  split
  · exact (kept_upGapEnd bytes s).trans (kept_upAfterGap after _)
  · exact hgap _
  · exact hgap _

theorem kept_upBreak (bytes : List Byte) (s : State) : Kept fr s (upBreak bytes s) := by
  unfold upBreak
  exact (((Kept.ite (fun _ => kept_ignoreBytes _ s) fun _ => Kept.refl s).trans
    (kept_modUp _ _ (.inl (Nat.zero_le _)) rfl)).trans (kept_modField _ _)).trans
    (kept_setRelayQueue _ [] (.inl (Nat.zero_le _)))

theorem kept_hearHost (s : State) : Kept fr s (hearHost s) := Kept.quiet rfl rfl

theorem kept_ifListOpen {take : State → State} (s : State) (h : Kept fr s (take s)) : Kept fr s (ifListOpen take s) :=
  Kept.ite (fun _ => kept_count s _) fun _ => h

theorem kept_takeBadKind (f : Frame) (s : State) : Kept fr s (takeBadKind f s) := by
  refine Kept.ite (fun _ => ?_) fun _ => kept_ifListOpen s (kept_respond _ _ _ s)
  exact (kept_hearHost s).trans (kept_ifListOpen _ (kept_respond _ _ _ _))

theorem kept_enqueueRelay (f : Frame) (c : FrameClass) (s : State) : Kept fr s (enqueueRelay f c s) :=
  Kept.ite (fun h => kept_setRelayQueue s _ (.inr (by simp; omega))) fun _ => kept_respond _ _ _ s

theorem kept_relayFrame (f : Frame) (s : State) : Kept fr s (relayFrame f s) := by
  unfold relayFrame
  exact Kept.ite (fun _ => kept_enqueueRelay _ _ s) fun _ => kept_respond _ _ _ s

theorem kept_rollIn (f : Frame) (s : State) : Kept fr s (rollIn f s) :=
  Kept.ite (fun _ => kept_respond _ _ _ s) fun _ => kept_enqueueRelay _ _ s

theorem kept_transmitHead (s : State) : Kept fr s (transmitHead s) := by
  unfold transmitHead
  split
  · exact Kept.refl s
  case h_2 r rest h => exact kept_modUp s _ (.inl (by simp [h])) rfl

theorem kept_clearNewMark (header : Option (Nat × Nat)) (s : State) : Kept fr s (clearNewMark header s) := by
  unfold clearNewMark
  split
  · exact Kept.refl s
  · rename_i i serial
    refine kept_modNotes s _ (List.ext_getElem? fun j => ?_) rfl
    simp only [List.getElem?_map, List.getElem?_modify]
    cases s.notes.slots[j]? with
    | none => rfl
    | some y =>
      by_cases hj : i = j
      · by_cases hy : y.state = .filled ∧ y.serial = some serial <;> simp [hj, hy]
      · simp [hj]

theorem kept_endTransmission (s : State) : Kept fr s (endTransmission s) := by
  unfold endTransmission
  split
  · exact Kept.refl s
  · exact (kept_clearNewMark _ s).trans (kept_modUp _ _ (.inl le_rfl) rfl)

theorem kept_declareHostLost (s : State) : Kept fr s (declareHostLost s) := by
  unfold declareHostLost
  have hlost : Kept fr s ((s.modStatus fun x =>
      { x with hostLost := true, declared := true, silenceDeadline := none }).raiseFlag .hostLost) := Kept.quiet rfl rfl
  exact Kept.ite (fun _ => hlost.trans (kept_modSession _ _ rfl rfl)) fun _ => hlost

theorem kept_serveQuery (addr : ObjAddr) (payload : List Byte) (s : State) : Kept fr s (serveQuery addr payload s) := by
  unfold serveQuery
  dsimp only
  split
  · exact (kept_pushResponse _ s).trans (kept_readEffect addr _)
  · exact kept_respond _ _ _ s
  · exact kept_respond _ _ _ s
  · exact kept_respond _ _ _ s

theorem kept_hostQuery (addr : ObjAddr) (payload : List Byte) (s : State) : Kept fr s (hostQuery addr payload s) :=
  kept_receiveUpstream _ s (((kept_upHeard _ s).trans (kept_hearHost _)).trans
    (kept_ifListOpen _ (kept_serveQuery addr payload _)))

end
end Sys2Proof.Machine
end

section
/-! ### The objects and the step as moves -/

namespace Sys2Proof.Machine

section
variable {fr : Bank → Prop} {s t : State}

/-! #### The permit store (R25 to R27, R32, R33) -/

theorem mem_putPermit {p q : Permit} {l : List Permit} (h : q ∈ putPermit p l) : q = p ∨ q ∈ l := by
  induction l with
  | nil => exact .inl (List.mem_singleton.1 h)
  | cons r rest ih =>
    unfold putPermit at h
    split at h
    · exact List.mem_cons.1 h
    · split at h
      · exact (List.mem_cons.1 h).imp id (List.mem_cons_of_mem r)
      · rcases List.mem_cons.1 h with rfl | h
        · exact .inr List.mem_cons_self
        · exact (ih h).imp id (List.mem_cons_of_mem r)

/-- A permit placed by its card leaves the cards ascending (R24). -/
theorem putPermit_ascending (p : Permit) (l : List Permit) (h : l.Pairwise fun p q => p.card < q.card) :
    (putPermit p l).Pairwise fun p q => p.card < q.card := by
  induction l with
  | nil => exact List.pairwise_singleton _ _
  | cons r rest ih =>
    obtain ⟨hr, hrest⟩ := List.pairwise_cons.1 h
    unfold putPermit
    split
    next hlt =>
      refine List.pairwise_cons.2 ⟨fun q hq => ?_, h⟩
      rcases List.mem_cons.1 hq with rfl | hq
      · exact hlt
      · exact hlt.trans (hr q hq)
    next hle =>
      split
      next heq => exact List.pairwise_cons.2 ⟨fun q hq => heq ▸ hr q hq, hrest⟩
      next hne =>
        refine List.pairwise_cons.2 ⟨fun q hq => ?_, ih hrest⟩
        rcases mem_putPermit hq with rfl | hq
        · omega
        · exact hr q hq

/-- A permit placed takes at most one place more, and none where its card has one (R25). -/
theorem putPermit_length (p : Permit) (l : List Permit) (h : l.Pairwise fun p q => p.card < q.card) :
    (putPermit p l).length ≤ l.length + 1 ∧ ((findPermit l p.card).isSome = true → (putPermit p l).length = l.length) := by
  induction l with
  | nil => exact ⟨le_rfl, fun h => by simp [findPermit] at h⟩
  | cons r rest ih =>
    obtain ⟨hr, hrest⟩ := List.pairwise_cons.1 h
    obtain ⟨ih1, ih2⟩ := ih hrest
    unfold putPermit
    split
    next hlt =>
      refine ⟨le_rfl, fun hf => ?_⟩
      obtain ⟨q, hq⟩ := Option.isSome_iff_exists.1 hf
      have hcard : q.card = p.card := beq_iff_eq.1 (List.find?_some (p := fun q : Permit => q.card == p.card) hq)
      rcases List.mem_cons.1 (List.mem_of_find?_eq_some hq) with rfl | hm
      · omega
      · have := hr q hm; omega
    next =>
      split
      next => exact ⟨by simp, fun _ => by simp⟩
      next hne =>
        refine ⟨by simp; omega, fun hf => ?_⟩
        have hrest' : (findPermit rest p.card).isSome = true := by
          have hr' : (r.card == p.card) = false := by simpa using fun h => hne h.symm
          simpa [findPermit, List.find?_cons, hr'] using hf
        simp [ih2 hrest']

theorem kept_insertPermit (p : Permit) (s : State) (hp : p.ok = true) : Kept fr s (insertPermit p s).1 := by
  unfold insertPermit
  split
  · exact Kept.refl s
  next hroom =>
    dsimp only
    refine kept_modStore s _ fun hok => ?_
    obtain ⟨h1, h2, h3, h4⟩ := hok
    obtain ⟨hlen, hsame⟩ := putPermit_length p s.store.permits h2
    refine ⟨?_, putPermit_ascending p _ h2, fun q hq => ?_, h4⟩
    · cases hf : findPermit s.store.permits p.card with
      | none =>
        have : ¬512 ≤ s.store.permits.length := fun h => hroom ⟨by rw [hf]; rfl, h⟩
        dsimp only
        omega
      | some q => exact (hsame (by rw [hf]; rfl)).trans_le h1
    · rcases mem_putPermit hq with rfl | hq
      · exact hp
      · exact h3 q hq

theorem kept_removePermit (card : Nat) (s : State) : Kept fr s (removePermit card s).1 := by
  unfold removePermit
  split
  · exact Kept.refl s
  · dsimp only
    refine kept_modStore s _ fun hok => ?_
    obtain ⟨h1, h2, h3, h4⟩ := hok
    exact ⟨(List.length_filter_le _ _).trans h1, h2.sublist List.filter_sublist,
      fun q hq => h3 q (List.mem_of_mem_filter hq), h4⟩

/-- A permit that is given out only after its check is in range. -/
theorem ok_of_checked {x p : Permit} {room : Bool} {r : Reason}
    (h : (if x.ok && room then Except.ok x else Except.error r) = Except.ok p) : p.ok = true := by
  split at h
  next hok =>
    obtain rfl := Except.ok.inj h
    exact (Bool.and_eq_true _ _ ▸ hok).1
  next => exact absurd h (by simp)

theorem readPermit_ok (payload : List Byte) (p : Permit) (h : readPermit payload = .ok p) : p.ok = true := by
  unfold readPermit at h
  split at h
  · exact absurd h (by simp)
  · split at h
    · exact ok_of_checked h
    · exact absurd h (by simp)

theorem readOrder_ok (payload : List Byte) (o : Order) (h : readOrder payload = .ok o) : entriesOk o.entries = true := by
  unfold readOrder at h
  split at h
  · exact absurd h (by simp)
  · split at h
    · exact absurd h (by simp)
    · dsimp only at h
      split at h
      next hok =>
        obtain rfl := Except.ok.inj h
        exact hok
      next => exact absurd h (by simp)

theorem kept_insertOrder (o : Order) (s : State) (ho : entriesOk o.entries = true) :
    Kept fr s (insertOrder o s).1 := by
  unfold insertOrder
  split
  · exact Kept.refl s
  next hnew =>
    split
    · exact Kept.refl s
    next hroom =>
      dsimp only
      refine kept_modStore s _ fun hok => ?_
      obtain ⟨h1, h2, h3, h4, h5, h6⟩ := hok
      refine ⟨h1, h2, h3, by simp; omega, ?_, fun x hx => ?_⟩
      · rw [List.map_append, List.map_singleton, ← List.concat_eq_append]
        refine h5.concat fun hmem => hnew ?_
        obtain ⟨x, hx, hcard⟩ := List.mem_map.1 hmem
        rw [findOrder, List.find?_isSome]
        exact ⟨x, hx, beq_iff_eq.2 hcard⟩
      · rcases List.mem_append.1 hx with hx | hx
        · exact h6 x hx
        · rw [List.mem_singleton.1 hx]
          exact ho

theorem kept_removeOrder (card : Nat) (s : State) : Kept fr s (removeOrder card s).1 := by
  unfold removeOrder
  split
  · exact Kept.refl s
  · exact kept_dropOrder card s

/-! #### The tables (R45, R147, R149, R153, R158, R165, R174) -/

theorem kept_writeRecords (size last : Nat) {first : Nat} {write : Nat → List Byte → State → Option State}
    (h : ∀ i r u v, first ≤ i → write i r u = some v → Kept fr u v) (k i written : Nat) (bytes : List Byte) (s : State)
    (hi : first ≤ i) : Kept fr s (writeRecords size last write k i written bytes s).1 := by
  induction k generalizing i written bytes s with
  | zero => exact Kept.refl s
  | succ k ih =>
    unfold writeRecords
    split
    · exact Kept.refl s
    · split
      · exact Kept.refl s
      next v hv => exact (h i _ s v hi hv).trans (ih _ _ _ _ (Nat.le_succ_of_le hi))

theorem kept_setTable (size first last i : Nat) {guard : State → Option Reason}
    {write : Nat → List Byte → State → Option State} (payload : List Byte) (s : State)
    (h : guard s = none → ∀ i r u v, first ≤ i → write i r u = some v → Kept fr u v) :
    Kept fr s (setTable size first last i guard write payload s).1 := by
  unfold setTable
  split
  · exact Kept.refl s
  next hi =>
    split
    · exact Kept.refl s
    · split
      · exact Kept.refl s
      next hg => exact kept_writeRecords size last (h hg) _ _ _ _ s (Nat.not_lt.1 hi)

theorem kept_resetDosing (n : ArmId) (s : State) : Kept fr s (resetDosing n s) :=
  (kept_modDose s n .s1 _).trans (kept_modDose _ n .s2 _)

theorem kept_applyConfig (n : ArmId) (c : ArmConfig) (s : State) : Kept fr s (applyConfig n c s) := by
  unfold applyConfig
  exact (((kept_setConfig s n c).trans (kept_modArm_quiet _ n _)).trans (kept_modMeter _ n _)).trans (kept_resetDosing n _)

theorem kept_setConfigs (i : Nat) (payload : List Byte) (s : State) : Kept fr s (setConfigs i payload s).1 := by
  refine kept_setTable 17 0 3 i payload s fun _ i r u v _ hw => ?_
  unfold writeConfig at hw
  split at hw
  · exact absurd hw (by simp)
  · obtain rfl := Option.some.inj hw
    exact kept_applyConfig _ _ u

theorem kept_setAcceptances (i : Nat) (payload : List Byte) (s : State) : Kept fr s (setAcceptances i payload s).1 := by
  refine kept_setTable 11 0 23 i payload s fun _ i r u v _ hw => ?_
  unfold writeAcceptance at hw
  split at hw
  · exact absurd hw (by simp)
  · obtain rfl := Option.some.inj hw
    exact kept_modAcceptance u _ (by simp)

theorem kept_setScans (i : Nat) (payload : List Byte) (s : State) : Kept fr s (setScans i payload s).1 := by
  refine kept_setTable 7 0 31 i payload s fun _ i r u v _ hw => ?_
  unfold writeScan at hw
  split at hw
  · exact absurd hw (by simp)
  · obtain rfl := Option.some.inj hw
    exact kept_modScans u _ (by simp)

/-- A bank that is not frozen is written with tables that are self-consistent if they were (R147, R149). -/
theorem kept_setTables (bank : Bank) (x : BankTables) (s : State) (hf : ¬fr bank)
    (hx : (s.banks.tables bank).ok → x.ok) : Kept fr s (setTables bank x s) :=
  Kept.of_move rfl (.tables bank x hf hx) rfl

/-- A bank that passes the tests of R153 is neither active nor captured, so that it is not frozen. -/
theorem not_frozen_of_bankRefusal (bank : Bank) (s : State)
    (hfr : ∀ x, fr x → s.banks.active = x ∨ 0 < s.banks.count x) (h : bankRefusal bank s = none) : ¬fr bank := by
  intro hb
  unfold bankRefusal at h
  split at h
  · exact absurd h (by simp)
  next hact =>
    split at h
    · exact absurd h (by simp)
    next hcount => exact (hfr bank hb).elim hact hcount

/-- A product that R147 accepts names curves of its bank. -/
theorem readProduct_named (x : BankTables) (code : Nat) (r : List Byte) (p : Product)
    (h : readProduct x code r = some (some p)) (n : ArmId) : curveNamed x (p.curve.get n) = true := by
  unfold readProduct at h
  dsimp only at h
  split at h
  · exact absurd h (by simp)
  · split at h
    · split at h <;> exact absurd h (by simp)
    · split at h
      next hok =>
        obtain rfl := Option.some.inj (Option.some.inj h)
        obtain ⟨-, -, -, -, h1, h2, h3, h4⟩ := hok
        cases n
        · exact h1
        · exact h2
        · exact h3
        · exact h4
      next => exact absurd h (by simp)

theorem tables_ok_product (x : BankTables) (code i : Nat) (r : List Byte) (p : Option Product)
    (h : readProduct x code r = some p) (hx : x.ok) :
    ({ x with products := x.products.set i p } : BankTables).ok := by
  intro q hq n
  rcases List.mem_or_eq_of_mem_set hq with hq | rfl
  · exact hx q hq n
  · exact readProduct_named x code r q h n

theorem kept_setProducts (bank : Bank) (i : Nat) (payload : List Byte) (s : State)
    (hfr : ∀ x, fr x → s.banks.active = x ∨ 0 < s.banks.count x) : Kept fr s (setProducts bank i payload s).1 := by
  refine kept_setTable 10 1 15 i payload s fun hg i r u v _ hw => ?_
  unfold writeProduct at hw
  split at hw
  · exact absurd hw (by simp)
  next p hp =>
    obtain rfl := Option.some.inj hw
    exact kept_setTables bank _ u (not_frozen_of_bankRefusal bank s hfr hg) (tables_ok_product _ i _ r p hp)

/-- A curve that R149 accepts leaves the bank self-consistent: it is present, or no present product names it. -/
theorem tables_ok_curve (x : BankTables) (i : Nat) (r : List Byte) (c : Option (List CurvePoint)) (hi : 1 ≤ i)
    (h : readCurve x i r = some c) (hx : x.ok) : ({ x with curves := x.curves.set (i - 1) c } : BankTables).ok := by
  intro p hp n
  have hnamed := hx p hp n
  have hcurve : ∀ k, k ≠ 0 → k ≠ i →
      ({ x with curves := x.curves.set (i - 1) c } : BankTables).curve? k = x.curve? k := by
    intro k hk hki
    unfold BankTables.curve?
    rw [if_neg hk, if_neg hk, List.getElem?_set_ne (by omega)]
  by_cases hki : p.curve.get n = i
  · have hused : c ≠ none := by
      rintro rfl
      have hu : curveUsed x i = true := by
        unfold curveUsed
        rw [List.any_eq_true]
        refine ⟨some p, hp, ?_⟩
        rw [List.any_eq_true]
        exact ⟨n, by cases n <;> decide, beq_iff_eq.2 hki⟩
      unfold readCurve at h
      dsimp only at h
      split at h
      next => exact absurd h (by simp)
      next => split at h <;> exact absurd h (by simp)
    obtain ⟨pts, rfl⟩ := Option.ne_none_iff_exists'.1 hused
    simp only [curveNamed, hki, BankTables.curve?, Bool.and_eq_true, decide_eq_true_eq, Bool.or_eq_true, beq_iff_eq] at hnamed ⊢
    refine ⟨hnamed.1, .inr ?_⟩
    have hi0 : i ≠ 0 := by omega
    rw [if_neg hi0] at hnamed ⊢
    have hsome := hnamed.2.resolve_left hi0
    have hlt : i - 1 < x.curves.length := by
      by_contra hge
      rw [List.getElem?_eq_none (Nat.not_lt.1 hge)] at hsome
      exact absurd hsome (by simp)
    rw [List.getElem?_set_self hlt]
    rfl
  · simp only [curveNamed, Bool.and_eq_true, Bool.or_eq_true, beq_iff_eq] at hnamed ⊢
    refine ⟨hnamed.1, ?_⟩
    by_cases h0 : p.curve.get n = 0
    · exact .inl h0
    · rw [hcurve _ h0 hki]
      exact hnamed.2

theorem kept_setCurves (bank : Bank) (i : Nat) (payload : List Byte) (s : State)
    (hfr : ∀ x, fr x → s.banks.active = x ∨ 0 < s.banks.count x) : Kept fr s (setCurves bank i payload s).1 := by
  refine kept_setTable 25 1 16 i payload s fun hg i r u v hi hw => ?_
  unfold writeCurve at hw
  split at hw
  · exact absurd hw (by simp)
  next c hc =>
    obtain rfl := Option.some.inj hw
    exact kept_setTables bank _ u (not_frozen_of_bankRefusal bank s hfr hg) (tables_ok_curve _ i r c hi hc)

theorem kept_setRecipes (bank : Bank) (i : Nat) (payload : List Byte) (s : State)
    (hfr : ∀ x, fr x → s.banks.active = x ∨ 0 < s.banks.count x) : Kept fr s (setRecipes bank i payload s).1 := by
  refine kept_setTable 14 1 8 i payload s fun hg i r u v _ hw => ?_
  unfold writeRecipe at hw
  split at hw
  · exact absurd hw (by simp)
  · obtain rfl := Option.some.inj hw
    exact kept_setTables bank _ u (not_frozen_of_bankRefusal bank s hfr hg) fun hx => hx

/-! #### The mode, the gap and RESTART (R161, R162, R185, R199) -/

theorem kept_leaveRun (m : Mode) (s : State) : Kept fr s (leaveRun m s) :=
  ((chain_setMode s m).trans (kept_offerMoving _ _).chain).decided

theorem kept_requestService (s : State) : Kept fr s (requestService s) := by
  unfold requestService
  split
  · exact Kept.refl s
  · exact Kept.refl s
  · exact Kept.ite (fun _ => kept_leaveRun _ s) fun _ => kept_leaveRun _ s

theorem kept_requestRun (s : State) : Kept fr s (requestRun s).1 := by
  unfold requestRun
  split
  · rw [apply_ite Prod.fst]
    exact Kept.ite (fun _ => (chain_setMode s _).decided) fun _ => Kept.refl s
  · exact (chain_setMode s _).decided
  · exact Kept.refl s

theorem kept_setModeObject (payload : List Byte) (s : State) : Kept fr s (setModeObject payload s).1 := by
  unfold setModeObject
  split
  · exact Kept.refl s
  · split
    · exact kept_requestService s
    · split
      · exact kept_requestRun s
      · exact Kept.refl s

theorem kept_setGap (payload : List Byte) (s : State) : Kept fr s (setGap payload s).1 := by
  unfold setGap
  split
  · exact Kept.refl s
  · split
    · exact Kept.refl s
    · split
      next h =>
        have hrange : 100 ≤ fieldNat payload 0 2 ∧ fieldNat payload 0 2 ≤ 2000 := by simpa [inRange] using h
        exact Kept.of_move (w := { s.view with gap := fieldNat payload 0 2 }) rfl (.gap _ hrange) rfl
      next => exact Kept.refl s

theorem kept_swapBanks (s : State) : Kept fr s (swapBanks s).1 := by
  unfold swapBanks
  split
  · exact Kept.of_move (w := { s.view with banks := { s.banks with active := otherBank s.banks.active } }) rfl
      (.active _) rfl
  · exact Kept.refl s

theorem kept_setBankControl (payload : List Byte) (s : State) : Kept fr s (setBankControl payload s).1 := by
  unfold setBankControl
  split
  · exact Kept.refl s
  · split
    · exact kept_swapBanks s
    · exact Kept.refl s

theorem slots_releaseNote (serial : Nat) (s : State) : Kept fr s (releaseNote serial s).1 := by
  unfold releaseNote
  split
  next i h =>
    refine Kept.of_move (w := { s.view with slots := (s.notes.slots.set i {}).map fun x => x.state }) rfl
      (.slots _ s.notes.held (by simp [State.view]) ?_) rfl
    rintro ⟨j, hj, hslot⟩
    refine .inr ⟨j, hj, ?_⟩
    rw [List.map_set] at hslot
    by_cases hij : i = j
    · subst hij
      obtain ⟨_, he⟩ := List.getElem?_eq_some_iff.1 hslot
      rw [List.getElem_set_self] at he
      exact absurd he (by decide)
    · rwa [List.getElem?_set_ne hij] at hslot
  next => split <;> exact Kept.refl s

/-- An arm as RESTART leaves it. -/
def restartedView : ArmView := { state := .idle, held := none, commanded := .closed }

theorem view_restartArm (n : ArmId) (s : State) :
    (restartArm n s).view = { s.view with arm := Function.update s.view.arm n restartedView } := by
  have hview : (restartArm n s).view = (s.modArm n fun a => a.restarted (s.config n)).view := rfl
  rw [hview, view_modArm]
  rfl

theorem view_forArms_restartArm (s : State) :
    (forArms restartArm s).view = { s.view with arm := fun _ => restartedView } := by
  have hall : Function.update (Function.update (Function.update (Function.update s.view.arm .a1 restartedView)
      .a2 restartedView) .a3 restartedView) .a4 restartedView = fun _ => restartedView := by
    funext n
    cases n <;> simp
  have hview : (forArms restartArm s).view =
      (restartArm .a4 (restartArm .a3 (restartArm .a2 (restartArm .a1 s)))).view := rfl
  simp only [hview, view_restartArm, hall]

theorem view_restartLines (s : State) :
    (restartLines s).view = { s.view with queue := [], relayed := 0, answers := 0 } := rfl

theorem view_renewScans (s : State) (f : ScanEntry → ScanEntry) :
    (s.modScans fun es => es.map f).view = s.view := by
  have hlen : (s.scans.map f).length = s.scans.length := List.length_map _
  simp only [State.view] at hlen ⊢
  rw [show (s.modScans fun es => es.map f).scans.length = s.scans.length from hlen]
  rfl

theorem view_resetPermissive (s : State) : (resetPermissive s).view = s.view := rfl

theorem view_restartStatus (s : State) : (restartStatus s).view = { s.view with counters := {} } := rfl

theorem view_restartNodes (s : State) :
    ((s.setNodes (List.replicate 64 {})).setReader {}).view = { s.view with sizes := (64, s.view.sizes.2) } := rfl

theorem view_restartStore (s : State) :
    (((s.modSession fun x => { x with readerTag := none }).modStore fun x => { x with orders := [] }).modBanks
        fun x => { x with countA := 0, countB := 0 }).view =
      { s.view with
        store := { s.view.store with orders := [] }, banks := { s.view.banks with countA := 0, countB := 0 } } := rfl

theorem view_restartState (s : State) : (restartState s).view =
    { s.view with
      counters := {}, store := { s.store with orders := [] }, banks := { s.banks with countA := 0, countB := 0 }
      arm := fun _ => restartedView, sizes := (64, s.view.sizes.2), queue := [], relayed := 0, answers := 0 } := by
  unfold restartState
  dsimp only
  rw [view_restartStatus, view_resetPermissive, view_restartNodes, view_forArms_restartArm, view_renewScans,
    view_restartStore, view_restartLines]
  rfl

/-- RESTART, of a VACANT session (R199). -/
theorem kept_restartState (s : State) (h : s.session.state = .vacant) : Kept fr s (restartState s) := by
  refine ⟨Chain.of_move (view_restartState s) (Move.restart h), fun _ => ?_⟩
  unfold restartState
  exact bayPermitOk_of_permitView (s := resetPermissive _) rfl (decideBayPermit_ok _)

end
end Sys2Proof.Machine
end

section
/-! ### The rows and the step as moves -/

namespace Sys2Proof.Machine

section
variable {fr : Bank → Prop} {s t : State}

/-! #### The object server (R186, R189, R190) -/

theorem kept_restart (s : State) : Kept fr s (restart s).1 := by
  unfold restart
  split
  next h => exact (kept_restartState s h.2).trans (Kept.foldl (fun u f => kept_respond _ _ _ u) _ _)
  next => exact Kept.refl s

theorem kept_armStop (n : ArmId) (s : State) : Kept fr s (armStop n s).1 := by
  unfold armStop
  split
  · exact kept_offerCause n _ s
  · exact Kept.refl s

theorem kept_armResume (n : ArmId) (s : State) : Kept fr s (armResume n s).1 := by
  unfold armResume
  split
  · exact kept_dropCause n _ s
  · exact Kept.refl s

theorem kept_armClear (n : ArmId) (s : State) : Kept fr s (armClear n s).1 := by
  unfold armClear
  split
  next h =>
    have hb : (s.arm n).state = .blocked := by
      simp only [State.mayClear, Bool.and_eq_true] at h
      exact beq_iff_eq.1 h.1.1
    have hclosed : (s.arm n).view.ok → (s.arm n).commanded = .closed :=
      commanded_closed_of_not_moving (by rw [hb]; rfl)
    have hstep : (s.arm n).view.Step { (s.arm n).view with state := .idle } :=
      ⟨rfl, by rw [show (s.arm n).view.state = .blocked from hb]; rfl,
        by rw [show (s.arm n).view.state = .blocked from hb]; exact iff_of_false nofun nofun, fun hok hne => absurd (hclosed hok) hne⟩
    exact kept_clearTrip n (chain_modArm s n (fun a => { a with state := .idle, blockCause := none }) hstep)
  next => exact Kept.refl s

theorem kept_withArm (argument : Nat) {f : ArmId → State → State × Reply} (s : State)
    (h : ∀ n, Kept fr s (f n s).1) : Kept fr s (withArm argument f s).1 := by
  unfold withArm
  split
  · exact Kept.refl s
  · exact h _

theorem kept_withZero (argument : Nat) {f : State → State × Reply} (s : State) (h : Kept fr s (f s).1) :
    Kept fr s (withZero argument f s).1 := by
  unfold withZero
  split
  · exact h
  · exact Kept.refl s

theorem kept_setCommand (payload : List Byte) (s : State) : Kept fr s (setCommand payload s).1 := by
  unfold setCommand
  split
  · exact Kept.refl s
  · unfold runCommand
    split
    · exact kept_withZero _ s (kept_restart s)
    · exact kept_withZero _ s (kept_sessionAbort s)
    · exact kept_withArm _ s fun n => kept_armStop n s
    · exact kept_withArm _ s fun n => kept_armResume n s
    · exact kept_withArm _ s fun n => kept_armClear n s
    · exact Kept.refl s

theorem kept_setStatusFlags (payload : List Byte) (s : State) : Kept fr s (setStatusFlags payload s).1 := by
  unfold setStatusFlags
  split
  · exact Kept.refl s
  · exact Kept.quiet rfl rfl

theorem kept_setClock (payload : List Byte) (s : State) : Kept fr s (setClock payload s).1 := by
  unfold setClock
  split
  · exact Kept.refl s
  · split
    · exact Kept.refl s
    · dsimp only
      exact kept_modClock s _

theorem kept_setPermit (payload : List Byte) (s : State) : Kept fr s (setPermit payload s).1 := by
  unfold setPermit
  split
  · exact Kept.refl s
  next p hp => exact kept_insertPermit p s (readPermit_ok payload p hp)

theorem kept_setOrder (payload : List Byte) (s : State) : Kept fr s (setOrder payload s).1 := by
  unfold setOrder
  split
  · exact Kept.refl s
  next o ho => exact kept_insertOrder o s (readOrder_ok payload o ho)

theorem kept_setKey (card : Nat) (s : State) : Kept fr s (setKey card s).1 :=
  kept_modStore s (fun x => { x with key := some card }) id

theorem kept_withCard (payload : List Byte) {f : Nat → State → State × Reply} (s : State)
    (h : ∀ card, Kept fr s (f card s).1) : Kept fr s (withCard payload f s).1 := by
  unfold withCard
  split
  · exact Kept.refl s
  · exact h _

theorem kept_setRelease (payload : List Byte) (s : State) : Kept fr s (setRelease payload s).1 := by
  unfold setRelease
  split
  · exact Kept.refl s
  · exact slots_releaseNote _ s

theorem kept_fieldAbandoned (all : List Byte) (s : State) : Kept fr s (fieldAbandoned all s) :=
  Kept.ite (fun _ => kept_fieldDamage all s) fun _ => Kept.refl s

/-- A SET of an object, where the banks of `fr` are among the active one and the captured ones. -/
theorem kept_setObject (o : Obj) (payload : List Byte) (s : State)
    (hfr : ∀ x, fr x → s.banks.active = x ∨ 0 < s.banks.count x) : Kept fr s (setObject o payload s).1 := by
  cases o with
  | mode => exact kept_setModeObject payload s
  | statusFlags => exact kept_setStatusFlags payload s
  | clock => exact kept_setClock payload s
  | bankControl => exact kept_setBankControl payload s
  | command => exact kept_setCommand payload s
  | gap => exact kept_setGap payload s
  | config i => exact kept_setConfigs i payload s
  | acceptance i => exact kept_setAcceptances i payload s
  | scan i => exact kept_setScans i payload s
  | product bank i => exact kept_setProducts bank i payload s hfr
  | curve bank i => exact kept_setCurves bank i payload s hfr
  | recipe bank i => exact kept_setRecipes bank i payload s hfr
  | permitInsert => exact kept_setPermit payload s
  | permitRemove => exact kept_withCard payload s fun card => kept_removePermit card s
  | lookupKey => exact kept_withCard payload s fun card => kept_setKey card s
  | orderInsert => exact kept_setOrder payload s
  | orderRemove => exact kept_withCard payload s fun card => kept_removeOrder card s
  | noteRelease => exact kept_setRelease payload s
  | nextSerial | counters | summary | lookupResult => exact Kept.refl s
  | armStatus _ | permitAt _ | orderAt _ | slotHeader _ | notePage _ _ => exact Kept.refl s

theorem kept_serveSet (addr : ObjAddr) (payload : List Byte) (s : State)
    (hfr : ∀ x, fr x → s.banks.active = x ∨ 0 < s.banks.count x) : Kept fr s (serveSet addr payload s) := by
  unfold serveSet
  split
  · exact kept_respond _ _ _ s
  · exact (kept_setObject _ payload s hfr).trans (kept_respond _ _ _ _)

theorem kept_hostSet (addr : ObjAddr) (payload : List Byte) (s : State)
    (hfr : ∀ x, fr x → s.banks.active = x ∨ 0 < s.banks.count x) : Kept fr s (hostSet addr payload s) :=
  kept_receiveUpstream _ s (((kept_upHeard _ s).trans (kept_hearHost _)).trans
    (kept_ifListOpen _ (kept_serveSet addr payload _ hfr)))

/-! #### The rows -/

theorem kept_armedTimeout (n : ArmId) (s : State) :
    Kept fr s (if s.armedOverdue n then armedExpiry n s else s) := by
  refine Kept.ite (fun h => kept_armedExpiry n s ?_) fun _ => Kept.refl s
  simp only [State.armedOverdue, Bool.and_eq_true, beq_iff_eq] at h
  exact h.1

theorem kept_settleTimeout (n : ArmId) (s : State) :
    Kept fr s (if s.settleOverdue n then settleFailure n s else s) := by
  refine Kept.ite (fun h => kept_settleFailure n s ?_) fun _ => Kept.refl s
  simp only [State.settleOverdue, Bool.and_eq_true, Bool.or_eq_true, beq_iff_eq] at h
  exact h.1.1

theorem kept_haltTimeout (n : ArmId) (s : State) : Kept fr s (if s.haltOverdue n then haltExpiry n s else s) := by
  refine Kept.ite (fun h => kept_haltExpiry n s ?_) fun _ => Kept.refl s
  simp only [State.haltOverdue, Bool.and_eq_true, beq_iff_eq] at h
  exact h.1

theorem kept_codeEntryTimeout (s : State) : Kept fr s (if s.codeOverdue then returnVacant s else s) := by
  refine Kept.ite (fun h => kept_returnVacant s (.inl ?_)) fun _ => Kept.refl s
  simp only [State.codeOverdue, Bool.and_eq_true, beq_iff_eq] at h
  rw [h.1]
  decide

theorem kept_sessionIdleTimeout (s : State) : Kept fr s (if s.idleOverdue then idleExpiry s else s) := by
  refine Kept.ite (fun h => kept_idleExpiry s ?_) fun _ => Kept.refl s
  simp only [State.idleOverdue, Bool.and_eq_true] at h
  exact h.1.2

theorem kept_timeOut (s : State) : Kept fr s (timeOut s) := by
  unfold timeOut
  split
  · exact Kept.refl s
  · exact kept_endExchange _ _ s

theorem kept_finishRoll (s : State) : Kept fr s (finishRoll s) := by
  unfold finishRoll
  split
  · exact Kept.refl s
  · exact kept_endRoll _ s

theorem kept_modUp_port (s : State) (f : Upstream → Upstream) (ho : (f s.up).outgoing = s.up.outgoing)
    (hg : (f s.up).gap = s.up.gap) : Kept fr s (s.modUp f) :=
  kept_modUp s f (.inl (by rw [ho])) hg

theorem kept_refreshDue (n : ArmId) (s t : State) (h : execValveRefreshDue n s = .next t) : Kept fr s t := by
  unfold execValveRefreshDue at h
  split at h
  · exact Host.Outcome.next.inj h ▸ Kept.refl s
  · exact Host.Outcome.next.inj h ▸ Kept.ite (fun _ => kept_modNode s _ _ fun _ => rfl) fun _ => Kept.refl s

theorem kept_rollDamaged (bytes : List Byte) (s t : State) (h : execRollDamagedResponse bytes s = .next t) :
    Kept fr s t := by
  unfold execRollDamagedResponse at h
  split at h
  · exact Host.Outcome.next.inj h ▸ Kept.refl s
  · exact Host.Outcome.next.inj h ▸
      Kept.ite (fun _ => kept_receiveFieldBytes bytes kept_chainedBytes s) fun _ => Kept.refl s

theorem Kept.of_next {u : State} (hk : Kept fr s u)
    (h : (Host.Outcome.next u : Host.Outcome State Fault Refusal) = .next t) : Kept fr s t :=
  Host.Outcome.next.inj h ▸ hk

/-- What any row but a reset keeps. -/
theorem exec_kept (i : Instr) (s t : State) (hp : i ≠ .powerOnReset) (hr : i ≠ .resetInput)
    (hfr : ∀ x, fr x → s.banks.active = x ∨ 0 < s.banks.count x) (h : exec i s = .next t) : Kept fr s t := by
  cases i
  case powerOnReset => exact absurd rfl hp
  case resetInput => exact absurd rfl hr
  case setService | setRun | swap => exact Kept.of_next (kept_hostSet _ _ s hfr) h
  case clearStatusFlags | clockSet | turnaroundGapSet => exact Kept.of_next (kept_hostSet _ _ s hfr) h
  case restart | sessionAbort | armStop | armResume | armClear => exact Kept.of_next (kept_hostSet _ _ s hfr) h
  case armConfigurationSet | acceptanceEntrySet | scanEntrySet => exact Kept.of_next (kept_hostSet _ _ s hfr) h
  case productSet | curveSet | recipeSet => exact Kept.of_next (kept_hostSet _ _ s hfr) h
  case permitInsert | permitRemove | lookupKeySet => exact Kept.of_next (kept_hostSet _ _ s hfr) h
  case orderInsert | orderRemove | noteRelease | otherObjectSet => exact Kept.of_next (kept_hostSet _ _ s hfr) h
  case queryStatusFlags | slotHeaderQuery | objectQuery => exact Kept.of_next (kept_hostQuery _ _ s) h
  case upstreamFrameDiscarded f =>
    exact Kept.of_next (Kept.ite (fun _ => kept_receiveUpstream f s ((kept_upHeard _ s).trans (kept_count _ _)))
      fun _ => Kept.refl s) h
  case badKind f =>
    exact Kept.of_next (Kept.ite (fun _ => kept_receiveUpstream f s ((kept_upHeard _ s).trans (kept_takeBadKind f _)))
      fun _ => Kept.refl s) h
  case relayIntake f =>
    exact Kept.of_next (Kept.ite (fun _ => kept_receiveUpstream f s ((kept_upHeard _ s).trans
      (kept_ifListOpen _ (kept_relayFrame f _)))) fun _ => Kept.refl s) h
  case rollIntake addr payload =>
    exact Kept.of_next (kept_receiveUpstream _ s ((kept_upHeard _ s).trans (kept_ifListOpen _ (kept_rollIn _ _)))) h
  case lineBreak line bytes =>
    cases line
    · exact Kept.of_next (Kept.ite (fun _ => Kept.refl s) fun _ => kept_upBreak bytes s) h
    · exact Kept.of_next (Kept.ite (fun _ => Kept.refl s) fun _ => kept_fieldBreak bytes s) h
  case lineBreakEnd line =>
    cases line
    · exact Kept.of_next (Kept.ite (fun _ => kept_modUp_port s _ rfl rfl) fun _ => Kept.refl s) h
    · exact Kept.of_next (Kept.ite (fun _ => kept_modField s _) fun _ => Kept.refl s) h
  case frameAbandoned line bytes =>
    cases line
    · exact Kept.of_next (kept_receiveUpBytes bytes kept_upAbandoned s) h
    · exact Kept.of_next (kept_receiveFieldBytes bytes kept_fieldAbandoned s) h
  case receiveGapTimeout line bytes after =>
    cases line
    · exact Kept.of_next (kept_receiveUpGap bytes after s) h
    · exact Kept.of_next (kept_receiveFieldGap bytes after s) h
  case huntSilence line =>
    cases line
    · exact Kept.of_next (Kept.ite (fun _ => kept_modUp_port s _ rfl rfl) fun _ => Kept.refl s) h
    · exact Kept.of_next (Kept.ite (fun _ => kept_modField s _) fun _ => Kept.refl s) h
  case upstreamCrcError bytes => exact Kept.of_next (kept_receiveUpBytes bytes kept_upBadCrc s) h
  case byteIgnoredWhileTransmitting =>
    exact Kept.of_next (Kept.ite (fun _ => kept_ignoreBytes 1 s) fun _ => Kept.refl s) h
  case responseTransmit => exact Kept.of_next (Kept.ite (fun _ => kept_transmitHead s) fun _ => Kept.refl s) h
  case responseSent => exact Kept.of_next (Kept.ite (fun _ => kept_endTransmission s) fun _ => Kept.refl s) h
  case hostLost => exact Kept.of_next (Kept.ite (fun _ => kept_declareHostLost s) fun _ => Kept.refl s) h
  case terminalSecondTick => exact Kept.of_next (Kept.ite (fun _ => kept_modClock s _) fun _ => Kept.refl s) h
  case arbiterTake => exact Kept.of_next (kept_takeNext s) h
  case scanDue index =>
    exact Kept.of_next (Kept.ite (fun _ => kept_modScans s _ (List.length_modify _ _ _)) fun _ => Kept.refl s) h
  case valveRefreshDue n => exact kept_refreshDue n s t h
  case slowPollDue tag =>
    exact Kept.of_next (Kept.ite (fun _ => kept_modNode s tag (fun x => { x with slowMark := true }) fun _ => rfl)
      fun _ => Kept.refl s) h
  case fieldGoodResponse f => exact Kept.of_next (kept_goodResponse f s) h
  case fieldDamagedResponse bytes => exact Kept.of_next (kept_receiveFieldBytes bytes kept_fieldDamage s) h
  case fieldTimeout => exact Kept.of_next (Kept.ite (fun _ => kept_timeOut s) fun _ => Kept.refl s) h
  case fieldFrameDiscarded f => exact Kept.of_next (kept_discardedFrame f s) h
  case rollChainedResponse f => exact Kept.of_next (kept_rollResponse f s) h
  case rollDamagedResponse bytes => exact kept_rollDamaged bytes s t h
  case rollEnd => exact Kept.of_next (Kept.ite (fun _ => kept_finishRoll s) fun _ => Kept.refl s) h
  case codeEntryTimeout => exact Kept.of_next (kept_codeEntryTimeout s) h
  case armedTimeout n => exact Kept.of_next (kept_armedTimeout n s) h
  case sessionIdleTimeout => exact Kept.of_next (kept_sessionIdleTimeout s) h
  case settleTimeout n => exact Kept.of_next (kept_settleTimeout n s) h
  case haltTimeout n => exact Kept.of_next (kept_haltTimeout n s) h
  case tempStale n => exact Kept.of_next (Kept.ite (fun _ => kept_tempExpiry n s) fun _ => Kept.refl s) h
  case shotTimeout n k => exact Kept.of_next (Kept.ite (fun _ => kept_shotExpiry n k s) fun _ => Kept.refl s) h
  case reportAgeExpiry => exact Kept.of_next (Kept.ite (fun _ => kept_reportExpiry s) fun _ => Kept.refl s) h
  case deadmanWarning => exact Kept.of_next (Kept.ite (fun _ => kept_warnDeadman s) fun _ => Kept.refl s) h
  case deadmanExpiry => exact Kept.of_next (Kept.ite (fun _ => kept_expireDeadman s) fun _ => Kept.refl s) h
  case notePageWrite => exact Kept.of_next (kept_writeNextPage s) h

/-! #### The step (log 1) -/

theorem hear_port (u : Upstream) (now : Ms) (x : Byte) :
    (u.hear now x).outgoing = u.outgoing ∧ (u.hear now x).gap = u.gap := by
  unfold Upstream.hear
  split <;> exact ⟨rfl, rfl⟩

theorem deliver_port (u : Upstream) (now : Ms) :
    (u.deliver now).outgoing = u.outgoing ∧ (u.deliver now).gap = u.gap := by
  unfold Upstream.deliver
  dsimp only
  split
  · exact ⟨rfl, rfl⟩
  · exact hear_port u now _

theorem kept_elapse (s : State) : Kept fr s (elapse s) := by
  unfold elapse
  obtain ⟨ho, hg⟩ := deliver_port s.up.advance s.clock.advance.ms
  exact (((kept_modClock s _).trans (kept_modUp_port _ _ ho hg)).trans (kept_modField _ _)).trans
    (kept_modNotes _ _ rfl rfl)

theorem kept_idle (s : State) : Kept fr s (idle s) :=
  (kept_elapse s).trans (Kept.quiet rfl rfl)

/-- The banks that may not be written: the active one and the captured ones (R153). -/
def State.bankInUse (s : State) (bank : Bank) : Prop := s.banks.active = bank ∨ 0 < s.banks.count bank

/-- What a step that is not a reset changes is a chain of moves. -/
theorem step_kept_of_not_reset (s t : State) (hp : s.pending.head? ≠ some .powerOnReset)
    (hr : s.pending.head? ≠ some .resetInput) (h : step s = .next t) : Kept s.bankInUse s t := by
  unfold step at h
  split at h
  · exact Host.Outcome.next.inj h ▸ kept_idle s
  next c rest heq =>
    rw [heq, List.head?_cons] at hp hr
    have hrest : Kept s.bankInUse s { s with pending := rest } := Kept.quiet rfl rfl
    exact hrest.trans (exec_kept c _ t (fun he => hp (by rw [he])) (fun he => hr (by rw [he])) (fun _ hx => hx) h)

/-- A step is a reset, or what it changes is a chain of moves. -/
theorem step_kept (s t : State) (h : step s = .next t) :
    (∃ freeCount pending, t = { State.reset with freeCount := freeCount, pending := pending }) ∨
      Kept s.bankInUse s t := by
  by_cases hp : s.pending.head? = some .powerOnReset
  · obtain ⟨rest, hrest⟩ := List.head?_eq_some_iff.1 hp
    rw [step, hrest] at h
    exact .inl ⟨_, _, (Host.Outcome.next.inj h).symm⟩
  · by_cases hr : s.pending.head? = some .resetInput
    · obtain ⟨rest, hrest⟩ := List.head?_eq_some_iff.1 hr
      rw [step, hrest] at h
      exact .inl ⟨_, _, (Host.Outcome.next.inj h).symm⟩
    · exact .inr (step_kept_of_not_reset s t hp hr h)

end
end Sys2Proof.Machine
end

section
/-! ### The invariants (R24, R31, R47, R121, R152, R153, R169, R172, R185, R196) -/

namespace Sys2Proof.Machine

/-! #### What every move keeps, a step keeps -/

theorem Chain.keeps {fr : Bank → Prop} {s t : State} {P : View → Prop} (hP : ∀ v w, Move fr v w → P v → P w)
    (h : Chain fr s t) (hs : P s.view) : P t.view :=
  h.head_induction_on (motive := fun v _ => P v → P t.view) id (fun hm _ ih hv => ih (hP _ _ hm hv)) hs

/-- A property of the view that reset has and every move keeps, every step keeps. -/
theorem step_keeps {P : View → Prop} (hreset : P State.reset.view) (hP : ∀ fr v w, Move fr v w → P v → P w)
    {s t : State} (hs : P s.view) (h : step s = .next t) : P t.view := by
  rcases step_kept s t h with ⟨freeCount, pending, rfl⟩ | hk
  · exact hreset
  · exact hk.chain.keeps (hP _) hs

/-! #### The permit store (R24, R31) -/

theorem Move.keeps_store {fr : Bank → Prop} {v w : View} (h : Move fr v w) (hv : v.store.ok) : w.store.ok := by
  cases h with
  | store x hx => exact hx hv
  | restart _ =>
    obtain ⟨hcount, hcards, hpermits, _, _, _⟩ := hv
    exact ⟨hcount, hcards, hpermits, by simp, by simp, by simp⟩
  | _ => exact hv

/-! #### The valves (R47) -/

/-- Every arm of the view keeps its valve within R47. -/
def View.valvesOk (v : View) : Prop := ∀ n, (v.arm n).ok

/-- One arm of a view replaced: R47 holds if it holds of the new record. -/
theorem View.valvesOk_update {v : View} (hv : v.valvesOk) (n : ArmId) {a : ArmView} (ha : a.ok) (m : ArmId) :
    (Function.update v.arm n a m).ok := by
  rw [Function.update_apply]
  split
  · exact ha
  · exact hv m

theorem ArmView.closed_of_not_moving {a : ArmView} (h : a.ok) (hs : a.state.isMoving = false) : a.commanded = .closed := by
  by_contra hne
  exact absurd (h hne) (by simp [hs])

theorem ArmView.ok_of_closed {a : ArmView} (h : a.commanded = .closed) : a.ok := fun hne => absurd h hne

theorem Move.keeps_valves {fr : Bank → Prop} {v w : View} (h : Move fr v w) (hv : v.valvesOk) : w.valvesOk := by
  cases h with
  | arms g hg => exact fun n => (hg n).ok (hv n)
  | take n k _ hi _ =>
    have hc : (v.arm n).commanded = .closed := ArmView.closed_of_not_moving (hv n) (by rw [hi]; rfl)
    exact View.valvesOk_update hv n (ArmView.ok_of_closed hc)
  | giveBack n st ha _ =>
    have hc : (v.arm n).commanded = .closed := ArmView.closed_of_not_moving (hv n) (by rw [ha]; rfl)
    exact View.valvesOk_update hv n (ArmView.ok_of_closed hc)
  | start n p _ => exact View.valvesOk_update hv n fun _ => rfl
  | finish n st fin _ _ hc _ _ => exact View.valvesOk_update hv n (ArmView.ok_of_closed (hc (hv n)))
  | restart _ => exact fun _ => ArmView.ok_of_closed rfl
  | _ => exact hv

/-! #### The bounds of the lines and the command queue (R126, R165, R169, R172, R174, R185, R196) -/

/-- The counters stay within 16 bits (R196). -/
def Counters.ok (c : Counters) : Prop :=
  c.upstreamCrc ≤ 65535 ∧ c.upstreamFraming ≤ 65535 ∧ c.ignored ≤ 65535 ∧ c.fieldTimeouts ≤ 65535 ∧
  c.fieldCrc ≤ 65535 ∧ c.implausible ≤ 65535 ∧ c.injector ≤ 65535 ∧ c.lateScans ≤ 65535

theorem saturate16_le (x k : Nat) : saturate16 x k ≤ 65535 := Nat.min_le_right _ _

theorem counters_ok_reset : ({} : Counters).ok := by
  unfold Counters.ok
  decide

theorem Counters.ok_raise {c : Counters} (h : c.ok) (name : CounterId) (k : Nat) : (c.raise name k).ok := by
  obtain ⟨h1, h2, h3, h4, h5, h6, h7, h8⟩ := h
  have hs := saturate16_le
  cases name
  case upstreamCrc => exact ⟨hs _ _, h2, h3, h4, h5, h6, h7, h8⟩
  case upstreamFraming => exact ⟨h1, hs _ _, h3, h4, h5, h6, h7, h8⟩
  case ignored => exact ⟨h1, h2, hs _ _, h4, h5, h6, h7, h8⟩
  case fieldTimeouts => exact ⟨h1, h2, h3, hs _ _, h5, h6, h7, h8⟩
  case fieldCrc => exact ⟨h1, h2, h3, h4, hs _ _, h6, h7, h8⟩
  case implausible => exact ⟨h1, h2, h3, h4, h5, hs _ _, h7, h8⟩
  case injector => exact ⟨h1, h2, h3, h4, h5, h6, hs _ _, h8⟩
  case lateScans => exact ⟨h1, h2, h3, h4, h5, h6, h7, hs _ _⟩

/-- The bounds of the lines, the counters and the tables, of a view. -/
structure View.linesOk (v : View) : Prop where
  answers  : v.answers ≤ 8
  relayed  : v.relayed ≤ 4
  gap      : 100 ≤ v.gap ∧ v.gap ≤ 2000
  sizes    : v.sizes = (64, 32, 24)
  slots    : v.slots.length = 16
  counters : v.counters.ok

theorem view_linesOk (s : State) : s.view.linesOk ↔ s.linesOk := by
  constructor
  · rintro ⟨ha, hr, ⟨hlow, hhigh⟩, hsizes, hslots, hcounters⟩
    obtain ⟨hnodes, htables⟩ := Prod.mk.inj hsizes
    obtain ⟨hscans, hacceptance⟩ := Prod.mk.inj htables
    exact ⟨ha, hr, hlow, hhigh, hnodes, hscans, hacceptance, by simpa [State.view] using hslots, hcounters⟩
  · rintro ⟨ha, hr, hlow, hhigh, hnodes, hscans, hacceptance, hslots, hcounters⟩
    exact ⟨ha, hr, ⟨hlow, hhigh⟩, by simp [State.view, hnodes, hscans, hacceptance], by simpa [State.view] using hslots,
      hcounters⟩

theorem Move.keeps_lines {fr : Bank → Prop} {v w : View} (h : Move fr v w) (hv : v.linesOk) : w.linesOk := by
  cases h with
  | counted c k => exact { hv with counters := Counters.ok_raise hv.counters c k }
  | answers k hk => exact { hv with answers := hk.elim (fun hle => hle.trans hv.answers) id }
  | relayed k hk => exact { hv with relayed := hk.elim (fun hle => hle.trans hv.relayed) id }
  | gap k hk => exact { hv with gap := hk }
  | slots l i hl _ => exact { hv with slots := hl.trans hv.slots }
  | restart _ =>
    exact { hv with
      answers := Nat.zero_le _, relayed := Nat.zero_le _
      sizes := by rw [hv.sizes], counters := counters_ok_reset }
  | _ => exact { hv with }

theorem Move.keeps_queue {fr : Bank → Prop} {v w : View} (h : Move fr v w) (hv : Cmd.queueOk v.queue) :
    Cmd.queueOk w.queue := by
  cases h with
  | queue q hq => exact hq hv
  | restart _ => exact ⟨fun _ => Nat.zero_le _, Nat.zero_le _⟩
  | _ => exact hv

/-! #### The banks (R147, R149, R153) -/

theorem Banks.tables_setTables (b : Banks) (x y : Bank) (t : BankTables) :
    (b.setTables x t).tables y = if y = x then t else b.tables y := by
  cases x <;> cases y <;> rfl

theorem Banks.count_setTables (b : Banks) (x y : Bank) (t : BankTables) : (b.setTables x t).count y = b.count y := by
  cases x <;> cases y <;> rfl

theorem Banks.tables_counted (b : Banks) (x y : Bank) : (b.counted x).tables y = b.tables y := by
  cases x <;> cases y <;> rfl

theorem Banks.tables_uncounted (b : Banks) (x : Option Bank) (y : Bank) : (b.uncounted x).tables y = b.tables y := by
  cases y <;> rcases x with _ | _ | _ <;> rfl

theorem Banks.count_counted (b : Banks) (x y : Bank) : (b.counted x).count y = b.count y + if y = x then 1 else 0 := by
  cases x <;> cases y <;> rfl

theorem Banks.count_uncounted (b : Banks) (x : Option Bank) (y : Bank) :
    (b.uncounted x).count y = b.count y - if x = some y then 1 else 0 := by
  cases y <;> rcases x with _ | _ | _ <;> rfl

/-- Both banks of a view are self-consistent (R147, R149). -/
def View.banksOk (v : View) : Prop := ∀ bank, (v.banks.tables bank).ok

theorem view_banksOk (s : State) : s.view.banksOk ↔ s.banksOk :=
  ⟨fun h => ⟨h .a, h .b⟩, fun h bank => by cases bank; exacts [h.1, h.2]⟩

theorem Move.keeps_banks {fr : Bank → Prop} {v w : View} (h : Move fr v w) (hv : v.banksOk) : w.banksOk := by
  cases h with
  | tables x y _ hy =>
    intro bank
    rw [Banks.tables_setTables]
    split
    · exact hy (hv x)
    · exact hv bank
  | take _ _ _ _ _ => exact fun bank => (Banks.tables_counted v.banks _ bank).symm ▸ hv bank
  | giveBack _ _ _ _ => exact fun bank => (Banks.tables_uncounted v.banks _ bank).symm ▸ hv bank
  | finish _ _ _ _ _ _ _ _ => exact fun bank => (Banks.tables_uncounted v.banks _ bank).symm ▸ hv bank
  | active _ => exact fun bank => by cases bank; exacts [hv .a, hv .b]
  | restart _ => exact fun bank => by cases bank; exacts [hv .a, hv .b]
  | _ => exact hv

/-- No move writes a frozen bank (R153). -/
theorem Move.keeps_frozen {fr : Bank → Prop} {bank : Bank} (hb : fr bank) {v w : View} (h : Move fr v w) :
    w.banks.tables bank = v.banks.tables bank := by
  cases h with
  | tables x y hf _ =>
    rw [Banks.tables_setTables, if_neg]
    rintro rfl
    exact hf hb
  | take _ _ _ _ _ => exact Banks.tables_counted _ _ bank
  | giveBack _ _ _ _ => exact Banks.tables_uncounted _ _ bank
  | finish _ _ _ _ _ _ _ _ => exact Banks.tables_uncounted _ _ bank
  | active _ => cases bank <;> rfl
  | restart _ => cases bank <;> rfl
  | _ => rfl

/-! #### The captures (R2, R44, R130, R152) -/

/-- A compartment of a view counts as captured on a bank (R152). -/
def CompView.capturedOn (bank : Bank) (c : CompView) : Bool := c.state.isCaptured && c.bank == some bank

/-- The state of the compartment that a held arm holds. -/
def ArmView.compState (a : ArmView) : CompState := if a.state = .armed then .armed else .active

/-- What `State.capturesOk` says, of a view. -/
structure View.capturesOk (v : View) : Prop where
  counts  : ∀ bank, v.banks.count bank = v.comps.countP (CompView.capturedOn bank)
  numbers : (v.comps.map fun c => c.number).Nodup
  held    : ∀ n, (v.arm n).state.isHeld = true →
    v.phase = .opened ∧
    ∃ c ∈ v.comps, (v.arm n).held = some c.number ∧ c.arm = some n ∧ c.bank.isSome = true ∧
      c.state = (v.arm n).compState
  holder  : ∀ c ∈ v.comps, c.state.isCaptured = true →
    ∃ n, c.arm = some n ∧ (v.arm n).state.isHeld = true ∧ (v.arm n).held = some c.number
  compile : v.compiling → v.phase = .ending

theorem compiling_isSome_iff (s : State) : s.compiling.isSome = true ↔ s.view.compiling := by
  constructor
  · intro h
    obtain ⟨⟨i, x⟩, hx⟩ := Option.isSome_iff_exists.1 h
    exact (view_compiling s i x hx).1
  · rintro ⟨i, hi, hslot⟩
    have hheld : s.notes.held = some i := hi
    obtain ⟨x, hx, hu⟩ : ∃ x, s.notes.slots[i]? = some x ∧ x.state = .updating := by
      simpa [State.view] using hslot
    simp [State.compiling, hheld, hx, hu]

theorem view_capturesOk (s : State) : s.view.capturesOk ↔ s.capturesOk := by
  have hcount : ∀ bank, s.view.comps.countP (CompView.capturedOn bank) =
      (s.session.comps.filter fun c => c.state.isCaptured && c.bank == some bank).length := fun bank => by
    rw [← List.countP_eq_length_filter]
    exact List.countP_map
  have hnumbers : (s.view.comps.map fun c => c.number) = s.session.comps.map fun c => c.number := List.map_map
  have hmem : ∀ {p : CompView → Prop}, (∀ c ∈ s.view.comps, p c) ↔ ∀ c ∈ s.session.comps, p c.view :=
    List.forall_mem_map
  have hex : ∀ {p : CompView → Prop}, (∃ c ∈ s.view.comps, p c) ↔ ∃ c ∈ s.session.comps, p c.view := by
    simp [State.view]
  constructor
  · rintro ⟨hc, hn, hheld, hholder, hcomp⟩
    exact ⟨fun bank => (hc bank).trans (hcount bank), hnumbers ▸ hn, fun n h => ⟨(hheld n h).1, hex.1 (hheld n h).2⟩,
      hmem.1 hholder, fun h => hcomp ((compiling_isSome_iff s).1 h)⟩
  · rintro ⟨hc, hn, hheld, hholder, hcomp⟩
    exact ⟨fun bank => (hc bank).trans (hcount bank).symm, hnumbers.symm ▸ hn,
      fun n h => ⟨(hheld n h).1, hex.2 (hheld n h).2⟩, hmem.2 hholder, fun h => hcomp ((compiling_isSome_iff s).2 h)⟩

/-- The compartments of a view, those of one number changed. -/
def View.mapNumber (v : View) (k : Nat) (f : CompView → CompView) : List CompView :=
  v.comps.map fun c => if c.number = k then f c else c

section Captures
variable {v : View}

theorem isCaptured_of_held_state {c : CompView} {a : ArmView} (h : c.state = a.compState) :
    c.state.isCaptured = true := by
  rw [h, ArmView.compState]
  split <;> rfl

/-- Where the numbers differ, the compartment of a number is unique. -/
theorem eq_of_number_eq {l : List CompView} (h : (l.map fun c => c.number).Nodup) {c d : CompView} (hc : c ∈ l)
    (hd : d ∈ l) (hcd : c.number = d.number) : c = d := List.inj_on_of_nodup_map h hc hd hcd

/-- A change of the one compartment of a number changes a count by that compartment. -/
theorem countP_mapNumber (p : CompView → Bool) (f : CompView → CompView) {l : List CompView}
    (h : (l.map fun c => c.number).Nodup) {c : CompView} (hc : c ∈ l) :
    (l.map fun x => if x.number = c.number then f x else x).countP p + (p c).toNat = l.countP p + (p (f c)).toNat := by
  induction l with
  | nil => exact absurd hc (List.not_mem_nil)
  | cons x rest ih =>
    obtain ⟨hx, hrest⟩ := List.nodup_cons.1 h
    rcases List.mem_cons.1 hc with rfl | hc
    · have hsame : (rest.map fun y => if y.number = c.number then f y else y) = rest := by
        refine (List.map_congr_left fun y hy => if_neg fun he => hx ?_).trans (List.map_id rest)
        exact List.mem_map.2 ⟨y, hy, he⟩
      rw [List.map_cons, if_pos rfl, hsame, List.countP_cons, List.countP_cons]
      cases p c <;> cases p (f c) <;> simp
    · have hne : x.number ≠ c.number := fun he => hx (List.mem_map.2 ⟨c, hc, he.symm⟩)
      have := ih hrest hc
      simp only [List.map_cons, if_neg hne, List.countP_cons]
      omega

/-- The compartment that a held arm holds, and no other captured compartment names that arm. -/
theorem View.capturesOk.held_comp (hv : v.capturesOk) {n : ArmId} (h : (v.arm n).state.isHeld = true) :
    v.phase = .opened ∧
    ∃ c ∈ v.comps, v.heldComp n = some c ∧ (v.arm n).held = some c.number ∧ c.arm = some n ∧ c.bank.isSome = true ∧
      c.state = (v.arm n).compState ∧
      ∀ x ∈ v.comps, x.state.isCaptured = true → x.arm = some n → x = c := by
  obtain ⟨hopen, c, hc, hheld, harm, hbank, hstate⟩ := hv.held n h
  refine ⟨hopen, c, hc, ?_, hheld, harm, hbank, hstate, fun x hx hcap hxn => ?_⟩
  · unfold View.heldComp
    rw [hheld, Option.bind_some]
    obtain ⟨d, hd⟩ := Option.isSome_iff_exists.1 (List.find?_isSome (p := fun d : CompView => d.number == c.number).2
      ⟨c, hc, beq_self_eq_true _⟩)
    have hnum : d.number = c.number := beq_iff_eq.1 (List.find?_some (p := fun d : CompView => d.number == c.number) hd)
    rw [hd, eq_of_number_eq hv.numbers (List.mem_of_find?_eq_some hd) hc hnum]
  · obtain ⟨m, hm, -, hmheld⟩ := hv.holder x hx hcap
    obtain rfl := Option.some.inj (hm.symm.trans hxn)
    exact eq_of_number_eq hv.numbers hx hc (Option.some.inj (hmheld.symm.trans hheld))

/-- No arm is held outside OPEN (R2). -/
theorem View.capturesOk.not_held (hv : v.capturesOk) (h : v.phase ≠ .opened) (n : ArmId) :
    (v.arm n).state.isHeld = false :=
  Bool.eq_false_iff.2 fun hn => h (hv.held n hn).1

/-- Without a held arm no compartment is captured. -/
theorem View.capturesOk.not_captured (hv : v.capturesOk) (h : ∀ n, (v.arm n).state.isHeld = false) :
    ∀ c ∈ v.comps, c.state.isCaptured = false := by
  intro c hc
  refine Bool.eq_false_iff.2 fun hcap => ?_
  obtain ⟨n, -, hn, -⟩ := hv.holder c hc hcap
  exact Bool.false_ne_true ((h n).symm.trans hn)

theorem countP_capturedOn_eq_zero {l : List CompView} (h : ∀ c ∈ l, c.state.isCaptured = false) (bank : Bank) :
    l.countP (CompView.capturedOn bank) = 0 :=
  List.countP_eq_zero.2 fun c hc => by simp [CompView.capturedOn, h c hc]

theorem View.capturesOk.count_eq_zero (hv : v.capturesOk) (h : ∀ n, (v.arm n).state.isHeld = false) (bank : Bank) :
    v.banks.count bank = 0 :=
  (hv.counts bank).trans (countP_capturedOn_eq_zero (hv.not_captured h) bank)

/-- A view whose arms are not held and whose compartments are not captured. -/
theorem View.capturesOk.of_unheld (hcount : ∀ bank, v.banks.count bank = 0)
    (hn : (v.comps.map fun c => c.number).Nodup) (harm : ∀ n, (v.arm n).state.isHeld = false)
    (hcap : ∀ c ∈ v.comps, c.state.isCaptured = false) (hcomp : v.compiling → v.phase = .ending) : v.capturesOk where
  counts bank := (hcount bank).trans (countP_capturedOn_eq_zero hcap bank).symm
  numbers := hn
  held n h := absurd (harm n) (by simp [h])
  holder c hc h := absurd (hcap c hc) (by simp [h])
  compile := hcomp

theorem mapNumber_numbers {l : List CompView} {c : CompView} {f : CompView → CompView}
    (hl : (l.map fun x => x.number).Nodup) (hc : c ∈ l) (hf : (f c).number = c.number) :
    ((l.map fun x => if x.number = c.number then f x else x).map fun x => x.number) = l.map fun x => x.number := by
  rw [List.map_map]
  refine List.map_congr_left fun x hx => ?_
  rw [Function.comp_apply]
  split
  next h => rw [eq_of_number_eq hl hx hc h, hf]
  next => rfl

/-- One arm and one compartment change together, and the counts with them. -/
theorem View.capturesOk.update (hv : v.capturesOk) (hopen : v.phase = .opened) {c : CompView} (hc : c ∈ v.comps)
    (n : ArmId) (a : ArmView) (f : CompView → CompView) (b : Banks) (hnum : (f c).number = c.number)
    (hcount : ∀ bank, b.count bank + (c.capturedOn bank).toNat = v.banks.count bank + ((f c).capturedOn bank).toNat)
    (hself : a.state.isHeld = true → a.held = some c.number ∧ (f c).arm = some n ∧ (f c).bank.isSome = true ∧
      (f c).state = a.compState)
    (hback : (f c).state.isCaptured = true → a.state.isHeld = true)
    (hmine : ∀ x ∈ v.comps, x.state.isCaptured = true → x.arm = some n → x = c)
    (hyours : c.state.isCaptured = true → c.arm = some n) :
    View.capturesOk { v with
      arm := Function.update v.arm n a
      comps := v.comps.map fun x => if x.number = c.number then f x else x
      banks := b } where
  counts bank := by
    have := countP_mapNumber (CompView.capturedOn bank) f hv.numbers hc
    have := hcount bank
    have := hv.counts bank
    dsimp only
    omega
  numbers := (mapNumber_numbers hv.numbers hc hnum).symm ▸ hv.numbers
  held m hm := by
    refine ⟨hopen, ?_⟩
    dsimp only at hm ⊢
    by_cases hmn : m = n
    · subst hmn
      rw [Function.update_self] at hm ⊢
      obtain ⟨hheld, hfields⟩ := hself hm
      exact ⟨f c, List.mem_map.2 ⟨c, hc, if_pos rfl⟩, hnum.symm ▸ hheld, hfields⟩
    · rw [Function.update_of_ne hmn] at hm ⊢
      obtain ⟨-, d, hd, hheld, harm, hbank, hstate⟩ := hv.held m hm
      have hdc : d.number ≠ c.number := fun he => by
        obtain rfl := eq_of_number_eq hv.numbers hd hc he
        exact hmn (Option.some.inj (harm.symm.trans (hyours (isCaptured_of_held_state hstate))))
      exact ⟨d, List.mem_map.2 ⟨d, hd, if_neg hdc⟩, hheld, harm, hbank, hstate⟩
  holder x hx hcap := by
    dsimp only at hx ⊢
    obtain ⟨d, hd, rfl⟩ := List.mem_map.1 hx
    split at hcap
    next h =>
      obtain rfl := eq_of_number_eq hv.numbers hd hc h
      have hheld := hback hcap
      rw [if_pos rfl]
      exact ⟨n, (hself hheld).2.1, by rwa [Function.update_self], by rw [Function.update_self, hnum]; exact (hself hheld).1⟩
    next h =>
      rw [if_neg h]
      obtain ⟨m, hm, hheld, hnumber⟩ := hv.holder d hd hcap
      have hmn : m ≠ n := fun he => h (by rw [hmine d hd hcap (he ▸ hm)])
      exact ⟨m, hm, by rwa [Function.update_of_ne hmn], by rwa [Function.update_of_ne hmn]⟩
  compile := hv.compile

theorem capturedOn_of_captured {c : CompView} (h : c.state.isCaptured = true) (bank : Bank) :
    c.capturedOn bank = (c.bank == some bank) := by
  rw [CompView.capturedOn, h, Bool.true_and]

theorem capturedOn_of_not_captured {c : CompView} (h : c.state.isCaptured = false) (bank : Bank) :
    c.capturedOn bank = false := by
  rw [CompView.capturedOn, h, Bool.false_and]

/-- A captured compartment that is captured no longer leaves its bank's count one less. -/
theorem View.capturesOk.count_uncounted (hv : v.capturesOk) {c d : CompView} (hc : c ∈ v.comps)
    (hcap : c.state.isCaptured = true) (hd : d.state.isCaptured = false) (bank : Bank) :
    (v.banks.uncounted c.bank).count bank + (c.capturedOn bank).toNat =
      v.banks.count bank + (d.capturedOn bank).toNat := by
  rw [Banks.count_uncounted, capturedOn_of_not_captured hd, capturedOn_of_captured hcap]
  by_cases hb : c.bank = some bank
  · have hpos : 0 < v.banks.count bank := by
      rw [hv.counts bank, List.countP_pos_iff]
      exact ⟨c, hc, by rw [capturedOn_of_captured hcap]; exact beq_iff_eq.2 hb⟩
    simp [hb]
    omega
  · simp [hb]


theorem View.mapHeld_of_held {n : ArmId} {k : Nat} (h : (v.arm n).held = some k) (f : CompView → CompView) :
    v.mapHeld n f = v.comps.map fun c => if c.number = k then f c else c := by
  rw [View.mapHeld, h]

theorem isHeld_of_isLoading {st : ArmState} (h : st.isLoading = true) : st.isHeld = true := by
  revert h
  cases st <;> decide

theorem isCaptured_of_isFinished {st : CompState} (h : st.isFinished = true) : st.isCaptured = false := by
  revert h
  cases st <;> decide

/-- A PENDING compartment becomes NOT LOADED. -/
def CompView.orNotLoaded (c : CompView) : CompView := if c.state = .pending then { c with state := .notLoaded } else c

theorem CompView.orNotLoaded_of_captured {c : CompView} (h : c.state.isCaptured = true) : c.orNotLoaded = c :=
  if_neg fun hp => by rw [hp] at h; exact Bool.false_ne_true h

theorem CompView.orNotLoaded_isCaptured (c : CompView) : c.orNotLoaded.state.isCaptured = c.state.isCaptured := by
  unfold CompView.orNotLoaded
  split
  next h => rw [h]; rfl
  next => rfl

theorem CompView.orNotLoaded_fields (c : CompView) : c.orNotLoaded.number = c.number ∧ c.orNotLoaded.bank = c.bank := by
  unfold CompView.orNotLoaded
  split <;> exact ⟨rfl, rfl⟩

theorem View.capturesOk.notLoaded (hv : v.capturesOk) :
    View.capturesOk { v with comps := v.comps.map CompView.orNotLoaded } where
  counts bank := by
    rw [hv.counts bank, List.countP_map]
    refine List.countP_congr fun c _ => ?_
    rw [Function.comp_apply, CompView.capturedOn, CompView.capturedOn, c.orNotLoaded_isCaptured, c.orNotLoaded_fields.2]
  numbers := by
    rw [List.map_map, show (fun c : CompView => c.number) ∘ CompView.orNotLoaded = fun c => c.number from
      funext fun c => c.orNotLoaded_fields.1]
    exact hv.numbers
  held n hn := by
    obtain ⟨hopen, c, hc, hheld, harm, hbank, hstate⟩ := hv.held n hn
    refine ⟨hopen, c, List.mem_map.2 ⟨c, hc, ?_⟩, hheld, harm, hbank, hstate⟩
    exact CompView.orNotLoaded_of_captured (isCaptured_of_held_state hstate)
  holder c hc hcap := by
    obtain ⟨d, hd, rfl⟩ := List.mem_map.1 hc
    rw [CompView.orNotLoaded_isCaptured] at hcap
    rw [CompView.orNotLoaded_of_captured hcap]
    exact hv.holder d hd hcap
  compile := hv.compile

theorem Move.keeps_captures {fr : Bank → Prop} {w : View} (h : Move fr v w) (hs : v.store.ok) (hv : v.capturesOk) :
    w.capturesOk := by
  cases h with
  | slots l i _ hc => exact { hv with compile := fun h => (hc h).elim id hv.compile }
  | active bank => exact { hv with counts := fun x => by rw [← hv.counts x]; cases x <;> rfl }
  | tables bank t _ _ => exact { hv with counts := fun x => (Banks.count_setTables _ _ _ _).trans (hv.counts x) }
  | arms g hg =>
    refine { hv with held := fun n hn => ?_, holder := fun c hc hcap => ?_ }
    · rw [(hg n).isHeld] at hn
      obtain ⟨hopen, c, hc, hheld, harm, hbank, hstate⟩ := hv.held n hn
      refine ⟨hopen, c, hc, (hg n).held.trans hheld, harm, hbank, ?_⟩
      exact hstate.trans (if_congr (hg n).armed rfl rfl).symm
    · obtain ⟨n, hn, hheld, hnumber⟩ := hv.holder c hc hcap
      exact ⟨n, hn, (hg n).isHeld.trans hheld, (hg n).held.trans hnumber⟩
  | take n k ho hi hc =>
    obtain ⟨c, hc, rfl, hpending⟩ := hc
    have hfree : c.state.isCaptured = false := by rw [hpending]; rfl
    refine hv.update ho hc n _ _ _ rfl (fun bank => ?_) (fun _ => ⟨rfl, rfl, rfl, rfl⟩) (fun _ => rfl)
      (fun x hx hcap hxn => ?_) fun hcap => absurd hfree (by simp [hcap])
    · rw [Banks.count_counted, capturedOn_of_not_captured hfree, capturedOn_of_captured rfl]
      by_cases hb : bank = v.banks.active
      · simp [hb]
      · simp [hb, Ne.symm hb]
    · obtain ⟨m, hm, hheld, -⟩ := hv.holder x hx hcap
      obtain rfl := Option.some.inj (hm.symm.trans hxn)
      rw [hi] at hheld
      exact absurd hheld (by decide)
  | giveBack n st ha hst =>
    obtain ⟨hopen, c, hc, hcomp, hheld, harm, -, hstate, hmine⟩ := hv.held_comp (n := n) (by rw [ha]; rfl)
    have hcap := isCaptured_of_held_state hstate
    have hnot : st.isHeld = false := by rcases hst with rfl | rfl <;> rfl
    rw [View.mapHeld_of_held hheld, hcomp]
    exact hv.update hopen hc n _ _ _ rfl (hv.count_uncounted hc hcap rfl)
      (fun h => absurd hnot (by rw [show st.isHeld = true from h]; decide)) nofun hmine
      fun _ => harm
  | start n p ha =>
    obtain ⟨hopen, c, hc, hcomp, hheld, harm, hbank, hstate, hmine⟩ := hv.held_comp (n := n) (by rw [ha]; rfl)
    have hcap := isCaptured_of_held_state hstate
    rw [View.mapHeld_of_held hheld]
    exact hv.update hopen hc n _ _ _ rfl
      (fun bank => by rw [capturedOn_of_captured hcap, capturedOn_of_captured rfl])
      (fun _ => ⟨hheld, harm, hbank, rfl⟩) (fun _ => rfl) hmine fun _ => harm
  | finish n st fin hh hl _ hst hfin =>
    have hheldn := isHeld_of_isLoading hl
    obtain ⟨hopen, c, hc, hcomp, hheld, harm, -, hstate, hmine⟩ := hv.held_comp hheldn
    have hcap := isCaptured_of_held_state hstate
    have hnot : st.isHeld = false := by rcases hst with rfl | rfl <;> rfl
    have hfree := isCaptured_of_isFinished hfin
    rw [View.mapHeld_of_held hheld, hcomp]
    exact hv.update hopen hc n _ _ _ rfl (hv.count_uncounted hc hcap hfree)
      (fun h => absurd hnot (by rw [show st.isHeld = true from h]; decide))
      (fun h => absurd hfree (by rw [show fin.isCaptured = true from h]; decide)) hmine fun _ => harm
  | notLoaded => exact hv.notLoaded
  | codeEntry h =>
    have hunheld := hv.not_held (by rw [h]; decide)
    exact .of_unheld (hv.count_eq_zero hunheld) hv.numbers hunheld (hv.not_captured hunheld)
      fun hc => absurd (hv.compile hc) (by rw [h]; decide)
  | opened cs hp hn hcs =>
    have hne : v.phase ≠ .opened ∧ v.phase ≠ .ending := by rcases hp with h | h <;> rw [h] <;> decide
    have hunheld := hv.not_held hne.1
    exact .of_unheld (hv.count_eq_zero hunheld) (hn hs) hunheld (fun c hc => by rw [hcs c hc]; rfl)
      fun hc => absurd (hv.compile hc) hne.2
  | ending h =>
    have hunheld : ∀ n, (v.arm n).state.isHeld = false := fun n => Bool.eq_false_iff.2 fun hn => by
      obtain ⟨-, c, -, hcomp, -⟩ := hv.held_comp hn
      exact absurd (hcomp.symm.trans (h n hn)) (by simp)
    exact .of_unheld (hv.count_eq_zero hunheld) hv.numbers hunheld (hv.not_captured hunheld) fun _ => rfl
  | vacate h =>
    have hne : v.phase ≠ .opened := h.elim id fun hc => by rw [hv.compile hc]; decide
    have hunheld := hv.not_held hne
    exact .of_unheld (hv.count_eq_zero hunheld) List.nodup_nil hunheld (fun c hc => absurd hc List.not_mem_nil)
      fun hc => absurd hc (View.not_compiling_of_held_none rfl)
  | restart h =>
    have hunheld := hv.not_held (by rw [h]; decide)
    exact .of_unheld (fun bank => by cases bank <;> rfl) hv.numbers (fun _ => rfl) (hv.not_captured hunheld) hv.compile
  | _ => exact { hv with }

end Captures

/-! #### The obligations -/

theorem reset_store_ok : State.reset.store.ok := by
  refine ⟨?_, ?_, ?_, ?_, ?_, ?_⟩ <;> simp [State.reset]

theorem reset_valvesOk : State.reset.view.valvesOk := fun n => ArmView.ok_of_closed (by cases n <;> rfl)

theorem reset_linesOk : State.reset.view.linesOk :=
  ⟨by decide, by decide, by decide, rfl, rfl, counters_ok_reset⟩

theorem reset_banksOk : State.reset.view.banksOk := by
  intro bank p hp
  have hnone : ∀ x ∈ (State.reset.view.banks.tables bank).products, x = none := by
    cases bank <;> decide
  exact absurd (hnone _ hp) (by simp)

theorem reset_queueOk : Cmd.queueOk State.reset.view.queue := ⟨fun _ => Nat.zero_le _, Nat.zero_le _⟩

theorem reset_bayPermitOk : State.reset.bayPermitOk := nofun

theorem reset_capturesOk : State.reset.view.capturesOk :=
  .of_unheld (fun bank => by cases bank <;> rfl) List.nodup_nil (fun n => by cases n <;> rfl) nofun
    fun hc => absurd hc (View.not_compiling_of_held_none rfl)

/-- Settles O4, from what each invariant says of the values after reset. -/
theorem resetSatisfiesTheInvariants : Obligations.ResetSatisfiesTheInvariants :=
  ⟨reset_store_ok, reset_valvesOk, reset_bayPermitOk, (view_linesOk _).1 reset_linesOk,
    (view_banksOk _).1 reset_banksOk, reset_queueOk, (view_capturesOk _).1 reset_capturesOk⟩

/-- Settles O5: every move of the part keeps the permit store in order. -/
theorem permitStoreStaysInOrder : Obligations.PermitStoreStaysInOrder := fun _ _ hs h =>
  step_keeps (P := fun v => v.store.ok) reset_store_ok (fun _ _ _ hm hv => hm.keeps_store hv) hs h

/-- Settles O6: every move of the part keeps the valves within R47. -/
theorem openValvesOnlyOnMovingArms : Obligations.OpenValvesOnlyOnMovingArms := fun _ _ hs h =>
  step_keeps (P := View.valvesOk) reset_valvesOk (fun _ _ _ hm hv => hm.keeps_valves hv) hs h

/-- Settles O7: every operation keeps BAY PERMIT within its conditions, deciding it anew where they change. -/
theorem bayPermitOnlyWhileItsConditionsHold : Obligations.BayPermitOnlyWhileItsConditionsHold := by
  intro s t hs h
  rcases step_kept s t h with ⟨freeCount, pending, rfl⟩ | hk
  · exact reset_bayPermitOk
  · exact hk.permit hs

/-- Settles O8: every move of the part keeps the bounds, and the command queue within R169. -/
theorem linesStayWithinTheirBounds : Obligations.LinesStayWithinTheirBounds :=
  ⟨fun s t hs h => (view_linesOk t).1 <|
      step_keeps reset_linesOk (fun _ _ _ hm hv => hm.keeps_lines hv) ((view_linesOk s).2 hs) h,
    fun _ _ hs h =>
      step_keeps (P := fun v => Cmd.queueOk v.queue) reset_queueOk (fun _ _ _ hm hv => hm.keeps_queue hv) hs h⟩

/-- Settles O9: every move of the part keeps the banks self-consistent, and the captures as R152 counts them. -/
theorem banksStaySelfConsistent : Obligations.BanksStaySelfConsistent := by
  refine ⟨fun s t hs h => (view_banksOk t).1 <|
    step_keeps reset_banksOk (fun _ _ _ hm hv => hm.keeps_banks hv) ((view_banksOk s).2 hs) h, ?_⟩
  intro s t hstore hs h
  have hboth := step_keeps (P := fun v => v.store.ok ∧ v.capturesOk) ⟨reset_store_ok, reset_capturesOk⟩
    (fun _ _ _ hm hv => ⟨hm.keeps_store hv.1, hm.keeps_captures hv.1 hv.2⟩) ⟨hstore, (view_capturesOk s).2 hs⟩ h
  exact (view_capturesOk t).1 hboth.2

/-- Settles O10: only the moves of R153 write tables, and those not of a bank in use. -/
theorem activeOrCapturedBankIsNotWritten : Obligations.ActiveOrCapturedBankIsNotWritten := by
  intro s t bank hpower hinput hbank h
  have hk := step_kept_of_not_reset s t hpower hinput h
  exact hk.chain.keeps (P := fun v => v.banks.tables bank = s.banks.tables bank)
    (fun _ _ hm hv => (hm.keeps_frozen hbank).trans hv) rfl

end Sys2Proof.Machine
end

section
/-! ### Rows of the machine and of host frames (10: R182 to R189, R196 to R200)

The step and the resets; how a SET or a QUERY heard whole is answered; and the rows whose whole effect is one small
rule. -/

namespace Sys2Proof.Machine

/-! #### The step and the resets (log 1, R200) -/

/-- Settles O1: a queue that is not empty has a front command. -/
theorem stepRunsFrontCommand : Obligations.StepRunsFrontCommand := by
  intro s c rest h
  rw [step, h]

/-- Settles O3: the state after reset holds the values of the table, one after another. -/
theorem resetLeavesTheTableValues : Obligations.ResetLeavesTheTableValues := by
  refine ⟨fun s => ⟨rfl, rfl⟩, ?_⟩
  have hbanks : ∀ bank : Bank, (∀ c ∈ (State.reset.banks.tables bank).curves, c = none) ∧
      ∀ r ∈ (State.reset.banks.tables bank).recipes, r = ⟨none, none⟩ := by
    intro bank
    cases bank <;> decide
  have harms : ∀ n : ArmId,
      State.reset.config n = {} ∧ State.reset.arm n = {} ∧ State.reset.armState n = .idle ∧
      (State.reset.arm n).anticipation = 0 ∧ (State.reset.arm n).totalizer = 0 ∧ (State.reset.arm n).trip = false ∧
      (State.reset.meter n).baseline = none ∧ (State.reset.meter n).staleDeadline = none ∧
      ∀ k : Slot, State.reset.dose n k = {} := by
    intro n
    cases n <;> exact ⟨rfl, rfl, rfl, rfl, rfl, rfl, rfl, rfl, fun k => by cases k <;> rfl⟩
  have hacceptance : (∀ e ∈ State.reset.acceptance, e.kinds = 0) ∧ State.reset.acceptance.length = 24 := by decide
  have hscans : (∀ e ∈ State.reset.scans, e.enabled = false ∧ e.tag = 0) ∧ State.reset.scans.length = 32 := by decide
  have hnodes : ∀ x ∈ State.reset.nodes, x.score = 0 ∧ x.state = .ok := by decide
  have hslots : (∀ x ∈ State.reset.notes.slots,
      x.state = .free ∧ x.serial = none ∧ x.isNew = false ∧ x.written = 0 ∧ x.header = none ∧ x.pages = []) ∧
      State.reset.notes.slots.length = 16 := by decide
  exact ⟨rfl, rfl, rfl, rfl, rfl, rfl, rfl, rfl, rfl, rfl, rfl, rfl, rfl, rfl, rfl, rfl, rfl, rfl, rfl, hbanks, harms,
    hacceptance.1, hacceptance.2, hscans.1, hscans.2, rfl, rfl, rfl, rfl, rfl, rfl, rfl, rfl, rfl, rfl, rfl, rfl, rfl,
    hnodes, rfl, rfl, rfl, hslots.1, hslots.2, rfl, rfl, rfl, rfl⟩

/-! #### Answers to a SET and a QUERY (R187, R189) -/

section Answers
variable {addr : ObjAddr} {o : Obj} {payload : List Byte} {s t : State}

/-- A SET heard whole, its rule done, is answered DONE from the state that the rule leaves. -/
theorem hostSet_done (h : s.canHear) (hp : payload.length ≤ 48) (ho : objectAt addr = some o)
    (hr : setObject o payload s.heardHost = (t, .done)) (ht : t.up.outgoing.length < 8) :
    hostSet addr payload s = t.answersDone addr := hostSet_reply _ _ s t o _ h hp ho hr ht

/-- A SET heard whole that its rule refuses leaves all but the answer as it was. -/
theorem hostSet_refused {reason : Reason} (h : s.canHear) (hp : payload.length ≤ 48) (ho : objectAt addr = some o)
    (hr : setObject o payload s.heardHost = (s.heardHost, .refused reason)) :
    hostSet addr payload s = s.heardHost.answersRefused 0 addr reason :=
  hostSet_reply _ _ s _ o _ h hp ho hr (heardHost_has_room s h)

/-- A table SET heard whole that is refused after some records (R158, R159). -/
theorem hostSet_refusedAfter {reason : Reason} {written : Nat} (h : s.canHear) (hp : payload.length ≤ 48)
    (ho : objectAt addr = some o) (hr : setObject o payload s.heardHost = (t, .refusedAfter reason written))
    (ht : t.up.outgoing.length < 8) :
    hostSet addr payload s = t.answersRefusedAfter addr reason written := hostSet_reply _ _ s t o _ h hp ho hr ht

/-- A QUERY heard whole that is refused changes nothing of the part's own. -/
theorem hostQuery_refused {reason : Reason} (h : s.canHear) (hp : payload.length ≤ 48)
    (hr : queryReply addr payload s.heardHost = .refused reason) :
    hostQuery addr payload s = s.heardHost.answersRefused 0 addr reason := by
  rw [hostQuery_of_canHear _ _ _ h hp]
  simp only [serveQuery, hr]
  exact respond_of_room _ _ _ _ (heardHost_has_room s h)

/-- A QUERY with a payload is refused, but of an object that only a SET reaches (R189). -/
theorem queryReply_of_payload (ho : objectAt addr = some o) (hset : o.setOnly = false) (hp : payload ≠ []) :
    queryReply addr payload s = .refused .badLength := by
  simp [queryReply, ho, hset, hp]

theorem queryReply_of_no_object (ho : objectAt addr = none) : queryReply addr payload s = .refused .noObject := by
  simp [queryReply, ho]

theorem queryReply_of_setOnly (ho : objectAt addr = some o) (hset : o.setOnly = true) :
    queryReply addr payload s = .refused .noObject := by
  simp [queryReply, ho, hset]

end Answers

/-! #### Bad traffic upstream (R183, R185, R186) -/

/-- Settles O13: the receiver is IDLE, so that the bytes or the frame are all that is received. -/
theorem badUpstreamTrafficIsCountedUnanswered : Obligations.BadUpstreamTrafficIsCountedUnanswered := by
  intro s bytes f hb
  refine ⟨fun hs hrx => ⟨fun hlen hbad => ?badCrc, fun hlen hf => ?discarded⟩, fun x hx => ?ignored⟩
  case badCrc =>
    have hfit : bytesFit bytes = true := decide_eq_true hlen
    have htake : receiveUpBytes bytes upBadCrc s = upBadCrc bytes s := by
      simp [receiveUpBytes, hb, hs, hrx, hfit]
    have hexec : exec (.upstreamCrcError bytes) s = .next (receiveUpBytes bytes upBadCrc s) := rfl
    rw [hexec, htake, upBadCrc, if_pos hbad]
    rfl
  case discarded =>
    have hdisc : f.isDiscardedUpstream = true := by
      rcases hf with hdir | ⟨hkind, htag⟩
      · simp [Frame.isDiscardedUpstream, hdir]
      · simpa [Frame.isDiscardedUpstream, hkind] using .inr htag
    have htake : receiveUpstream f (fun t => t.count .upstreamFraming) s = (upHeard .idle s).count .upstreamFraming := by
      simp [receiveUpstream, payloadFits, hlen, hb, hs, hrx]
    have hexec : exec (.upstreamFrameDiscarded f) s =
        .next (if f.isDiscardedUpstream then receiveUpstream f (fun t => t.count .upstreamFraming) s else s) := rfl
    rw [hexec, if_pos hdisc, htake]
    simp [upHeard]
    rfl
  case ignored =>
    have hexec : exec .byteIgnoredWhileTransmitting s =
        .next (if s.up.sending.isSome && !s.up.inBreak then ignoreBytes 1 s else s) := rfl
    rw [hexec, if_pos (by simp [hx, hb])]
    rfl

/-! #### Kinds that do not suit their tag (R186, R187) -/

theorem exec_badKind (f : Frame) (s : State) (hf : f.isBadKind = true) :
    exec (.badKind f) s = .next (receiveUpstream f (takeBadKind f) s) := congrArg Host.Outcome.next (if_pos hf)

/-- A frame to tag 0 of a bad kind reaches the silence monitor and is refused. -/
theorem exec_badKind_tagZero (f : Frame) (s : State) (h : s.canHear) (hlen : f.payload.length ≤ 48)
    (hf : f.isBadKind = true) (htag : f.tag = 0) :
    exec (.badKind f) s = .next (s.heardHost.answersRefused (refusalTag f) f.addr .badKind) := by
  rw [exec_badKind f s hf, receiveUpstream_of_canHear f _ s h hlen, takeBadKind, if_pos htag]
  have hhost : hearHost s.heard = s.heardHost := rfl
  have hroom := heardHost_has_room s h
  rw [takeTagZero, hhost, ifListOpen_of_room _ _ hroom, refuseKind, respond_of_room _ _ _ _ hroom]
  rfl

/-- A frame to another tag of a bad kind is refused. -/
theorem exec_badKind_otherTag (f : Frame) (s : State) (h : s.canHear) (hlen : f.payload.length ≤ 48)
    (hf : f.isBadKind = true) (htag : f.tag ≠ 0) :
    exec (.badKind f) s = .next (s.heard.answersRefused (refusalTag f) f.addr .badKind) := by
  rw [exec_badKind f s hf, receiveUpstream_of_canHear f _ s h hlen, takeBadKind, if_neg htag]
  obtain ⟨-, -, -, hroom⟩ := h
  have hroom' : s.heard.up.outgoing.length < 8 := hroom
  rw [ifListOpen_of_room _ _ hroom', refuseKind, respond_of_room _ _ _ _ hroom']
  rfl

/-- Settles O16, by the tag of the frame and the tag of its refusal. -/
theorem wrongKindIsRefused : Obligations.WrongKindIsRefused := by
  intro s f h hlen hdir
  refine ⟨fun htag hkind hroll => ?_, fun htag hroll => ?_, fun htag hkind => ?_, fun hzero hall hroll => ?_⟩
  · have hbad : f.isBadKind = true := by simp [Frame.isBadKind, hdir, htag, hkind]
    have hrefusal : refusalTag f = 0 := by rw [refusalTag, if_neg hroll, htag]
    rw [exec_badKind_tagZero f s h hlen hbad htag, hrefusal]
  · have hbad : f.isBadKind = true := by simp [Frame.isBadKind, hdir, htag, hroll]
    have hrefusal : refusalTag f = 63 := by rw [refusalTag, if_pos hroll]
    rw [exec_badKind_tagZero f s h hlen hbad htag, hrefusal]
  · have hbad : f.isBadKind = true := by simp [Frame.isBadKind, hdir, htag, hkind]
    have hrefusal : refusalTag f = 63 := by rw [refusalTag, htag, ite_self]
    rw [exec_badKind_otherTag f s h hlen hbad (by rw [htag]; decide), hrefusal]
  · have hbad : f.isBadKind = true := by
      rw [Frame.isBadKind, if_neg hzero, if_neg hall, hdir, hroll]
      rfl
    have hrefusal : refusalTag f = 63 := by rw [refusalTag, if_pos hroll]
    rw [exec_badKind_otherTag f s h hlen hbad hzero, hrefusal]

/-! #### The clock and the silence of the host (R197, R198) -/

theorem objectAt_clock : objectAt 3 = some .clock := by decide

theorem exec_terminalSecondTick (s : State) :
    exec .terminalSecondTick s = .next (if s.secondDue then s.modClock Clock.nextSecond else s) := rfl

/-- A day and a second up to 86,399 set the clock (R197). -/
theorem setClock_of_valid (payload : List Byte) (s : State) (hlen : payload.length = 5)
    (hsecond : fieldNat payload 2 3 ≤ 86399) :
    setClock payload s =
      ({ s with
          clock :=
            { s.clock with
              isSet := true, day := fieldNat payload 0 2, second := fieldNat payload 2 3
              secondBase := s.clock.ms } }, .done) :=
  (if_neg (not_not_intro hlen)).trans (if_neg (Nat.not_lt.2 hsecond))

/-- A later second is refused (R197). -/
theorem setClock_of_late (payload : List Byte) (s : State) (hlen : payload.length = 5)
    (hsecond : 86399 < fieldNat payload 2 3) : setClock payload s = (s, .refused .outOfRange) :=
  (if_neg (not_not_intro hlen)).trans (if_pos hsecond)

/-- Settles O23, from the rule of the clock object and the second that follows another. -/
theorem clockIsSetAndAdvances : Obligations.ClockIsSetAndAdvances := by
  intro s payload
  refine ⟨fun h hlen hsecond => ?set, fun h hlen hsecond => ?outOfRange, fun h hp hlen => ?badLength,
    fun hset hdue => ?tick⟩
  case set =>
    exact congrArg Host.Outcome.next (hostSet_done (o := .clock) h (by omega) objectAt_clock
      (setClock_of_valid payload _ hlen hsecond) (heardHost_has_room s h))
  case outOfRange =>
    exact congrArg Host.Outcome.next (hostSet_refused (o := .clock) h (by omega) objectAt_clock
      (setClock_of_late payload _ hlen hsecond))
  case badLength =>
    exact congrArg Host.Outcome.next (hostSet_refused (o := .clock) h hp objectAt_clock (if_pos hlen))
  case tick =>
    have hover : s.secondDue = true := Bool.and_eq_true _ _ ▸ ⟨hset, decide_eq_true hdue⟩
    rw [exec_terminalSecondTick, if_pos hover]
    refine ⟨fun hlt => ?_, fun heq => ?_⟩
    · have hnext : s.clock.second + 1 < 86400 := by omega
      simp [State.modClock, Clock.nextSecond, hnext]
    · simp [State.modClock, Clock.nextSecond, heq]

/-- Settles O24: the deadline has been reached, and an OPEN session takes its mark. -/
theorem hostSilenceIsDeclared : Obligations.HostSilenceIsDeclared := by
  intro s d hd hreached
  have hover : s.silenceOver = true := by
    rw [State.silenceOver, hd]
    exact decide_eq_true hreached
  have hexec : exec .hostLost s = .next (if s.silenceOver then declareHostLost s else s) := rfl
  rw [hexec, if_pos hover, declareHostLost]
  by_cases hopen : s.session.state = .opened
  · simp only [if_pos hopen]
    rfl
  · simp only [if_neg hopen]
    rfl

/-! #### Refused SETs and QUERYs (R141, R189) -/

theorem objectAt_slotHeader (i : Fin 16) : objectAt (BitVec.ofNat 16 (0x4000 + i.val)) = some (.slotHeader i.val) := by
  revert i
  decide

theorem objectAt_notePage (i : Fin 16) (p : Fin 9) :
    objectAt (BitVec.ofNat 16 (0x5000 + 16 * i.val + p.val)) = some (.notePage i.val p.val) := by
  revert i p
  decide

theorem objectAt_beyond_pages (i : Fin 16) (p : Fin 7) :
    objectAt (BitVec.ofNat 16 (0x5000 + 16 * i.val + (9 + p.val))) = none := by
  revert i p
  decide

theorem objectAt_armStatus (i : Fin 4) :
    objectAt (BitVec.ofNat 16 (0x10 + i.val)) = some (.armStatus (armOfIndex i.val)) := by
  revert i
  decide

/-- The objects that a QUERY only reads (10, "Object map"). -/
def Obj.readOnly : Obj → Bool
  | .nextSerial => true
  | .counters => true
  | .summary => true
  | .armStatus _ => true
  | .lookupResult => true
  | .permitAt _ => true
  | .orderAt _ => true
  | .slotHeader _ => true
  | .notePage _ _ => true
  | _ => false

theorem setObject_of_readOnly (o : Obj) (payload : List Byte) (s : State) (ho : o.readOnly = true) :
    setObject o payload s = (s, .refused .readOnly) := by
  cases o
  case nextSerial | counters | summary | armStatus | lookupResult => rfl
  case permitAt | orderAt | slotHeader | notePage => rfl
  all_goals exact absurd ho Bool.false_ne_true

theorem lowObject_setOnly {a : Nat} {o : Obj} (h : lowObject a = some o) (ho : o.setOnly = true) : a = 0x18 := by
  by_contra hne
  grind (splits := 20) [lowObject, Obj.setOnly]

theorem bankObject_not_setOnly {bank : Bank} {a : Nat} {o : Obj} (h : bankObject bank a = some o) :
    o.setOnly = false := by
  grind [bankObject, Obj.setOnly]

theorem highObject_setOnly {a : Nat} {o : Obj} (h : highObject a = some o) (ho : o.setOnly = true) :
    a = 0x2000 ∨ a = 0x2001 ∨ a = 0x3000 ∨ a = 0x3001 ∨ a = 0x40F0 := by
  by_contra hne
  grind (splits := 20) [highObject, Obj.setOnly]

/-- The addresses of the objects that only a SET reaches (10, "Object map"). -/
theorem objectAt_setOnly {addr : ObjAddr} {o : Obj} (h : objectAt addr = some o) (ho : o.setOnly = true) :
    addr = 0x18 ∨ addr = 0x2000 ∨ addr = 0x2001 ∨ addr = 0x3000 ∨ addr = 0x3001 ∨ addr = 0x40F0 := by
  have haddr : ∀ k : Nat, addr.toNat = k → addr = BitVec.ofNat 16 k := fun k => toNat_eq_ofNat addr k
  unfold objectAt at h
  split at h
  · exact .inl (haddr _ (lowObject_setOnly h ho))
  · split at h
    · exact absurd ((bankObject_not_setOnly h).symm.trans ho) Bool.false_ne_true
    · split at h
      · exact absurd ((bankObject_not_setOnly h).symm.trans ho) Bool.false_ne_true
      · exact .inr ((highObject_setOnly h ho).imp (haddr _) (Or.imp (haddr _) (Or.imp (haddr _) (Or.imp (haddr _)
          (haddr _)))))

/-- Settles O40, from what each address names and the answer to a SET or QUERY of it. -/
theorem readOnlyObjectsRefuseASet : Obligations.ReadOnlyObjectsRefuseASet := by
  intro s addr payload h hp
  have hreadOnly : ∀ o, objectAt addr = some o → o.readOnly = true →
      exec (.otherObjectSet addr payload) s = .next (s.heardHost.answersRefused 0 addr .readOnly) := fun o ho hr =>
    exec_otherObjectSet_of_refused addr o payload _ s h hp ho (setObject_of_readOnly o payload _ hr)
  have hquery : ∀ {reason}, queryReply addr payload s.heardHost = .refused reason →
      exec (.objectQuery addr payload) s = .next (s.heardHost.answersRefused 0 addr reason) := fun hr =>
    congrArg Host.Outcome.next (hostQuery_refused h hp hr)
  refine ⟨fun ho => ?noObject, fun haddr => ?readOnly, fun haddr => ?notRead, fun o ho hne => ?badLength,
    fun hne => ⟨?flags, fun i => ?header⟩⟩
  case noObject => exact congrArg Host.Outcome.next (hostSet_noObject addr payload s h hp ho)
  case readOnly =>
    rcases haddr with rfl | rfl | rfl | ⟨i, rfl⟩ | rfl | ⟨i, rfl⟩ | ⟨i, rfl⟩ | ⟨i, rfl⟩ | ⟨i, p, rfl⟩
    · exact hreadOnly .nextSerial (by decide) rfl
    · exact hreadOnly .counters (by decide) rfl
    · exact hreadOnly .summary (by decide) rfl
    · exact hreadOnly _ (objectAt_armStatus i) rfl
    · exact hreadOnly .lookupResult (by decide) rfl
    · exact hreadOnly _ (objectAt_permitAt i.val (by omega)) rfl
    · exact hreadOnly _ (objectAt_orderAt i.val (by omega)) rfl
    · exact hreadOnly _ (objectAt_slotHeader i) rfl
    · exact hreadOnly _ (objectAt_notePage i p) rfl
  case notRead =>
    rcases haddr with ho | ⟨i, p, rfl⟩ | rfl | rfl | rfl | rfl | rfl | rfl
    · exact hquery (queryReply_of_no_object ho)
    · exact hquery (queryReply_of_no_object (objectAt_beyond_pages i p))
    · exact hquery (queryReply_of_setOnly (o := .command) (by decide) rfl)
    · exact hquery (queryReply_of_setOnly (o := .permitInsert) (by decide) rfl)
    · exact hquery (queryReply_of_setOnly (o := .permitRemove) (by decide) rfl)
    · exact hquery (queryReply_of_setOnly (o := .orderInsert) (by decide) rfl)
    · exact hquery (queryReply_of_setOnly (o := .orderRemove) (by decide) rfl)
    · exact hquery (queryReply_of_setOnly (o := .noteRelease) (by decide) rfl)
  case badLength =>
    intro h1 h2 h3 h4 h5 h6
    refine hquery (queryReply_of_payload ho (Bool.eq_false_iff.2 fun hset => ?_) hne)
    rcases objectAt_setOnly ho hset with h | h | h | h | h | h
    exacts [h1 h, h2 h, h3 h, h4 h, h5 h, h6 h]
  case flags =>
    exact congrArg Host.Outcome.next (hostQuery_refused h hp
      (queryReply_of_payload (o := .statusFlags) (by decide) rfl hne))
  case header =>
    exact congrArg Host.Outcome.next (hostQuery_refused h hp
      (queryReply_of_payload (objectAt_slotHeader i) rfl hne))

end Sys2Proof.Machine
end

section
/-! ### Transmission, intake and the objects that only report (10, 11: R140, R172, R185, R188, R191, R194) -/

namespace Sys2Proof.Machine

/-! #### The transmitter (R140, R185) -/

theorem exec_responseTransmit (s : State) :
    exec .responseTransmit s = .next (if s.mayTransmit then transmitHead s else s) := rfl

/-- The end of a transmission, whose last byte has been sent. -/
theorem exec_responseSent (s : State) (r : Outgoing) (h : s.up.sending = some { response := r, left := 0 }) :
    exec .responseSent s = .next
      ((clearNewMark r.header s).modUp fun u =>
        { u with sending := none, ignored := false, rx := if u.ignored then .hunt else u.rx }) := by
  have hsent : s.sentWhole = true := by simp [State.sentWhole, h]
  have hexec : exec .responseSent s = .next (if s.sentWhole then endTransmission s else s) := rfl
  rw [hexec, if_pos hsent, endTransmission, h]

/-- Settles O15: the head is taken off the list, and its end clears the mark of the slot that its header names. -/
theorem responsesAreSentInOrder : Obligations.ResponsesAreSentInOrder := by
  intro s r rest
  refine ⟨fun hidle hout hrx hgap => ?transmit, fun hsent => exec_responseSent s _ hsent, fun i serial hsent => ?header⟩
  case transmit =>
    have hmay : s.mayTransmit = true := by simp [State.mayTransmit, hidle, hout, hrx, hgap, Receiver.isReceiving]
    rw [exec_responseTransmit, if_pos hmay, transmitHead, hout]
    rfl
  case header =>
    refine ⟨_, exec_responseSent s _ hsent, rfl, fun x hx hfilled hserial => ?_, fun x hx hnot => ?_, fun j hj => ?_, rfl⟩
    · simp [clearNewMark, List.getElem?_modify_eq, hx, hfilled, hserial]
    · simp [clearNewMark, List.getElem?_modify_eq, hx, if_neg hnot]
    · simp [clearNewMark, hj.symm]

/-! #### Intake to the relay queue (R123, R172, R191) -/

/-- A frame finds a place in the relay queue (R172). -/
theorem enqueueRelay_of_room (f : Frame) (c : FrameClass) (s : State) (h : s.relayQueue.length < 4) :
    enqueueRelay f c s = { s with relayQueue := s.relayQueue ++ [{ frame := f, cls := c }] } := if_pos h

/-- A full relay queue refuses a frame BUSY (R172). -/
theorem enqueueRelay_of_full (f : Frame) (c : FrameClass) (s : State) (h : 4 ≤ s.relayQueue.length)
    (hroom : s.up.outgoing.length < 8) :
    enqueueRelay f c s = s.answersRefused f.tag f.addr .busy := by
  rw [enqueueRelay, if_neg (Nat.not_lt.2 h)]
  exact respond_of_room _ _ _ _ hroom

theorem heard_has_room (s : State) (h : s.canHear) : s.heard.up.outgoing.length < 8 := by
  obtain ⟨-, -, -, hroom⟩ := h
  exact hroom

/-- A host command for a field node is classified and meets the gate (R123, R175). -/
theorem exec_relayIntake (f : Frame) (s : State) (h : s.canHear) (hp : f.payload.length ≤ 48) (hf : f.isRelayed = true) :
    exec (.relayIntake f) s = .next
      (if s.gatePasses (classify s.acceptance f) then enqueueRelay f (classify s.acceptance f) s.heard
        else s.heard.answersRefused f.tag f.addr .interlocked) := by
  have hexec : exec (.relayIntake f) s =
      .next (if f.isRelayed then receiveUpstream f (ifListOpen (relayFrame f)) s else s) := rfl
  have hroom := heard_has_room s h
  rw [hexec, if_pos hf, receiveUpstream_of_canHear f _ s h hp, ifListOpen_of_room _ _ hroom, relayFrame]
  congr 2
  exact respond_of_room _ _ _ _ hroom

/-- Settles O17: the gate by the class of the frame, then the room in the queue. -/
theorem relayIntakeGatesThenQueues : Obligations.RelayIntakeGatesThenQueues := by
  intro s f c h hp hdir hkind hzero hall hc
  have hf : f.isRelayed = true := by
    simp only [Frame.isRelayed, isNodeTag, Bool.and_eq_true, beq_iff_eq, bne_iff_ne, decide_eq_true_eq]
    exact ⟨⟨hdir, hkind⟩, hzero, hall⟩
  have hexec := exec_relayIntake f s h hp hf
  rw [hc] at hexec
  have hpass : s.gatePasses c = true → s.relayQueue.length < 4 →
      exec (.relayIntake f) s = .next { s.heard with relayQueue := s.relayQueue ++ [{ frame := f, cls := c }] } := by
    intro hgate hroom
    rw [hexec, if_pos hgate]
    exact congrArg _ (enqueueRelay_of_room f c s.heard hroom)
  have hfull : s.gatePasses c = true → 4 ≤ s.relayQueue.length →
      exec (.relayIntake f) s = .next (s.heard.answersRefused f.tag f.addr .busy) := by
    intro hgate hlen
    rw [hexec, if_pos hgate]
    exact congrArg _ (enqueueRelay_of_full f c s.heard hlen (heard_has_room s h))
  have hstop : s.gatePasses c = false →
      exec (.relayIntake f) s = .next (s.heard.answersRefused f.tag f.addr .interlocked) := by
    intro hgate
    rw [hexec, if_neg (by rw [hgate]; exact Bool.false_ne_true)]
  have hother : c.action ≠ .actuator → c.action ≠ .block → s.gatePasses c = true := by
    intro h1 h2
    unfold State.gatePasses
    split
    next hx _ => exact absurd hx h1
    next hx _ => exact absurd hx h1
    next hx => exact absurd hx h2
    next => rfl
  have hactuator : ∀ n, c.action = .actuator → c.arm = some n →
      s.gatePasses c = ((s.armState n == .idle || s.armState n == .blocked) && s.permissive.healthy) := by
    intro n h1 h2
    simp only [State.gatePasses, h1, h2]
  have hblock : c.action = .block → s.gatePasses c = (s.mode == .service) := by
    intro h1
    simp only [State.gatePasses, h1]
  refine ⟨fun h1 h2 => hpass (hother h1 h2), fun h1 h2 => hfull (hother h1 h2), fun n h1 h2 hbad => hstop ?_,
    fun n h1 h2 hst hhealthy => hpass ?_, fun h1 hmode => hstop ?_, fun h1 hmode => hpass ?_,
    fun n h1 h2 hst hhealthy => hfull ?_, fun h1 hmode => hfull ?_⟩
  · rw [hactuator n h1 h2]
    rcases hbad with ⟨hidle, hblocked⟩ | hhealthy
    · simp [hidle, hblocked]
    · simp [hhealthy]
  · rw [hactuator n h1 h2]
    rcases hst with hst | hst <;> simp [hst, hhealthy]
  · simp [hblock h1, hmode]
  · simp [hblock h1, hmode]
  · rw [hactuator n h1 h2]
    rcases hst with hst | hst <;> simp [hst, hhealthy]
  · simp [hblock h1, hmode]

/-- A ROLL of the host meets the moving arms (R191). -/
theorem exec_rollIntake (addr : ObjAddr) (payload : List Byte) (s : State) (h : s.canHear) (hp : payload.length ≤ 48) :
    exec (.rollIntake addr payload) s = .next
      (if s.bayActive then s.heard.answersRefused 63 addr .bayActive
        else enqueueRelay (rollFrame addr payload) {} s.heard) := by
  have hexec : exec (.rollIntake addr payload) s =
      .next (receiveUpstream (rollFrame addr payload) (ifListOpen (rollIn (rollFrame addr payload))) s) := rfl
  have hroom := heard_has_room s h
  rw [hexec, receiveUpstream_of_canHear (rollFrame addr payload) _ s h hp, ifListOpen_of_room _ _ hroom, rollIn]
  congr 2
  exact respond_of_room _ _ _ _ hroom

/-- Some arm moves product or is closing, or none is (R191). -/
theorem bayActive_iff (s : State) : s.bayActive = true ↔ ∃ n : ArmId, (s.armState n).isActive = true :=
  any_armIds_iff fun n => (s.armState n).isActive

theorem bayActive_eq_false (s : State) (h : ∀ n : ArmId, (s.armState n).isActive = false) : s.bayActive = false :=
  Bool.eq_false_iff.2 fun hactive => by
    obtain ⟨n, hn⟩ := (bayActive_iff s).1 hactive
    exact Bool.false_ne_true ((h n).symm.trans hn)

/-- Settles O18, from the moving arms and the room in the relay queue. -/
theorem rollIsRefusedOrQueued : Obligations.RollIsRefusedOrQueued := by
  intro s addr payload h hp
  rw [exec_rollIntake addr payload s h hp]
  refine ⟨fun hactive => ?_, fun hcalm hfull => ?_, fun hcalm hroom => ?_⟩
  · rw [if_pos ((bayActive_iff s).2 hactive)]
  · rw [bayActive_eq_false s hcalm, if_neg Bool.false_ne_true]
    exact congrArg _ (enqueueRelay_of_full _ _ s.heard hfull (heard_has_room s h))
  · rw [bayActive_eq_false s hcalm, if_neg Bool.false_ne_true]
    exact congrArg _ (enqueueRelay_of_room _ _ s.heard hroom)

/-! #### A request for RUN (R121, R162) -/

/-- SERVICE may be left for RUN under the conditions of R162. -/
theorem mayRun_iff (s : State) :
    s.mayRun = true ↔
      s.clock.isSet = true ∧ (∃ n : ArmId, (s.config n).meter.isSome = true ∧ (s.config n).valve.isSome = true) ∧
      (∃ e ∈ s.scans, e.enabled = true) ∧ (s.banks.tables s.banks.active).holdsProduct = true := by
  have harms := any_armIds_iff fun n => (s.config n).meter.isSome && (s.config n).valve.isSome
  simp only [State.mayRun, Bool.and_eq_true, harms, List.any_eq_true, and_assoc]

theorem objectAt_mode : objectAt 1 = some .mode := by decide

theorem setModeObject_run (s : State) : setModeObject [2] s = requestRun s := rfl

theorem setModeObject_service (s : State) : setModeObject [0] s = (requestService s, .done) := rfl

/-- RUN entered: BAY PERMIT is decided anew (R121, R162). -/
theorem requestRun_of_ready (s : State) (h : s.mode = .service ∧ s.mayRun = true ∨ s.mode = .servicePending) :
    requestRun s = (decideBayPermit (s.setMode .run), .done) := by
  rcases h with ⟨hmode, hmay⟩ | hmode
  · simp only [requestRun, hmode, hmay, if_true]
  · simp only [requestRun, hmode]

/-- Settles O20, by the mode in which RUN is requested. -/
theorem runRequestNeedsItsConditions : Obligations.RunRequestNeedsItsConditions := by
  intro s h ready
  have hready : s.heardHost.mayRun = true ↔ ready := mayRun_iff s
  refine ⟨fun hmode => ?entered, fun hmode hnot => ?refused, fun hmode => ?stays⟩
  case entered =>
    have hrun := requestRun_of_ready s.heardHost (hmode.imp (fun hm => ⟨hm.1, hready.2 hm.2⟩) id)
    have hexec : exec .setRun s = .next ((decideBayPermit (s.heardHost.setMode .run)).answersDone 1) :=
      congrArg Host.Outcome.next (hostSet_done (o := .mode) h (by simp) objectAt_mode
        ((setModeObject_run _).trans hrun) (heardHost_has_room s h))
    refine ⟨_, hexec, rfl, rfl, ?_, rfl⟩
    have hpermit := bayPermitHolds_iff (s.heardHost.setMode .run)
    have hnode : s.permissiveNodeUp = true ↔ ∃ t, s.permissive.tag = some t ∧ s.nodeLost t = false := by
      unfold State.permissiveNodeUp
      cases s.permissive.tag <;> simp
    rw [hnode]
    exact hpermit.trans (and_iff_right rfl)
  case refused =>
    have hrun : requestRun s.heardHost = (s.heardHost, .refused .outOfRange) := by
      have hmode' : s.heardHost.mode = .service := hmode
      simp only [requestRun, hmode', if_neg (fun hmay => hnot (hready.1 hmay))]
    exact congrArg Host.Outcome.next (hostSet_refused (o := .mode) h (by simp) objectAt_mode
      ((setModeObject_run _).trans hrun))
  case stays =>
    have hrun : requestRun s.heardHost = (s.heardHost, .done) := by
      have hmode' : s.heardHost.mode = .run := hmode
      simp only [requestRun, hmode']
    exact congrArg Host.Outcome.next (hostSet_done (o := .mode) h (by simp) objectAt_mode
      ((setModeObject_run _).trans hrun) (heardHost_has_room s h))

/-! #### Objects that only report (R188, R194, R198) -/

/-- The attention byte has its four bits in the order of R188. -/
theorem attention_getLsbD (s : State) :
    s.attention.getLsbD 0 = s.unreadNote ∧ s.attention.getLsbD 1 = (s.status.flags != {}) ∧
    s.attention.getLsbD 2 = s.status.declared ∧ s.attention.getLsbD 3 = (s.mode != .run) ∧ s.attention.toNat < 16 := by
  have hbits : ∀ b0 b1 b2 b3 : Bool,
      (BitVec.ofNat 8 (bitsValue [b0, b1, b2, b3])).getLsbD 0 = b0 ∧
      (BitVec.ofNat 8 (bitsValue [b0, b1, b2, b3])).getLsbD 1 = b1 ∧
      (BitVec.ofNat 8 (bitsValue [b0, b1, b2, b3])).getLsbD 2 = b2 ∧
      (BitVec.ofNat 8 (bitsValue [b0, b1, b2, b3])).getLsbD 3 = b3 ∧
      (BitVec.ofNat 8 (bitsValue [b0, b1, b2, b3])).toNat < 16 := by decide
  exact hbits _ _ _ _

/-- The status flags are answered as they stand, and then the declared mark is cleared (R198). -/
theorem serveQuery_statusFlags (s : State) (h : s.up.outgoing.length < 8) :
    serveQuery 2 [] s =
      (s.answersData 2 (statusBytes s)).modStatus fun x => { x with declared := false } := by
  have hreply : queryReply 2 [] s = .data (statusBytes s) := queryReply_of_ok 2 .statusFlags _ s objectAt_statusFlags rfl
  have hread : headerRead 2 s = none := by rw [headerRead, objectAt_statusFlags]
  have heffect : ∀ t, readEffect 2 t = t.modStatus fun x => { x with declared := false } := fun t =>
    if_pos objectAt_statusFlags
  simp only [serveQuery, hreply, hread, heffect]
  congr 1
  exact respond_of_room 0 2 (.data (statusBytes s)) s h

theorem length_beBytes (n v : Nat) : (beBytes n v).length = n := by
  induction n generalizing v with
  | zero => rfl
  | succ n ih => rw [beBytes, List.length_append, ih, List.length_singleton]

theorem length_decimalDigits (n v : Nat) : (decimalDigits n v).length = n := by
  induction n generalizing v with
  | zero => rfl
  | succ n ih => rw [decimalDigits, List.length_append, ih, List.length_singleton]

/-- Ten digits fill five bytes (10, "Encodings"). -/
theorem length_cardBytes (card : Nat) : (cardBytes card).length = 5 := by
  have hlen := length_decimalDigits 10 card
  rw [cardBytes]
  match decimalDigits 10 card, hlen with
  | [_, _, _, _, _, _, _, _, _, _], _ => rfl

/-- The place of the card and the order reference in the session record summary (10, "Record layouts"). -/
def summaryKey (x : Session) : List Byte :=
  (match x.card with | none => beBytes 5 Config.absentSummaryCard | some card => cardBytes card) ++
  beBytes 4 (x.orderRef.getD Config.absentSummaryOrder)

theorem length_summaryKey (x : Session) : (summaryKey x).length = 9 := by
  rw [summaryKey, List.length_append, length_beBytes]
  split
  · rw [length_beBytes]
  · rw [length_cardBytes]

theorem summaryKey_of_some (x : Session) {card ref : Nat} (hcard : x.card = some card) (href : x.orderRef = some ref) :
    summaryKey x = cardBytes card ++ beBytes 4 ref := by
  rw [summaryKey, hcard, href]
  rfl

theorem summaryBytes_eq (x : Session) :
    summaryBytes x = byteOf (sessionCode x.state) :: summaryKey x ++
      byteOf x.comps.length :: x.comps.flatMap fun c => [byteOf c.number, byteOf (compCode c.state)] := by
  unfold summaryBytes summaryKey
  cases x.card <;> simp only [List.append_assoc, List.cons_append, List.nil_append]

theorem counterBytes_eq (x : Counters) :
    counterBytes x =
      beBytes 2 x.upstreamCrc ++ beBytes 2 x.upstreamFraming ++ beBytes 2 x.ignored ++ beBytes 2 x.fieldTimeouts ++
        beBytes 2 x.fieldCrc ++ beBytes 2 x.implausible ++ beBytes 2 x.injector ++ beBytes 2 x.lateScans := by
  simp [counterBytes]

theorem objectAt_armNumber (n : ArmId) :
    objectAt (BitVec.ofNat 16 (0x10 + (armNumber n - 1))) = some (.armStatus n) := by
  cases n <;> decide

/-- The arm status, code by code (10, "Record layouts"). -/
theorem armStatusBytes_eq (a : Arm) :
    armStatusBytes a =
      ([match a.state with
          | .idle => 0 | .armed => 1 | .starting => 2 | .flowing => 3 | .trimming => 4 | .closing => 5
          | .halted => 6 | .blocked => 7,
        byteOf (a.held.getD 0), byteOf a.causes.value,
        match a.blockCause with | none => 0 | some .meter => 1 | some .valve => 2,
        boolByte a.settled, match a.commanded with | .closed => 0 | .low => 1 | .full => 2] : List Byte) ++
      (match a.lastValve with
        | none => [0xFF, 0xFF]
        | some r =>
          ([match r.position with | .closed => 0 | .low => 1 | .full => 2 | .moving => 3, boolByte r.coupler] :
            List Byte)) ++
      [boolByte a.trip] ++ beBytes 2 a.anticipation ++ beBytes 5 a.totalizer ++ beBytes 5 a.unassigned := by
  unfold armStatusBytes
  congr 4
  · congr 1
    · congr 1
      · cases a.state <;> rfl
      · congr 3
        · rcases a.blockCause with _ | _ | _ <;> rfl
        · congr 2
          cases a.commanded <;> rfl
    · rcases a.lastValve with _ | ⟨position, coupler⟩
      · rfl
      · cases position <;> rfl

/-- Settles O22, from the bits of the attention byte and the data of each object. -/
theorem statusReadsAsItStands : Obligations.StatusReadsAsItStands := by
  intro s
  obtain ⟨hnote, hflags, hdeclared, hmode, hsmall⟩ := attention_getLsbD s
  refine ⟨fun h => ?status, hnote, by rw [hflags, bne_iff_ne], hdeclared, by rw [hmode, bne_iff_ne], hsmall,
    fun h => ?objects⟩
  case status =>
    have hexec : exec (.queryStatusFlags []) s = .next (hostQuery 2 [] s) := rfl
    rw [hexec, hostQuery_of_canHear _ _ _ h (Nat.zero_le _), serveQuery_statusFlags _ (heardHost_has_room s h)]
    rfl
  intro answers x
  have hanswers : ∀ {addr : ObjAddr} {o : Obj} {data : List Byte}, objectAt addr = some o → o ≠ .statusFlags →
      (∀ i, o ≠ .slotHeader i) → queryData o s.heardHost = .ok data → answers addr data := fun ho hne hheader hq =>
    exec_objectQuery_of_ok _ _ _ s h ho hne hheader hq
  refine ⟨?mode, ?clock, ?serial, ?counters, ⟨summaryKey s.session, ?summary, length_summaryKey _,
    fun card ref hcard href => summaryKey_of_some _ hcard href⟩, ?gap, fun n => ?arm⟩
  case mode =>
    refine hanswers (o := .mode) objectAt_mode (by simp) (by simp) ?_
    have hcode : byteOf (modeCode s.heardHost.mode) = byteOf (modeCode s.mode) := rfl
    rw [queryData, hcode]
    cases s.mode <;> rfl
  case clock => exact hanswers (o := .clock) objectAt_clock (by simp) (by simp) rfl
  case serial => exact hanswers (o := .nextSerial) (by decide) (by simp) (by simp) rfl
  case counters =>
    exact hanswers (o := .counters) (by decide) (by simp) (by simp) (congrArg Except.ok (counterBytes_eq x))
  case summary =>
    refine hanswers (o := .summary) (by decide) (by simp) (by simp)
      (congrArg Except.ok ((summaryBytes_eq s.session).trans ?_))
    congr 2
    · cases s.session.state <;> rfl
    · refine List.flatMap_congr fun c _ => ?_
      cases c.state <;> rfl
  case gap => exact hanswers (o := .gap) (by decide) (by simp) (by simp) rfl
  case arm =>
    refine hanswers (o := .armStatus n) (objectAt_armNumber n) (by simp) (by simp) (congrArg Except.ok ?_)
    exact armStatusBytes_eq (s.arm n)

end Sys2Proof.Machine
end

section
/-! ### Halts (03: R47, R57 to R59, R67 to R69)

What offering a cause to an arm makes of the whole state: the arm's record, the flags of the compartment it holds, and
the command queue, where a moving arm's CLOSED goes. -/

namespace Sys2Proof.Machine

/-! #### States, field by field -/

/-- Two states are equal when their fields are. -/
theorem state_eq_iff (s t : State) :
    s = t ↔
      s.clock = t.clock ∧ s.mode = t.mode ∧ s.status = t.status ∧ s.session = t.session ∧ s.store = t.store ∧
      s.banks = t.banks ∧ s.configs = t.configs ∧ s.arms = t.arms ∧ s.metering = t.metering ∧ s.dosing = t.dosing ∧
      s.permissive = t.permissive ∧ s.notes = t.notes ∧ s.nodes = t.nodes ∧ s.scans = t.scans ∧
      s.acceptance = t.acceptance ∧ s.cmdQueue = t.cmdQueue ∧ s.relayQueue = t.relayQueue ∧ s.field = t.field ∧
      s.reader = t.reader ∧ s.up = t.up ∧ s.freeCount = t.freeCount ∧ s.pending = t.pending := by
  cases s
  cases t
  exact State.mk.injEq .. ▸ Iff.rfl

theorem get_set_arm {α : Type} (p : PerArm α) (n m : ArmId) (x : α) :
    (p.set n x).get m = if m = n then x else p.get m := by
  cases n <;> cases m <;> rfl

theorem get_set_slot {α : Type} (p : PerSlot α) (k j : Slot) (x : α) :
    (p.set k x).get j = if j = k then x else p.get j := by
  cases k <;> cases j <;> rfl

/-- Values for the four arms are equal when each is. -/
theorem perArm_ext {α : Type} {p q : PerArm α} (h : ∀ n, p.get n = q.get n) : p = q := by
  cases p
  cases q
  exact congrArg₂ (fun x y => PerArm.mk x.1 x.2 y.1 y.2) (congrArg₂ Prod.mk (h .a1) (h .a2))
    (congrArg₂ Prod.mk (h .a3) (h .a4))

/-- The arm records after a change of one. -/
theorem arms_eq_set {s t : State} {n : ArmId} {a : Arm} (h : ∀ m, t.arm m = if m = n then a else s.arm m) :
    t.arms = s.arms.set n a :=
  perArm_ext fun m => (h m).trans (get_set_arm s.arms n m a).symm

theorem arms_eq {s t : State} (h : ∀ m, t.arm m = s.arm m) : t.arms = s.arms := perArm_ext h

/-! #### Flags of held compartments (R57, R58) -/

/-- The flag that a cause sets in the compartment (R57). -/
def Cause.flag (c : Cause) (f : CompFlags) : CompFlags := if c = .permissive then { f with permissive := true } else f

theorem flagged_congr {s t : State} {choice choice' : ArmId → Bool} (f : CompFlags → CompFlags)
    (hcomps : t.session.comps = s.session.comps) (hheld : ∀ n, (t.arm n).held = (s.arm n).held)
    (hchoice : ∀ n, choice n = choice' n) : t.flagged choice f = s.flagged choice' f := by
  simp only [State.flagged, hcomps, hheld, hchoice]

theorem flagged_id (s : State) (choice : ArmId → Bool) : s.flagged choice (fun f => f) = s.session.comps := by
  simp [State.flagged]

/-- The flags set in the compartment of one arm. -/
theorem flagged_self (s : State) (n : ArmId) (f : CompFlags → CompFlags) :
    s.flagged (fun m => m == n) f =
      s.session.comps.map fun c => if (s.arm n).held = some c.number then { c with flags := f c.flags } else c := by
  refine List.map_congr_left fun c _ => ?_
  have hany := any_armIds_iff fun m => m == n && (s.arm m).held == some c.number
  simp only [Bool.and_eq_true, beq_iff_eq, exists_eq_left] at hany
  exact if_congr hany rfl rfl

/-- Flags are set by way of the arm's compartment number. -/
theorem modHeld_session (s : State) (n : ArmId) (f : CompFlags → CompFlags) :
    (s.modHeld n fun c => { c with flags := f c.flags }).session =
      { s.session with comps := s.flagged (fun m => m == n) f } := by
  rw [flagged_self]
  unfold State.modHeld
  cases hheld : (s.arm n).held with
  | none => simp
  | some k =>
    simp only [State.modComp, modSession_session]
    congr 1
    refine List.map_congr_left fun c _ => ?_
    rw [if_congr (Iff.trans eq_comm Option.some_inj.symm) rfl rfl]

/-- Flags set in a state whose session and held compartments are those of another. -/
theorem modHeld_session_of {s t : State} {n : ArmId} {f : CompFlags → CompFlags} (hsession : t.session = s.session)
    (hheld : ∀ m, (t.arm m).held = (s.arm m).held) :
    (t.modHeld n fun c => { c with flags := f c.flags }).session =
      { s.session with comps := s.flagged (fun m => m == n) f } := by
  rw [modHeld_session, flagged_congr f (congrArg Session.comps hsession) hheld fun _ => rfl, hsession]

/-- Some arm of the choice holds the compartment of a number. -/
def State.holdsNumber (s : State) (choice : ArmId → Bool) (k : Nat) : Bool :=
  [ArmId.a1, .a2, .a3, .a4].any fun n => choice n && (s.arm n).held == some k

theorem holdsNumber_iff (s : State) (choice : ArmId → Bool) (k : Nat) :
    s.holdsNumber choice k = true ↔ ∃ n, choice n = true ∧ (s.arm n).held = some k := by
  refine (any_armIds_iff fun n => choice n && (s.arm n).held == some k).trans (exists_congr fun n => ?_)
  rw [Bool.and_eq_true, beq_iff_eq]

theorem holdsNumber_congr {s t : State} (choice : ArmId → Bool) (k : Nat)
    (hheld : ∀ n, (t.arm n).held = (s.arm n).held) : t.holdsNumber choice k = s.holdsNumber choice k := by
  simp only [State.holdsNumber, hheld]

theorem holdsNumber_or (s : State) (choice other : ArmId → Bool) (k : Nat) :
    s.holdsNumber (fun n => choice n || other n) k = (s.holdsNumber choice k || s.holdsNumber other k) := by
  rw [Bool.eq_iff_iff, Bool.or_eq_true]
  simp only [holdsNumber_iff, Bool.or_eq_true, or_and_right, exists_or]

theorem flagged_eq (s : State) (choice : ArmId → Bool) (f : CompFlags → CompFlags) :
    s.flagged choice f =
      s.session.comps.map fun c => if s.holdsNumber choice c.number then { c with flags := f c.flags } else c := rfl

/-- Flags set twice in the compartments of the same arms. -/
theorem flagged_flagged {s t : State} {choice : ArmId → Bool} {f : CompFlags → CompFlags} (g : CompFlags → CompFlags)
    (hcomps : t.session.comps = s.flagged choice f) (hheld : ∀ n, (t.arm n).held = (s.arm n).held) :
    t.flagged choice g = s.flagged choice fun x => g (f x) := by
  simp only [flagged_eq, hcomps, List.map_map, holdsNumber_congr _ _ hheld]
  refine List.map_congr_left fun c _ => ?_
  cases h : s.holdsNumber choice c.number <;> simp [h]

/-- Flags set in the compartments of some arms and then of others. -/
theorem flagged_or {s t : State} {choice other : ArmId → Bool} {f : CompFlags → CompFlags} (hidem : ∀ x, f (f x) = f x)
    (hcomps : t.session.comps = s.flagged choice f) (hheld : ∀ n, (t.arm n).held = (s.arm n).held) :
    t.flagged other f = s.flagged (fun n => choice n || other n) f := by
  simp only [flagged_eq, hcomps, List.map_map, holdsNumber_congr _ _ hheld, holdsNumber_or]
  refine List.map_congr_left fun c _ => ?_
  cases h : s.holdsNumber choice c.number <;> cases h' : s.holdsNumber other c.number <;> simp [h, h', hidem]

/-! #### One arm (R47, R57, R58) -/

/-- The command queue of a valve command, by what it depends on (R169). -/
theorem queueValve_cmdQueue_congr (n : ArmId) (p : Position) {s t : State} (hc : t.configs = s.configs)
    (hn : t.nodes = s.nodes) (hq : t.cmdQueue = s.cmdQueue) :
    (queueValve n p t).cmdQueue = (queueValve n p s).cmdQueue := by
  have hconfig : t.config n = s.config n := by simp [State.config, hc]
  have hlost : ∀ tag, t.nodeLost tag = s.nodeLost tag := fun tag => by simp [State.nodeLost, State.node, hn]
  have hqueued : t.valveQueued n = s.valveQueued n := by simp [State.valveQueued, hq]
  simp only [queueValve, hconfig, hlost, hqueued, hq]
  cases (s.config n).valve with
  | none => exact hq
  | some tag =>
    dsimp only
    split
    · exact hq
    · split
      · rfl
      · split
        · rfl
        · exact hq

theorem commandValve_cmdQueue (n : ArmId) (p : Position) (s : State) :
    (commandValve n p s).cmdQueue = (queueValve n p s).cmdQueue :=
  queueValve_cmdQueue_congr n p rfl rfl rfl

theorem held_modArm (s : State) (n m : ArmId) (f : Arm → Arm) (hf : (f (s.arm n)).held = (s.arm n).held) :
    ((s.modArm n f).arm m).held = (s.arm m).held := by
  rw [arm_modArm]
  split
  next h => rw [h, hf]
  next => rfl

theorem held_commandValve (s : State) (n m : ArmId) (p : Position) :
    ((commandValve n p s).arm m).held = (s.arm m).held := by
  rw [commandValve_arm]
  split
  next h => rw [h, Arm.commandPosition]; split <;> rfl
  next => rfl

theorem addCause_session (n : ArmId) (c : Cause) (s : State) :
    (addCause n c s).session = { s.session with comps := s.flagged (fun m => m == n) c.flag } := by
  unfold addCause
  by_cases hc : c = .permissive
  · subst hc
    rw [if_pos rfl]
    exact modHeld_session_of (f := Cause.flag .permissive) (by simp) fun m => held_modArm s n m _ rfl
  · have hflag : c.flag = fun f => f := funext fun f => if_neg hc
    rw [if_neg hc, hflag, flagged_id]
    rfl

theorem haltArm_session (n : ArmId) (s : State) :
    (haltArm n s).session = { s.session with comps := s.flagged (fun m => m == n) CompFlags.withHalted } := by
  unfold haltArm
  refine modHeld_session_of (f := CompFlags.withHalted) ?_ fun m => ?_
  · split <;> simp
  · refine (held_modArm _ n m _ rfl).trans ?_
    split
    · exact held_commandValve s n m .closed
    · rfl

theorem haltArm_cmdQueue (n : ArmId) (s : State) :
    (haltArm n s).cmdQueue = if (s.armState n).isMoving then (queueValve n .closed s).cmdQueue else s.cmdQueue := by
  unfold haltArm
  split
  · simp [commandValve_cmdQueue]
  · simp

/-- An arm's record once it has been halted, in the words of the statements. -/
theorem haltedArm_eq (s : State) (n : ArmId) (causes : Causes) :
    s.haltedArm n causes =
      ({ s.arm n with causes := causes } : Arm).halt s.now (s.ahead 15000) (s.ahead 600000) := by
  have hstate : s.armState n = (s.arm n).state := rfl
  unfold State.haltedArm Arm.halt Arm.commandPosition
  rw [hstate]
  by_cases h : (s.arm n).state.isMoving = true
  · simp [h]
    exact ⟨rfl, rfl, rfl⟩
  · simp [h]
    exact ⟨rfl, rfl⟩

/-- A cause offered to an active arm halts it (R57, R58). -/
theorem offerCause_of_active (n : ArmId) (c : Cause) (s : State) (h : (s.armState n).isActive = true) :
    offerCause n c s =
      { s with
        arms := s.arms.set n (s.haltedArm n ((s.arm n).causes.put c true))
        session :=
          { s.session with comps := s.flagged (fun m => m == n) fun f => (c.flag f).withHalted }
        cmdQueue := if (s.armState n).isMoving then (queueValve n .closed s).cmdQueue else s.cmdQueue } := by
  have hact : (s.arm n).state.isActive = true := h
  have harms : (offerCause n c s).arms = s.arms.set n (s.haltedArm n ((s.arm n).causes.put c true)) := by
    refine arms_eq_set fun m => ?_
    rw [offerCause_arm, haltedArm_eq, Arm.offered, if_pos hact]
  have heq : offerCause n c s = haltArm n (addCause n c s) := if_pos h
  have hheld : ∀ m, ((addCause n c s).arm m).held = (s.arm m).held := by
    intro m
    rw [addCause_arm]
    split
    next hm => rw [hm]
    next => rfl
  have hsession : (offerCause n c s).session =
      { s.session with comps := s.flagged (fun m => m == n) fun f => (c.flag f).withHalted } := by
    rw [heq, haltArm_session, flagged_flagged _ (congrArg Session.comps (addCause_session n c s)) hheld, addCause_session]
  have hstate : (addCause n c s).armState n = s.armState n := by
    rw [State.armState, addCause_arm, if_pos rfl]
    rfl
  have hqueue : (offerCause n c s).cmdQueue =
      if (s.armState n).isMoving then (queueValve n .closed s).cmdQueue else s.cmdQueue := by
    rw [heq, haltArm_cmdQueue, hstate, queueValve_cmdQueue_congr n .closed (s := s) (by simp) (by simp) (by simp)]
    simp
  rw [state_eq_iff]
  simp [harms, hsession, hqueue]

/-- A cause offered to a HALTED arm joins its set (R57). -/
theorem offerCause_of_halted (n : ArmId) (c : Cause) (s : State) (h : s.armState n = .halted) :
    offerCause n c s =
      { s with
        arms := s.arms.set n { s.arm n with causes := (s.arm n).causes.put c true }
        session := { s.session with comps := s.flagged (fun m => m == n) c.flag } } := by
  have hact : ¬(s.armState n).isActive = true := by rw [h]; decide
  have heq : offerCause n c s = addCause n c s := (if_neg hact).trans (if_pos h)
  have harms : (addCause n c s).arms = s.arms.set n { s.arm n with causes := (s.arm n).causes.put c true } :=
    arms_eq_set fun m => addCause_arm n m c s
  rw [heq, state_eq_iff]
  simp [harms, addCause_session]

/-- Any other arm discards an offered cause (R57). -/
theorem offerCause_of_not_loading (n : ArmId) (c : Cause) (s : State) (h : (s.armState n).isLoading = false) :
    offerCause n c s = s := by
  have hact : ¬(s.armState n).isActive = true := by
    intro hn
    cases hst : s.armState n <;> rw [hst] at h hn <;> simp_all [ArmState.isLoading, ArmState.isActive]
  have hhalt : ¬s.armState n = .halted := fun hn => by rw [hn] at h; exact Bool.false_ne_true h.symm
  exact (if_neg hact).trans (if_neg hhalt)

end Sys2Proof.Machine
end

section
/-! ### Causes offered to several arms, and the arms' commands (03: R57, R67 to R69, R113, R118, R119, R161) -/

namespace Sys2Proof.Machine

/-! #### A cause offered to the arms of a choice -/

/-- `t` is `s` with a cause offered to the active arms of a choice. -/
structure Offered (s t : State) (c : Cause) (choice : ArmId → Bool) : Prop where
  same : t = { s with
    arms := t.arms
    session := { s.session with comps := s.flagged choice fun f => (c.flag f).withHalted }
    cmdQueue := t.cmdQueue }
  arms : ∀ m, t.arm m = if choice m then s.haltedArm m ((s.arm m).causes.put c true) else s.arm m

section Offered
variable {s t : State} {c : Cause} {choice : ArmId → Bool}

theorem haltedArm_held (s : State) (n : ArmId) (causes : Causes) : (s.haltedArm n causes).held = (s.arm n).held := by
  unfold State.haltedArm
  split <;> rfl

theorem haltedArm_state (s : State) (n : ArmId) (causes : Causes) : (s.haltedArm n causes).state = .halted := rfl

theorem haltedArm_causes (s : State) (n : ArmId) (causes : Causes) : (s.haltedArm n causes).causes = causes := rfl

theorem haltedArm_commanded (s : State) (n : ArmId) (causes : Causes) (h : (s.armState n).isMoving = true) :
    (s.haltedArm n causes).commanded = .closed := by
  simp only [State.haltedArm, if_pos h]

theorem haltedArm_congr {n : ArmId} (causes : Causes) (harm : t.arm n = s.arm n) (hclock : t.clock = s.clock) :
    t.haltedArm n causes = s.haltedArm n causes := by
  rw [haltedArm_eq, haltedArm_eq, harm, now_of_clock hclock, ahead_of_clock hclock, ahead_of_clock hclock]

theorem Offered.refl (s : State) (c : Cause) : Offered s s c fun _ => false where
  same := by simp [flagged_eq, State.holdsNumber]
  arms _ := rfl

theorem Offered.held (h : Offered s t c choice) (m : ArmId) : (t.arm m).held = (s.arm m).held := by
  rw [h.arms m]
  split
  · exact haltedArm_held s m _
  · rfl

theorem Cause.flag_idem (c : Cause) (f : CompFlags) :
    (c.flag (c.flag f).withHalted).withHalted = (c.flag f).withHalted := by
  unfold Cause.flag
  split <;> rfl

/-- The cause is offered to one more arm, if it is active and taken. -/
theorem Offered.step (h : Offered s t c choice) {n : ArmId} (hn : choice n = false) {p : Bool}
    (hp : p = true → (s.armState n).isActive = true) :
    Offered s (if p then offerCause n c t else t) c fun m => choice m || (m == n && p) := by
  cases p
  case false => simpa using h
  case true =>
    have harm : t.arm n = s.arm n := by rw [h.arms n, if_neg (by rw [hn]; exact Bool.false_ne_true)]
    have hact : (t.armState n).isActive = true := by rw [State.armState, harm]; exact hp rfl
    have hclock : t.clock = s.clock := by rw [h.same]
    have hcomps : t.session.comps = s.flagged choice fun f => (c.flag f).withHalted := by rw [h.same]
    have hflags := flagged_or (other := fun m => m == n) c.flag_idem hcomps h.held
    simp only [if_true, Bool.and_true]
    rw [offerCause_of_active n c t hact, haltedArm_congr _ harm hclock, harm, hflags]
    refine ⟨?_, fun m => ?_⟩
    · rw [h.same]
    · have hget : (t.arms.set n (s.haltedArm n ((s.arm n).causes.put c true))).get m =
          if m = n then s.haltedArm n ((s.arm n).causes.put c true) else t.arms.get m := get_set_arm _ _ _ _
      refine hget.trans ?_
      by_cases hm : m = n
      · subst hm
        simp
      · have ht : t.arms.get m = _ := h.arms m
        simp [hm, ht]

/-- A cause offered, from 1 to 4, to the arms whose state passes a test that only active states pass. -/
theorem offered_forArms (s : State) (c : Cause) (p : ArmState → Bool) (hp : ∀ x, p x = true → x.isActive = true) :
    Offered s (forArms (fun n t => if p (t.armState n) then offerCause n c t else t) s) c
      fun n => p (s.armState n) := by
  have hstep : ∀ {t choice} (n : ArmId), Offered s t c choice → choice n = false →
      Offered s (if p (t.armState n) then offerCause n c t else t) c
        fun m => choice m || (m == n && p (s.armState n)) := by
    intro t choice n h hn
    have hstate : t.armState n = s.armState n := by
      rw [State.armState, h.arms n, if_neg (by rw [hn]; exact Bool.false_ne_true)]
      rfl
    rw [hstate]
    exact h.step hn (hp _)
  have h4 := hstep .a4 (hstep .a3 (hstep .a2 (hstep .a1 (Offered.refl s c) rfl) rfl) rfl) rfl
  have hchoice : (fun m => (((false || (m == .a1 && p (s.armState .a1))) || (m == .a2 && p (s.armState .a2))) ||
      (m == .a3 && p (s.armState .a3))) || (m == .a4 && p (s.armState .a4))) = fun n => p (s.armState n) := by
    funext m
    cases m <;> simp [show ∀ a b : ArmId, (a == b) = decide (a = b) from fun _ _ => rfl]
  rw [hchoice] at h4
  exact h4

theorem offered_moving (s : State) (c : Cause) : Offered s (offerMoving c s) c fun n => (s.armState n).isMoving :=
  offered_forArms s c ArmState.isMoving fun _ => isActive_of_isMoving

theorem offered_active (s : State) (c : Cause) : Offered s (offerActive c s) c fun n => (s.armState n).isActive :=
  offered_forArms s c ArmState.isActive fun _ => id

end Offered

/-! #### The command object (R190) -/

theorem objectAt_command : objectAt 0x18 = some .command := by decide

/-- A command of two bytes: its code and its argument (R190). -/
theorem setCommand_pair (code argument : Byte) (s : State) :
    setCommand [code, argument] s = runCommand code.toNat argument.toNat s := by
  have hcode : fieldNat [code, argument] 0 1 = code.toNat := by simp [fieldNat, beNat]
  have hargument : fieldNat [code, argument] 1 1 = argument.toNat := by simp [fieldNat, beNat]
  rw [setCommand, if_neg (not_not_intro (by rfl)), hcode, hargument]

/-- A command that is done is answered DONE from the state it leaves. -/
theorem hostSet_command_done {code argument : Byte} {s t : State} (h : s.canHear)
    (hr : runCommand code.toNat argument.toNat s.heardHost = (t, .done)) (ht : t.up.outgoing.length < 8) :
    hostSet 0x18 [code, argument] s = t.answersDone 0x18 :=
  hostSet_done (o := .command) h (by simp) objectAt_command ((setCommand_pair _ _ _).trans hr) ht

/-- A command that is refused changes nothing of the part's own. -/
theorem hostSet_command_refused {code argument : Byte} {s : State} {reason : Reason} (h : s.canHear)
    (hr : runCommand code.toNat argument.toNat s.heardHost = (s.heardHost, .refused reason)) :
    hostSet 0x18 [code, argument] s = s.heardHost.answersRefused 0 0x18 reason :=
  hostSet_refused (o := .command) h (by simp) objectAt_command ((setCommand_pair _ _ _).trans hr)

theorem armOfNumber_toNat (n : ArmId) : armOfNumber (BitVec.ofNat 8 (armNumber n)).toNat = some n := by
  cases n <;> rfl

theorem armOfNumber_of_out {k : Nat} (h : k = 0 ∨ 4 < k) : armOfNumber k = none := by
  rcases h with rfl | h
  · rfl
  · obtain ⟨j, rfl⟩ := Nat.exists_eq_add_of_le h
    rw [Nat.add_comm]
    rfl

theorem withArm_arm (n : ArmId) (f : ArmId → State → State × Reply) (s : State) :
    withArm (BitVec.ofNat 8 (armNumber n)).toNat f s = f n s := by
  rw [withArm, armOfNumber_toNat]

theorem withArm_of_out {k : Nat} (h : k = 0 ∨ 4 < k) (f : ArmId → State → State × Reply) (s : State) :
    withArm k f s = (s, .refused .outOfRange) := by
  rw [withArm, armOfNumber_of_out h]

/-! #### ARM STOP, ARM RESUME and ARM CLEAR (R67, R68) -/

theorem isLoading_cases {x : ArmState} (h : x.isLoading = true) : x.isActive = true ∨ x = .halted := by
  revert h
  cases x <;> decide

/-- An arm's valve is proved closed (R67). -/
theorem mayClear_iff (s : State) (n : ArmId) :
    s.mayClear n = true ↔
      s.armState n = .blocked ∧ (∃ tag, (s.config n).valve = some tag ∧ s.nodeOk tag = true) ∧
      ∃ r, (s.arm n).lastValve = some r ∧ r.position = .closed := by
  unfold State.mayClear
  cases (s.config n).valve <;> cases (s.arm n).lastValve <;> simp [and_assoc]

theorem modArm_modArm (s : State) (n : ArmId) (f g : Arm → Arm) :
    (s.modArm n f).modArm n g = s.modArm n fun a => g (f a) := by
  cases n <;> rfl

theorem modArm_eq (s : State) (n : ArmId) (f : Arm → Arm) :
    s.modArm n f = { s with arms := s.arms.set n (f (s.arm n)) } := rfl

theorem arm_of_set {s t : State} {n : ArmId} {a : Arm} (h : t.arms = s.arms.set n a) (m : ArmId) :
    t.arm m = if m = n then a else s.arm m := by
  rw [State.arm, h, get_set_arm]
  rfl

theorem heardHost_cmdQueue (n : ArmId) (p : Position) (s : State) :
    (queueValve n p s.heardHost).cmdQueue = (queueValve n p s).cmdQueue := queueValve_cmdQueue_congr n p rfl rfl rfl

/-- ARM CLEAR of an arm whose valve is proved closed: IDLE, its trip clear, and BAY PERMIT decided anew (R67, R121). -/
theorem armClear_of_mayClear (n : ArmId) (s : State) (h : s.mayClear n = true) :
    armClear n s =
      (decideBayPermit
        { s with arms := s.arms.set n { s.arm n with state := .idle, blockCause := none, trip := false } }, .done) := by
  rw [armClear, if_pos h, clearTrip, modArm_modArm]
  rfl

/-- HOST STOP offered to a loading arm, the host heard (R58, R68). -/
theorem armStop_heardHost (n : ArmId) (s : State) (h : s.canHear) (hloading : (s.armState n).isLoading = true) :
    exec (.armStop (BitVec.ofNat 8 (armNumber n))) s =
      .next ((offerCause n .hostStop s.heardHost).answersDone 0x18) := by
  refine congrArg Host.Outcome.next (hostSet_command_done h ((withArm_arm n armStop _).trans (if_pos hloading)) ?_)
  simpa using heardHost_has_room s h

/-- Settles O28: the two outcomes of each command, and a cause offered by the state of its arm. -/
theorem armCommandsNeedTheirStates : Obligations.ArmCommandsNeedTheirStates := by
  refine ⟨fun s n h => ⟨fun hloading => ?stop, fun hnot => ?stopRefused, fun hhalted hstop => ?resume,
    fun hnot => ?resumeRefused⟩, fun s n h => ?clears, fun s n cause => ?offered⟩
  case stop =>
    rcases isLoading_cases hloading with hact | hhalt
    · have hoffer := offerCause_of_active n .hostStop s.heardHost hact
      rw [heardHost_cmdQueue] at hoffer
      have hexec := armStop_heardHost n s h hloading
      rw [hoffer] at hexec
      have harm := fun m => arm_of_set (s := s) (t := (offerCause n .hostStop s.heardHost).answersDone 0x18) (n := n)
        (a := s.haltedArm n { (s.arm n).causes with hostStop := true }) (by rw [hoffer]; rfl) m
      rw [hoffer] at harm
      refine ⟨_, hexec, ?_, ?_, ?_, fun m hm => ?_, fun _ => rfl, fun hhalt => ?_⟩
      · rw [State.armState, harm, if_pos rfl, haltedArm_state]
      · rw [harm, if_pos rfl, haltedArm_causes]
      · rw [harm, if_pos rfl, haltedArm_held]
      · rw [harm, if_neg hm]
      · rw [hhalt] at hact
        exact absurd hact (by decide)
    · have hoffer := offerCause_of_halted n .hostStop s.heardHost hhalt
      rw [show Cause.flag .hostStop = fun f => f from rfl, flagged_id] at hoffer
      have hexec := armStop_heardHost n s h hloading
      rw [hoffer] at hexec
      have harm := fun m => arm_of_set (s := s) (t := (offerCause n .hostStop s.heardHost).answersDone 0x18) (n := n)
        (a := { s.arm n with causes := { (s.arm n).causes with hostStop := true } }) (by rw [hoffer]; rfl) m
      rw [hoffer] at harm
      refine ⟨_, hexec, ?_, ?_, ?_, fun m hm => ?_, fun hact => ?_, fun _ => rfl⟩
      · rw [State.armState, harm, if_pos rfl]
        exact hhalt
      · rw [harm, if_pos rfl]
      · rw [harm, if_pos rfl]
      · rw [harm, if_neg hm]
      · rw [hhalt] at hact
        exact absurd hact (by decide)
  case stopRefused =>
    exact congrArg Host.Outcome.next (hostSet_command_refused h ((withArm_arm n armStop _).trans
      (if_neg (by rw [show (s.heardHost.armState n).isLoading = false from hnot]; exact Bool.false_ne_true))))
  case resume =>
    exact congrArg Host.Outcome.next (hostSet_command_done h ((withArm_arm n armResume _).trans
      (if_pos ⟨hhalted, hstop⟩)) (heardHost_has_room s h))
  case resumeRefused =>
    have hno : ¬(s.heardHost.armState n = .halted ∧ (s.heardHost.arm n).causes.hostStop = true) := fun hboth =>
      hnot.elim (fun hne => hne hboth.1) fun hfalse => Bool.false_ne_true (hfalse.symm.trans hboth.2)
    exact congrArg Host.Outcome.next (hostSet_command_refused h ((withArm_arm n armResume _).trans (if_neg hno)))
  case clears =>
    intro proven
    refine ⟨fun hproven => ?clear, fun hnot => ?clearRefused, fun argument hout => ⟨?clearOut, ?stopOut, ?resumeOut⟩⟩
    case clear =>
      have hclear := armClear_of_mayClear n s.heardHost ((mayClear_iff s.heardHost n).2 hproven)
      refine ⟨_, congrArg Host.Outcome.next (hostSet_command_done h ((withArm_arm n armClear _).trans hclear)
        (heardHost_has_room s h)), ?_, fun m hm => ?_, rfl, rfl⟩
      · exact (arm_of_set (s := s) rfl n).trans (if_pos rfl)
      · exact (arm_of_set (s := s) rfl m).trans (if_neg hm)
    case clearRefused =>
      have hno : ¬s.heardHost.mayClear n = true := fun hmay => hnot ((mayClear_iff s.heardHost n).1 hmay)
      exact congrArg Host.Outcome.next (hostSet_command_refused h ((withArm_arm n armClear _).trans (if_neg hno)))
    case clearOut => exact congrArg Host.Outcome.next (hostSet_command_refused h (withArm_of_out hout armClear _))
    case stopOut => exact congrArg Host.Outcome.next (hostSet_command_refused h (withArm_of_out hout armStop _))
    case resumeOut => exact congrArg Host.Outcome.next (hostSet_command_refused h (withArm_of_out hout armResume _))
  case offered =>
    intro causes flag
    have hcauses : causes = (s.arm n).causes.put cause true := by cases cause <;> rfl
    rw [hcauses]
    exact ⟨offerCause_of_active n cause s, offerCause_of_halted n cause s, offerCause_of_not_loading n cause s⟩

/-! #### SERVICE requested (R161) -/

theorem requestService_of_not_run (s : State) (h : s.mode ≠ .run) : requestService s = s := by
  unfold requestService
  split
  · rfl
  · rfl
  next hrun => exact absurd hrun h

theorem requestService_of_run (s : State) (h : s.mode = .run) :
    requestService s = leaveRun (if s.session.state = .vacant then .service else .servicePending) s := by
  rw [requestService, h]
  exact (apply_ite (fun m => leaveRun m s) _ _ _).symm

/-- Leaving RUN de-energizes BAY PERMIT (R121, R161). -/
theorem leaveRun_permissive (m : Mode) (s : State) (h : m ≠ .run) :
    (leaveRun m s).permissive = { s.permissive with bayPermit := false } := by
  have hperm : (offerMoving .driverStop (s.setMode m)).permissive = s.permissive := by simp
  have hmode : (offerMoving .driverStop (s.setMode m)).mode = m := by simp
  have hholds : (offerMoving .driverStop (s.setMode m)).bayPermitHolds = false := by
    refine Bool.eq_false_iff.2 fun hh => h ?_
    obtain ⟨hrun, -⟩ := (bayPermitHolds_iff _).1 hh
    exact hmode.symm.trans hrun
  rw [leaveRun, decideBayPermit, modPermissive_permissive, hholds, hperm]

theorem setModeObject_of_service {s t : State} (h : requestService s = t) : setModeObject [0] s = (t, .done) := by
  rw [setModeObject_service, h]

/-- Settles O19, from the causes offered to the moving arms and the mode left. -/
theorem serviceRequestLeavesRun : Obligations.ServiceRequestLeavesRun := by
  intro s h
  refine ⟨fun hmode => ?stays, fun hmode => ?leaves⟩
  case stays =>
    exact congrArg Host.Outcome.next (hostSet_done (o := .mode) h (by simp) objectAt_mode
      (setModeObject_of_service (requestService_of_not_run s.heardHost hmode)) (heardHost_has_room s h))
  case leaves =>
    have hrequest := requestService_of_run s.heardHost hmode
    have hm : (if s.heardHost.session.state = .vacant then Mode.service else .servicePending) =
        if s.session.state = .vacant then .service else .servicePending := rfl
    rw [hm] at hrequest
    have hne : (if s.session.state = .vacant then Mode.service else .servicePending) ≠ .run := by
      split <;> decide
    generalize (if s.session.state = .vacant then Mode.service else .servicePending) = m at hrequest hne ⊢
    have hoffered := offered_moving (s.heardHost.setMode m) .driverStop
    have hup : (leaveRun m s.heardHost).up = s.heardHost.up := by simp [leaveRun]
    have hexec : exec .setService s = .next ((leaveRun m s.heardHost).answersDone 1) :=
      congrArg Host.Outcome.next (hostSet_done (o := .mode) h (by simp) objectAt_mode
        (setModeObject_of_service hrequest) (by rw [hup]; exact heardHost_has_room s h))
    have harm : ∀ n, ((leaveRun m s.heardHost).answersDone 1).arm n =
        if (s.armState n).isMoving then s.haltedArm n { (s.arm n).causes with driverStop := true } else s.arm n :=
      hoffered.arms
    refine ⟨_, hexec, ?_, leaveRun_permissive m _ hne, fun n hn => ?_, fun n hn => ?_, ?_, ?_, ?_⟩
    · exact congrArg State.mode hoffered.same
    · rw [harm, if_pos hn]
    · rw [harm, if_neg (Bool.eq_false_iff.1 hn)]
    · exact congrArg State.session hoffered.same
    · rw [State.answersDone, State.answers, hup]
      rfl
    · rw [state_eq_iff]
      simp [State.answersDone, State.answers, leaveRun, State.heardHost, State.heard]

/-! #### Deadlines of the permissive unit (R113, R115, R118, R119) -/

theorem reached_of_some {s : State} {deadline : Option Ms} {d : Ms} (hd : deadline = some d)
    (h : (s.clock.ms - d).toNat < 2147483648) : s.reached deadline = true := by
  rw [hd]
  exact decide_eq_true h

/-- The report age has expired: the health is lost, if it was there (R113, R115). -/
theorem reportExpiry_eq (s : State) :
    reportExpiry s =
      if s.permissive.healthy then
        offerActive .permissive { s with permissive := { s.permissive with ageDeadline := none, healthy := false } }
      else { s with permissive := { s.permissive with ageDeadline := none, healthy := false } } := by
  have hholds : (s.modPermissive fun p => { p with ageDeadline := none }).healthHolds = false := by
    simp [State.healthHolds]
  rw [reportExpiry, decideHealth, hholds]
  cases hh : s.permissive.healthy <;> simp [hh, State.modPermissive]

theorem someMoving_iff (s : State) : s.someMoving = true ↔ ∃ n : ArmId, (s.armState n).isMoving = true :=
  any_armIds_iff fun n => (s.armState n).isMoving

/-- Settles O59, from the causes offered to the active and to the moving arms. -/
theorem permissiveDeadlinesHaltTheArms : Obligations.PermissiveDeadlinesHaltTheArms := by
  refine ⟨fun s d hd hreached => ?age, fun s d hreached => ⟨fun hlive hd => ?warning, fun hstate hd => ?expiry⟩⟩
  case age =>
    have hexec : exec .reportAgeExpiry s = .next (reportExpiry s) :=
      congrArg Host.Outcome.next (if_pos (reached_of_some hd hreached))
    rw [hexec, reportExpiry_eq]
    cases hhealthy : s.permissive.healthy
    case false => exact ⟨_, rfl, rfl, nofun, fun _ _ => rfl, fun _ => rfl, rfl⟩
    case true =>
      have hoffered := offered_active
        { s with permissive := { s.permissive with ageDeadline := none, healthy := false } } .permissive
      have hperm : ∀ {t : State}, t = offerActive .permissive
          { s with permissive := { s.permissive with ageDeadline := none, healthy := false } } →
          t.permissive = { s.permissive with ageDeadline := none, healthy := false } := fun ht => by rw [ht]; simp
      have harm : ∀ n, (offerActive .permissive
          { s with permissive := { s.permissive with ageDeadline := none, healthy := false } }).arm n =
          if (s.armState n).isActive then s.haltedArm n { (s.arm n).causes with permissive := true } else s.arm n :=
        hoffered.arms
      rw [if_pos rfl]
      refine ⟨_, rfl, hperm rfl, fun _ n hn => ?_, fun n hn => ?_, nofun, ?_⟩
      · rw [State.armState, harm, if_pos hn]
        exact ⟨rfl, rfl⟩
      · rw [harm, if_neg (Bool.eq_false_iff.1 hn)]
      · rw [state_eq_iff]
        simp
  case warning =>
    have hdue : s.warningDue = true := by rw [State.warningDue, hlive, reached_of_some hd hreached]; rfl
    have hexec : exec .deadmanWarning s = .next (warnDeadman s) := congrArg Host.Outcome.next (if_pos hdue)
    rw [hexec, warnDeadman]
    cases hmoving : s.someMoving
    case false =>
      refine ⟨_, rfl, rfl, fun hn => ?_, fun _ => rfl, rfl⟩
      exact absurd ((someMoving_iff s).2 hn) (by rw [hmoving]; exact Bool.false_ne_true)
    case true =>
      obtain ⟨n, hn⟩ := (someMoving_iff s).1 hmoving
      refine ⟨_, rfl, by simp, fun _ => rfl, fun hall => ?_, ?_⟩
      · exact absurd ((hall n).symm.trans hn) Bool.false_ne_true
      · rw [state_eq_iff]
        simp
  case expiry =>
    have hdue : s.deadmanOverdue = true := by
      rw [State.deadmanOverdue, reached_of_some hd hreached, Bool.and_true, Bool.or_eq_true, beq_iff_eq, beq_iff_eq]
      exact hstate
    have hexec : exec .deadmanExpiry s = .next (expireDeadman s) := congrArg Host.Outcome.next (if_pos hdue)
    have hoffered := offered_moving
      (s.modPermissive fun p => { p with deadman := .expired, warnAt := none, expireAt := none }) .deadman
    have harm : ∀ n, (expireDeadman s).arm n =
        if (s.armState n).isMoving then s.haltedArm n { (s.arm n).causes with deadman := true } else s.arm n :=
      hoffered.arms
    rw [hexec]
    refine ⟨_, rfl, by simp [expireDeadman], fun n hn => ?_, fun n hn => ?_, ?_⟩
    · rw [State.armState, harm, if_pos hn]
      exact ⟨rfl, haltedArm_commanded s n _ hn, rfl⟩
    · rw [harm, if_neg (Bool.eq_false_iff.1 hn)]
    · rw [state_eq_iff]
      simp

end Sys2Proof.Machine
end

section
/-! ### Records as bytes (10, "Encodings", "Record layouts") -/

namespace Sys2Proof.Machine

/-! #### Numbers, high byte first -/

theorem beNat_nil : beNat [] = 0 := rfl

theorem beNat_append (xs : List Byte) (x : Byte) : beNat (xs ++ [x]) = beNat xs * 256 + x.toNat := by
  simp [beNat, List.foldl_append]

theorem beNat_singleton (x : Byte) : beNat [x] = x.toNat := by simp [beNat]

theorem beNat_lt (bs : List Byte) : beNat bs < 256 ^ bs.length := by
  induction bs using List.reverseRecOn with
  | nil => exact Nat.one_pos
  | append_singleton xs x ih =>
    have hx := x.isLt
    rw [beNat_append, List.length_append, List.length_singleton, Nat.pow_succ]
    omega

theorem byte_eq_iff (v : Nat) (x : Byte) : BitVec.ofNat 8 v = x ↔ v % 256 = x.toNat := by
  rw [← BitVec.toNat_inj, BitVec.toNat_ofNat]

theorem append_eq_iff {as bs cs ds : List Byte} (h : as.length = cs.length) :
    as ++ bs = cs ++ ds ↔ as = cs ∧ bs = ds :=
  ⟨fun he => List.append_inj he h, fun ⟨h1, h2⟩ => h1 ▸ h2 ▸ rfl⟩

/-- A number's bytes are some bytes just when those bytes carry the number. -/
theorem beBytes_eq_iff (v : Nat) (bs : List Byte) : beBytes bs.length v = bs ↔ v % 256 ^ bs.length = beNat bs := by
  induction bs using List.reverseRecOn generalizing v with
  | nil => simp [beBytes, beNat_nil, Nat.mod_one]
  | append_singleton xs x ih =>
    have hx := x.isLt
    have hlen : (beBytes xs.length (v / 256)).length = xs.length := length_beBytes _ _
    rw [List.length_append, List.length_singleton, beBytes, beNat_append, append_eq_iff hlen, ih, List.singleton_inj,
      byte_eq_iff, Nat.pow_succ, Nat.mul_comm, Nat.mod_mul]
    omega

theorem beNat_beBytes (n v : Nat) : beNat (beBytes n v) = v % 256 ^ n := by
  have h := (beBytes_eq_iff v (beBytes n v)).1 (by rw [length_beBytes])
  rw [length_beBytes] at h
  exact h.symm

theorem beBytes_beNat (bs : List Byte) : beBytes bs.length (beNat bs) = bs :=
  (beBytes_eq_iff _ _).2 (Nat.mod_eq_of_lt (beNat_lt bs))

theorem beBytes_append_eq_iff (v : Nat) (bs l m : List Byte) :
    beBytes bs.length v ++ l = bs ++ m ↔ v % 256 ^ bs.length = beNat bs ∧ l = m := by
  rw [append_eq_iff (length_beBytes _ _), beBytes_eq_iff]

section Fields
variable (v : Nat) (x y z w : Byte) (l m : List Byte)

theorem beBytes_two_eq : beBytes 2 v = [x, y] ↔ v % 65536 = beNat [x, y] := by
  simpa using beBytes_eq_iff v [x, y]

theorem beBytes_two_append : beBytes 2 v ++ l = x :: y :: m ↔ v % 65536 = beNat [x, y] ∧ l = m := by
  simpa using beBytes_append_eq_iff v [x, y] l m

theorem beBytes_three_append : beBytes 3 v ++ l = x :: y :: z :: m ↔ v % 16777216 = beNat [x, y, z] ∧ l = m := by
  simpa using beBytes_append_eq_iff v [x, y, z] l m

theorem beBytes_four_append :
    beBytes 4 v ++ l = x :: y :: z :: w :: m ↔ v % 4294967296 = beNat [x, y, z, w] ∧ l = m := by
  simpa using beBytes_append_eq_iff v [x, y, z, w] l m

theorem beNat_two_lt : beNat [x, y] < 65536 := by simpa using beNat_lt [x, y]

theorem beNat_three_lt : beNat [x, y, z] < 16777216 := by simpa using beNat_lt [x, y, z]

theorem beNat_four_lt : beNat [x, y, z, w] < 4294967296 := by simpa using beNat_lt [x, y, z, w]

end Fields

/-- The field reading of a payload written out byte by byte. -/
theorem fieldNat_cons_succ (x : Byte) (l : List Byte) (off len : Nat) :
    fieldNat (x :: l) (off + 1) len = fieldNat l off len := rfl

/-! #### Tags and small codes -/

/-- A tag field names a node tag or is absent (R45). -/
theorem optTagOf_eq_some (x : Byte) (m : Option Tag) :
    optTagOf x.toNat = some m ↔ optTagCode m = x ∧ ∀ u, m = some u → 1 ≤ u.toNat ∧ u.toNat ≤ 62 := by
  have hx := x.isLt
  unfold optTagOf
  split
  next h0 =>
    have hzero : x = 0 := BitVec.eq_of_toNat_eq h0
    subst hzero
    cases m with
    | none => simp [optTagCode]
    | some u =>
      refine iff_of_false (by simp) fun ⟨hu, hrange⟩ => ?_
      have hu' := congrArg BitVec.toNat hu
      have := (hrange u rfl).1
      have := u.isLt
      simp [optTagCode] at hu'
      omega
  next h0 =>
    split
    next h62 =>
      have hcode : ∀ u : Tag, BitVec.ofNat 6 x.toNat = u ↔ optTagCode (some u) = x ∧ 1 ≤ u.toNat ∧ u.toNat ≤ 62 := by
        intro u
        have hu := u.isLt
        rw [optTagCode, ← BitVec.toNat_inj, ← BitVec.toNat_inj, BitVec.toNat_ofNat, BitVec.toNat_setWidth]
        omega
      cases m with
      | none =>
        refine iff_of_false (by simp) fun ⟨hu, _⟩ => h0 ?_
        rw [← hu]
        rfl
      | some u => simpa using hcode u
    next h62 =>
      refine iff_of_false (by simp) fun ⟨hu, hrange⟩ => ?_
      cases m with
      | none =>
        apply h0
        rw [← hu]
        rfl
      | some u =>
        have hu' := congrArg BitVec.toNat hu
        have := hrange u rfl
        have hlt := u.isLt
        simp [optTagCode] at hu'
        omega

/-! #### Arm configuration records (R45) -/

theorem tagsDiffer_iff (tags : List (Option Tag)) : tagsDiffer tags = true ↔ (tags.filterMap id).Nodup := decide_eq_true_iff

theorem inRange_iff (x lo hi : Nat) : inRange x lo hi = true ↔ lo ≤ x ∧ x ≤ hi := by simp [inRange]

theorem ArmConfig.ok_iff (c : ArmConfig) :
    c.ok = true ↔
      ([c.meter, c.temp, c.valve, c.injector.s1, c.injector.s2].filterMap id).Nodup ∧ 1000 ≤ c.kFactor ∧
        c.kFactor ≤ 500000 ∧ 100 ≤ c.maxFlow ∧ c.maxFlow ≤ 5000 ∧ 50 ≤ c.startVolume ∧ c.startVolume ≤ 500 ∧
        50 ≤ c.trimVolume ∧ c.trimVolume ≤ 1000 ∧ c.initialAnt ≤ 50 ∧ 5 ≤ c.overrunLimit ∧ c.overrunLimit ≤ 200 := by
  simp only [ArmConfig.ok, Bool.and_eq_true, inRange_iff, tagsDiffer_iff, decide_eq_true_eq, and_assoc]

theorem forall_present_iff (p : Tag → Prop) (a b c d e : Option Tag) :
    (∀ u ∈ [a, b, c, d, e].filterMap id, p u) ↔
      (∀ u, a = some u → p u) ∧ (∀ u, b = some u → p u) ∧ (∀ u, c = some u → p u) ∧ (∀ u, d = some u → p u) ∧
        ∀ u, e = some u → p u := by
  simp [List.mem_filterMap, or_imp, forall_and, eq_comm]

/-- What a reading of a configuration record is made of. -/
theorem readConfig_fields (r : List Byte) (c : ArmConfig) :
    readConfig r = some c ↔
      optTagOf (fieldNat r 0 1) = some c.meter ∧ optTagOf (fieldNat r 1 1) = some c.temp ∧
        optTagOf (fieldNat r 2 1) = some c.valve ∧ optTagOf (fieldNat r 3 1) = some c.injector.s1 ∧
        optTagOf (fieldNat r 4 1) = some c.injector.s2 ∧ c.kFactor = fieldNat r 5 4 ∧ c.maxFlow = fieldNat r 9 2 ∧
        c.startVolume = fieldNat r 11 2 ∧ c.trimVolume = fieldNat r 13 2 ∧ c.initialAnt = fieldNat r 15 1 ∧
        c.overrunLimit = fieldNat r 16 1 ∧ c.ok = true := by
  constructor
  · intro h
    unfold readConfig at h
    split at h
    next hm ht hv h1 h2 =>
      dsimp only at h
      split at h
      next hok =>
        cases h
        exact ⟨hm, ht, hv, h1, h2, rfl, rfl, rfl, rfl, rfl, rfl, hok⟩
      next => cases h
    next => cases h
  · rintro ⟨hm, ht, hv, h1, h2, hk, hf, hs, htr, ha, ho, hok⟩
    unfold readConfig
    rw [hm, ht, hv, h1, h2, ← hk, ← hf, ← hs, ← htr, ← ha, ← ho]
    exact if_pos hok

/-- A configuration record is accepted exactly when it is the record of a configuration in its ranges (R45). -/
theorem readConfig_eq_some (payload : List Byte) (c : ArmConfig) (hlen : payload.length = 17) :
    readConfig payload = some c ↔
      payload = configBytes c ∧ c.ok = true ∧
        ∀ u ∈ [c.meter, c.temp, c.valve, c.injector.s1, c.injector.s2].filterMap id, 1 ≤ u.toNat ∧ u.toNat ≤ 62 := by
  match payload, hlen with
  | [x0, x1, x2, x3, x4, x5, x6, x7, x8, x9, x10, x11, x12, x13, x14, x15, x16], _ =>
    have hk := beNat_four_lt x5 x6 x7 x8
    have hf := beNat_two_lt x9 x10
    have hs := beNat_two_lt x11 x12
    have ht := beNat_two_lt x13 x14
    have ha := x15.isLt
    have ho := x16.isLt
    rw [readConfig_fields, eq_comm (a := [x0, x1, x2, x3, x4, x5, x6, x7, x8, x9, x10, x11, x12, x13, x14, x15, x16])]
    simp only [fieldNat, List.drop_succ_cons, List.drop_zero, List.take_succ_cons, List.take_zero, beNat_singleton,
      optTagOf_eq_some, configBytes, List.append_assoc, List.cons_append, List.nil_append, List.cons.injEq,
      beBytes_four_append, beBytes_two_append, byteOf, byte_eq_iff, ArmConfig.ok_iff, forall_present_iff]
    constructor
    · rintro ⟨⟨e0, r0⟩, ⟨e1, r1⟩, ⟨e2, r2⟩, ⟨e3, r3⟩, ⟨e4, r4⟩, ek, ef, es, et, ea, eo, hok⟩
      exact ⟨⟨e0, e1, e2, e3, e4, by omega, by omega, by omega, by omega, by omega, by omega, trivial⟩, hok,
        r0, r1, r2, r3, r4⟩
    · rintro ⟨⟨e0, e1, e2, e3, e4, ek, ef, es, et, ea, eo, -⟩, hok, r0, r1, r2, r3, r4⟩
      obtain ⟨-, hk1, hk2, hf1, hf2, hs1, hs2, ht1, ht2, ha1, ho1, ho2⟩ := id hok
      exact ⟨⟨e0, r0⟩, ⟨e1, r1⟩, ⟨e2, r2⟩, ⟨e3, r3⟩, ⟨e4, r4⟩, by omega, by omega, by omega, by omega, by omega,
        by omega, hok⟩

/-! #### Acceptance and scan entries (R174, R165) -/

theorem setWidth_eq_iff {n : Nat} (hn : n ≤ 8) (v : BitVec n) (x : Byte) :
    v.setWidth 8 = x ↔ v = BitVec.ofNat n x.toNat ∧ x.toNat < 2 ^ n := by
  have hv : v.toNat < 2 ^ 8 := Nat.lt_of_lt_of_le v.isLt (Nat.pow_le_pow_right (by decide) hn)
  rw [← BitVec.toNat_inj, ← BitVec.toNat_inj, BitVec.toNat_setWidth, BitVec.toNat_ofNat, Nat.mod_eq_of_lt hv]
  constructor
  · intro h
    rw [← h]
    exact ⟨(Nat.mod_eq_of_lt v.isLt).symm, v.isLt⟩
  · rintro ⟨h, hx⟩
    rw [h, Nat.mod_eq_of_lt hx]

theorem toNat_mod_eq_iff (v : ObjAddr) {k : Nat} (hk : k < 65536) : v.toNat % 65536 = k ↔ v = BitVec.ofNat 16 k := by
  rw [← BitVec.toNat_inj, BitVec.toNat_ofNat]
  have := v.isLt
  omega

theorem matchDirOf_eq_some (v : Nat) (d : MatchDir) : matchDirOf v = some d ↔ v = matchDirCode d := by
  unfold matchDirOf
  split <;> cases d <;> grind [matchDirCode]

theorem actionOf_eq_some (v : Nat) (a : Action) : actionOf v = some a ↔ v = actionCode a := by
  unfold actionOf
  split <;> cases a <;> grind [actionCode]

/-- The number of an arm that may be absent. -/
def armCode (n : Option ArmId) : Nat := n.elim 0 armNumber

/-- The number of an injector slot that may be absent. -/
def slotCode (k : Option Slot) : Nat := k.elim 0 slotNumber

theorem armOfNumber_eq_some (v : Nat) (n : ArmId) : armOfNumber v = some n ↔ v = armNumber n := by
  unfold armOfNumber
  split <;> cases n <;> grind [armNumber]

theorem slotOfNumber_eq_some (v : Nat) (k : Slot) : slotOfNumber v = some k ↔ v = slotNumber k := by
  unfold slotOfNumber
  split <;> cases k <;> grind [slotNumber]

theorem matchDirCode_lt (d : MatchDir) : matchDirCode d < 256 := by cases d <;> decide

theorem actionCode_lt (a : Action) : actionCode a < 256 := by cases a <;> decide

theorem armCode_lt (n : Option ArmId) : armCode n < 256 := by rcases n with _ | _ | _ | _ | _ <;> decide

theorem slotCode_lt (k : Option Slot) : slotCode k < 256 := by rcases k with _ | _ | _ <;> decide

theorem acceptanceBytes_eq (e : AcceptanceEntry) :
    acceptanceBytes e =
      [byteOf (matchDirCode e.dir), e.kinds.setWidth 8, e.tagVal.setWidth 8, e.tagMask.setWidth 8] ++
        beBytes 2 e.objVal.toNat ++ beBytes 2 e.objMask.toNat ++
        [byteOf (actionCode e.cls.action), byteOf (armCode e.cls.arm), byteOf (slotCode e.cls.slot)] := by
  unfold acceptanceBytes
  cases e.cls.arm <;> cases e.cls.slot <;> rfl

/-- Arm and slot present exactly where the action takes them (R174). -/
def FrameClass.fits (c : FrameClass) : Prop :=
  (c.arm.isSome = true ↔ c.action.takesArm = true) ∧ (c.slot.isSome = true ↔ c.action.takesSlot = true)

/-- A field that names something just where it is taken. -/
theorem takenField_iff {α : Type} {ofNumber : Nat → Option α} {number : α → Nat}
    (h : ∀ v x, ofNumber v = some x ↔ v = number x) (h0 : ∀ x, number x ≠ 0) (takes : Bool) (v : Nat) (m : Option α) :
    (if takes then (ofNumber v).isSome else decide (v = 0)) = true ∧ ofNumber v = m ↔
      v = m.elim 0 number ∧ (m.isSome = true ↔ takes = true) := by
  cases m with
  | some x =>
    rw [h, Option.elim_some]
    constructor
    · rintro ⟨htakes, rfl⟩
      cases takes with
      | true => exact ⟨rfl, iff_of_true rfl rfl⟩
      | false => exact absurd (of_decide_eq_true htakes) (h0 x)
    · rintro ⟨rfl, htakes⟩
      rw [if_pos (htakes.1 rfl), (h _ x).2 rfl]
      exact ⟨rfl, rfl⟩
  | none =>
    cases takes with
    | true => simp +contextual [Option.isSome_iff_ne_none]
    | false =>
      have hnone : ofNumber 0 = none := Option.eq_none_iff_forall_ne_some.2 fun x hx => h0 x ((h 0 x).1 hx).symm
      simp +contextual [hnone]

/-- What a reading of an action, an arm and a slot is made of. -/
theorem readClass_eq_some (v n k : Nat) (c : FrameClass) :
    readClass v n k = some c ↔ v = actionCode c.action ∧ n = armCode c.arm ∧ k = slotCode c.slot ∧ c.fits := by
  have harm := takenField_iff armOfNumber_eq_some nofun c.action.takesArm n c.arm
  have hslot := takenField_iff slotOfNumber_eq_some nofun c.action.takesSlot k c.slot
  rw [← actionOf_eq_some]
  unfold readClass
  split
  next hnone => simp [hnone]
  next a ha =>
    obtain ⟨action, arm, slot⟩ := c
    simp only [ha, Option.ite_none_right_eq_some, Bool.and_eq_true, Option.some.injEq, FrameClass.mk.injEq] at harm hslot ⊢
    constructor
    · rintro ⟨⟨ta, ts⟩, rfl, ea, es⟩
      obtain ⟨na, fa⟩ := harm.1 ⟨ta, ea⟩
      obtain ⟨ns, fs⟩ := hslot.1 ⟨ts, es⟩
      exact ⟨rfl, na, ns, fa, fs⟩
    · rintro ⟨rfl, na, ns, fa, fs⟩
      obtain ⟨ta, ea⟩ := harm.2 ⟨na, fa⟩
      obtain ⟨ts, es⟩ := hslot.2 ⟨ns, fs⟩
      exact ⟨⟨ta, ts⟩, rfl, ea, es⟩

/-- A used acceptance entry in its ranges (R174). -/
def AcceptanceEntry.used (e : AcceptanceEntry) : Prop :=
  e.kinds ≠ 0 ∧ e.tagVal &&& ~~~e.tagMask = 0 ∧ e.objVal &&& ~~~e.objMask = 0 ∧ e.cls.fits

/-- What a reading of a used acceptance entry is made of. -/
theorem readAcceptance_fields (r : List Byte) (e : AcceptanceEntry) (hused : fieldNat r 1 1 ≠ 0) :
    readAcceptance r = some e ↔
      (fieldNat r 0 1 = matchDirCode e.dir ∧ fieldNat r 8 1 = actionCode e.cls.action ∧
        fieldNat r 9 1 = armCode e.cls.arm ∧ fieldNat r 10 1 = slotCode e.cls.slot ∧
        (e.kinds = BitVec.ofNat 4 (fieldNat r 1 1) ∧ fieldNat r 1 1 < 16) ∧
        (e.tagVal = BitVec.ofNat 6 (fieldNat r 2 1) ∧ fieldNat r 2 1 < 64) ∧
        (e.tagMask = BitVec.ofNat 6 (fieldNat r 3 1) ∧ fieldNat r 3 1 < 64) ∧
        e.objVal = BitVec.ofNat 16 (fieldNat r 4 2) ∧ e.objMask = BitVec.ofNat 16 (fieldNat r 6 2)) ∧
        e.tagVal &&& ~~~e.tagMask = 0 ∧ e.objVal &&& ~~~e.objMask = 0 ∧ e.cls.fits := by
  rw [readAcceptance, if_neg hused, ← matchDirOf_eq_some]
  have hcls := readClass_eq_some (fieldNat r 8 1) (fieldNat r 9 1) (fieldNat r 10 1)
  split
  next dir cls hdir hclass =>
    obtain ⟨hact, harm, hslot, hfits⟩ := (hcls cls).1 hclass
    dsimp only
    constructor
    · intro h
      split at h
      next hok =>
        obtain ⟨hk, ht, hm, hv, hw⟩ := hok
        cases h
        exact ⟨⟨hdir, hact, harm, hslot, ⟨rfl, by omega⟩, ⟨rfl, by omega⟩, ⟨rfl, by omega⟩, rfl, rfl⟩, hv, hw, hfits⟩
      next => cases h
    · rintro ⟨⟨ed, ea, en, es, ⟨ek, hk⟩, ⟨et, ht⟩, ⟨em, hm⟩, ev, ew⟩, hv, hw, hf⟩
      obtain rfl := Option.some.inj (hdir.symm.trans ed)
      obtain rfl := Option.some.inj (hclass.symm.trans ((hcls e.cls).2 ⟨ea, en, es, hf⟩))
      rw [← ek, ← et, ← em, ← ev, ← ew, if_pos ⟨by omega, by omega, by omega, hv, hw⟩]
  next hnone =>
    refine iff_of_false nofun ?_
    rintro ⟨⟨ed, ea, en, es, -⟩, -, -, hf⟩
    exact hnone _ _ ed ((hcls e.cls).2 ⟨ea, en, es, hf⟩)

/-- An acceptance entry is accepted exactly when it is unused and all zero but for PASS, or it is the record of a
used entry in its ranges (R174). -/
theorem readAcceptance_eq_some (a : List Byte) (e : AcceptanceEntry) (hlen : a.length = 11) :
    readAcceptance a = some e ↔ a = acceptanceBytes e ∧ (e = {} ∨ e.used) := by
  match a, hlen with
  | [x0, x1, x2, x3, x4, x5, x6, x7, x8, x9, x10], _ =>
    have hv := beNat_two_lt x4 x5
    have hw := beNat_two_lt x6 x7
    have hk := setWidth_eq_iff (n := 4) (by decide) e.kinds x1
    have hkinds0 (hx1 : x1.toNat ≠ 0) (hx2 : x1.toNat < 16) : BitVec.ofNat 4 x1.toNat ≠ 0 := fun h => by
      have := congrArg BitVec.toNat h
      rw [BitVec.toNat_ofNat, Nat.mod_eq_of_lt hx2] at this
      exact hx1 this
    by_cases hused : x1.toNat = 0
    · have hempty : acceptanceBytes {} = [0, 0, 0, 0, 0, 0, 0, 0, 8, 0, 0] := by decide
      have hread : readAcceptance [x0, x1, x2, x3, x4, x5, x6, x7, x8, x9, x10] = some e ↔
          [x0, x1, x2, x3, x4, x5, x6, x7, x8, x9, x10] = acceptanceBytes {} ∧ e = {} := by
        rw [hempty, eq_comm (a := e)]
        simp [readAcceptance, fieldNat, beNat, hused, ← BitVec.toNat_inj]
        omega
      rw [hread]
      refine ⟨fun ⟨hbytes, he⟩ => ⟨he.symm ▸ hbytes, .inl he⟩, fun ⟨hbytes, he⟩ => ?_⟩
      rcases he with rfl | ⟨hkinds, -⟩
      · exact ⟨hbytes, rfl⟩
      · have hx1 : e.kinds.setWidth 8 = x1 := by
          rw [acceptanceBytes_eq] at hbytes
          exact (List.cons.inj (List.cons.inj hbytes).2).1.symm
        rw [hused] at hk
        exact absurd (hk.1 hx1).1 hkinds
    · rw [readAcceptance_fields _ _ (by simpa [fieldNat, beNat_singleton] using hused),
        eq_comm (a := [x0, x1, x2, x3, x4, x5, x6, x7, x8, x9, x10]), acceptanceBytes_eq]
      have hdir := matchDirCode_lt e.dir
      have hact := actionCode_lt e.cls.action
      have harm := armCode_lt e.cls.arm
      have hslot := slotCode_lt e.cls.slot
      simp only [fieldNat, List.drop_succ_cons, List.drop_zero, List.take_succ_cons, List.take_zero, beNat_singleton,
        List.append_assoc, List.cons_append, List.nil_append, List.cons.injEq,
        beBytes_two_append, byteOf, byte_eq_iff, setWidth_eq_iff (n := 4) (by decide),
        setWidth_eq_iff (n := 6) (by decide), AcceptanceEntry.used, toNat_mod_eq_iff _ hv, toNat_mod_eq_iff _ hw]
      constructor
      · rintro ⟨⟨ed, ea, en, es, ek, et, em, ev, ew⟩, hfit⟩
        exact ⟨⟨by omega, ek, et, em, ev, ew, by omega, by omega, by omega, trivial⟩,
          .inr ⟨ek.1 ▸ hkinds0 hused ek.2, hfit⟩⟩
      · rintro ⟨⟨ed, ek, et, em, ev, ew, ea, en, es, -⟩, he⟩
        refine ⟨⟨by omega, by omega, by omega, by omega, ek, et, em, ev, ew⟩, ?_⟩
        rcases he with rfl | ⟨-, hfit⟩
        · exact absurd ek.1.symm (hkinds0 hused ek.2)
        · exact hfit

/-- The part of a scan entry's record that a SET carries. -/
def ScanEntry.record (e : ScanEntry) : List Byte :=
  [e.tag.setWidth 8] ++ beBytes 2 e.addr.toNat ++ beBytes 2 e.period ++ [byteOf (scanClassCode e.cls), boolByte e.enabled]

theorem scanBytes_eq (e : ScanEntry) (n : Node) :
    scanBytes e n = e.record ++ beBytes 2 e.late ++ [byteOf n.score, byteOf (nodeStateCode n.state)] := by
  simp [scanBytes, ScanEntry.record]

theorem boolByte_eq_iff (b : Bool) (x : Byte) : boolByte b = x ↔ b = decide (x.toNat = 1) ∧ x.toNat ≤ 1 := by
  cases b <;> simp [boolByte, ← BitVec.toNat_inj] <;> omega

theorem scanClassCode_lt (c : ScanClass) : scanClassCode c < 256 := by cases c <;> decide

theorem scanClassCode_of_ne_empty {c : ScanClass} (h : c ≠ .empty) : 1 ≤ scanClassCode c ∧ scanClassCode c ≤ 2 := by
  cases c with
  | empty => exact absurd rfl h
  | fast => decide
  | normal => decide

/-- The class of a class code that a SET may carry. -/
theorem scanClass_eq_iff (c : ScanClass) {k : Nat} (h1 : 1 ≤ k) (h2 : k ≤ 2) :
    (if k = 1 then ScanClass.fast else .normal) = c ↔ scanClassCode c = k := by
  cases c <;> grind [scanClassCode]

/-- A scan entry is accepted exactly when it is all zero, or it is the record of a fresh entry in its ranges
(R165). -/
theorem readScan_eq_some (b : List Byte) (e : ScanEntry) (hlen : b.length = 7) :
    readScan b = some e ↔
      b = e.record ∧ e.lastStart = none ∧ e.late = 0 ∧ e.dueMark = false ∧
        (e = {} ∨ 1 ≤ e.tag.toNat ∧ e.tag.toNat ≤ 62 ∧ 50 ≤ e.period ∧ e.period ≤ 5000 ∧ e.cls ≠ .empty) := by
  match b, hlen with
  | [x0, x1, x2, x3, x4, x5, x6], _ =>
    have hp := beNat_two_lt x3 x4
    have hv := beNat_two_lt x1 x2
    obtain ⟨tag, addr, period, cls, enabled, lastStart, late, dueMark⟩ := e
    have htag := setWidth_eq_iff (n := 6) (by decide) tag x0
    rw [eq_comm (a := [x0, x1, x2, x3, x4, x5, x6])]
    simp only [readScan, fieldNat, List.drop_succ_cons, List.drop_zero, List.take_succ_cons, List.take_zero, beNat_singleton,
      List.append_assoc, List.cons_append, List.nil_append, List.cons.injEq, ScanEntry.record,
      beBytes_two_append, byteOf, byte_eq_iff, htag, toNat_mod_eq_iff _ hv, boolByte_eq_iff]
    have htagNat : (BitVec.ofNat 6 x0.toNat).toNat = x0.toNat % 64 := BitVec.toNat_ofNat _ _
    have haddr0 : BitVec.ofNat 16 (beNat [x1, x2]) = 0 ↔ beNat [x1, x2] = 0 := by
      rw [← BitVec.toNat_inj, BitVec.toNat_ofNat, Nat.mod_eq_of_lt hv]
      rfl
    split
    next hfree =>
      obtain ⟨h0, h6⟩ := hfree
      rw [h0] at htagNat ⊢
      rw [h6, Option.ite_none_right_eq_some, Option.some.injEq]
      constructor
      · rintro ⟨⟨hv0, hp0, h5⟩, he⟩
        cases he
        exact ⟨⟨⟨rfl, by decide⟩, (haddr0.2 hv0).symm, hp0.symm, h5.symm, ⟨rfl, by decide⟩, trivial⟩, rfl, rfl, rfl, .inl rfl⟩
      · rintro ⟨⟨⟨ht, -⟩, ha, hper, hc, -⟩, -, -, -, he | ⟨htag1, -⟩⟩
        · cases he
          exact ⟨⟨haddr0.1 ha.symm, hper.symm, hc.symm⟩, rfl⟩
        · rw [ht, htagNat] at htag1
          exact absurd htag1 (by decide)
    next hfree =>
      split
      next hok =>
        simp only [Bool.and_eq_true, inRange_iff, decide_eq_true_eq] at hok
        obtain ⟨⟨⟨⟨h0a, h0b⟩, hpa, hpb⟩, h5a, h5b⟩, h6⟩ := hok
        rw [Option.some.injEq]
        constructor
        · intro he
          cases he
          refine ⟨⟨⟨rfl, by omega⟩, rfl, Nat.mod_eq_of_lt hp, ?_, ⟨rfl, h6⟩, trivial⟩, rfl, rfl, rfl,
            .inr ⟨by omega, by omega, hpa, hpb, ?_⟩⟩
          · rw [(scanClass_eq_iff _ h5a h5b).1 rfl]
            omega
          · split <;> nofun
        · rintro ⟨⟨⟨ht, -⟩, ha, hper, hc, ⟨hen, -⟩, -⟩, rfl, rfl, rfl, he⟩
          have hperiod : period = beNat [x3, x4] := by
            rcases he with he | ⟨-, -, -, h5000, -⟩
            · cases he
              exact hper
            · omega
          have hclass := (scanClass_eq_iff cls h5a h5b).2 (by have := scanClassCode_lt cls; omega)
          rw [ht, ha, hperiod, hclass, hen]
      next hok =>
        refine iff_of_false nofun ?_
        rintro ⟨⟨⟨ht, h64⟩, ha, hper, hc, ⟨hen, h6⟩, -⟩, -, -, -, he | ⟨ht1, ht2, hp1, hp2, hcls⟩⟩
        · cases he
          rw [← ht] at htagNat
          have : x6.toNat ≠ 1 := of_decide_eq_false hen.symm
          have : (0 : Tag).toNat = 0 := rfl
          omega
        · apply hok
          rw [ht] at ht1 ht2
          simp only [Bool.and_eq_true, inRange_iff, decide_eq_true_eq]
          have h5 := scanClassCode_of_ne_empty hcls
          omega

end Sys2Proof.Machine
end

section
/-! ### Bank records as bytes (R147, R149, R92) -/

namespace Sys2Proof.Machine

theorem replicate_zero_eq_iff (l : List Byte) : l = List.replicate l.length 0 ↔ beNat l = 0 := by
  have h := beBytes_eq_iff 0 l
  have hzero : ∀ n, beBytes n 0 = List.replicate n 0 := by
    intro n
    induction n with
    | zero => rfl
    | succ n ih => rw [beBytes, Nat.zero_div, ih, List.replicate_succ']; rfl
  rw [hzero, Nat.zero_mod] at h
  rw [eq_comm, h, eq_comm]

theorem readProduct_none (t : BankTables) (i : Nat) (hi : i < 256) (p : List Byte) (hlen : p.length = 10) :
    readProduct t i p = some none ↔ p = productBytes i none := by
  match p, hlen with
  | [x0, x1, x2, x3, x4, x5, x6, x7, x8, x9], _ =>
    have hzero := replicate_zero_eq_iff [x2, x3, x4, x5, x6, x7, x8, x9]
    have h0 : x0 = byteOf i ↔ x0.toNat = i := by
      rw [eq_comm, byteOf, byte_eq_iff, Nat.mod_eq_of_lt hi, eq_comm]
    have h1 : x1 = 0 ↔ x1.toNat = 0 := by rw [← BitVec.toNat_inj]; rfl
    have hbytes : [x0, x1, x2, x3, x4, x5, x6, x7, x8, x9] = productBytes i none ↔
        x0.toNat = i ∧ x1.toNat = 0 ∧ beNat [x2, x3, x4, x5, x6, x7, x8, x9] = 0 := by
      rw [← h0, ← h1, ← hzero]
      exact List.cons_eq_cons.trans (and_congr_right fun _ => List.cons_eq_cons)
    rw [hbytes]
    simp only [readProduct, fieldNat, List.drop_succ_cons, List.drop_zero, List.take_succ_cons, List.take_zero,
      beNat_singleton]
    grind

/-- Every curve a product names is present in the bank (R147). -/
def Product.curvesNamed (t : BankTables) (y : Product) : Prop := ∀ n : ArmId, curveNamed t (y.curve.get n) = true

theorem readProduct_some (t : BankTables) (i : Nat) (hi : i < 256) (p : List Byte) (hlen : p.length = 10) (y : Product) :
    readProduct t i p = some (some y) ↔
      p = productBytes i (some y) ∧ y.cls ≤ 15 ∧ y.beta ≤ 1500 ∧ y.recipe ≤ 8 ∧ y.curvesNamed t := by
  match p, hlen with
  | [x0, x1, x2, x3, x4, x5, x6, x7, x8, x9], _ =>
    have hb := beNat_two_lt x3 x4
    have hone : (1 : Byte) = x1 ↔ x1.toNat = 1 := by
      rw [← BitVec.toNat_inj, eq_comm]
      rfl
    have hnamed : y.curvesNamed t ↔ curveNamed t y.curve.a1 = true ∧ curveNamed t y.curve.a2 = true ∧
        curveNamed t y.curve.a3 = true ∧ curveNamed t y.curve.a4 = true :=
      ⟨fun h => ⟨h .a1, h .a2, h .a3, h .a4⟩, fun ⟨h1, h2, h3, h4⟩ n => by cases n <;> assumption⟩
    have hle : ∀ v, curveNamed t v = true → v ≤ 16 := fun v h => by
      simp only [curveNamed, Bool.and_eq_true, decide_eq_true_eq] at h
      exact h.1
    obtain ⟨cls, beta, recipe, ⟨c1, c2, c3, c4⟩⟩ := y
    rw [hnamed, eq_comm (a := [x0, x1, x2, x3, x4, x5, x6, x7, x8, x9])]
    simp only [readProduct, productBytes, fieldNat, List.drop_succ_cons, List.drop_zero, List.take_succ_cons,
      List.take_zero, beNat_singleton, List.cons_append, List.nil_append, List.cons.injEq,
      beBytes_two_append, byteOf, byte_eq_iff, hone]
    constructor
    · intro h
      split at h
      next => cases h
      split at h
      next =>
        split at h <;> cases h
      split at h
      next hcode hpresent hok =>
        cases h
        obtain ⟨hone, hcls, hbeta, hrec, hcurves⟩ := hok
        have := x6.isLt
        have := x7.isLt
        have := x8.isLt
        have := x9.isLt
        exact ⟨⟨by omega, hone, by omega, Nat.mod_eq_of_lt hb, by omega, by omega, by omega, by omega, by omega, trivial⟩,
          hcls, hbeta, hrec, hcurves⟩
      next => cases h
    · rintro ⟨⟨e0, e1, ec, eb, er, k1, k2, k3, k4, -⟩, hcls, hbeta, hrec, hcurves⟩
      obtain ⟨m1, m2, m3, m4⟩ := id hcurves
      have := hle _ m1
      have := hle _ m2
      have := hle _ m3
      have := hle _ m4
      obtain rfl : x2.toNat = cls := by omega
      obtain rfl : beNat [x3, x4] = beta := by omega
      obtain rfl : x5.toNat = recipe := by omega
      obtain rfl : x6.toNat = c1 := by omega
      obtain rfl : x7.toNat = c2 := by omega
      obtain rfl : x8.toNat = c3 := by omega
      obtain rfl : x9.toNat = c4 := by omega
      rw [if_neg (by omega), if_neg (by omega), if_pos ⟨e1, hcls, hbeta, hrec, hcurves⟩]

theorem curveNamed_iff (t : BankTables) (v : Nat) :
    curveNamed t v = true ↔ v = 0 ∨ v ≤ 16 ∧ ∃ points, t.curves[v - 1]? = some (some points) := by
  by_cases h0 : v = 0
  · simp [curveNamed, h0]
  · simp [curveNamed, h0, BankTables.curve?, Option.isSome_iff_exists, Option.join_eq_some_iff]

/-! #### Curves -/

/-- The bytes of a curve's points. -/
def pointBytes (points : List CurvePoint) : List Byte :=
  points.flatMap fun p => beBytes 2 p.rate ++ beBytes 2 (p.factor - 90000)

/-- A point in the ranges that its two bytes each can carry. -/
def CurvePoint.fits (p : CurvePoint) : Prop := p.rate < 65536 ∧ 90000 ≤ p.factor ∧ p.factor - 90000 < 65536

theorem pointBytes_cons (p : CurvePoint) (points : List CurvePoint) (rest : List Byte) :
    pointBytes (p :: points) ++ rest = beBytes 2 p.rate ++ (beBytes 2 (p.factor - 90000) ++ (pointBytes points ++ rest)) := by
  simp [pointBytes]

theorem length_pointBytes (points : List CurvePoint) : (pointBytes points).length = 4 * points.length := by
  induction points with
  | nil => rfl
  | cons p points ih =>
    have h := congrArg List.length (pointBytes_cons p points [])
    simp only [List.append_nil, List.length_append, length_beBytes] at h
    rw [h, ih, List.length_cons]
    omega

/-- The points read from a record are the points whose bytes begin it. -/
theorem curvePoints_eq_iff (n : Nat) (bytes : List Byte) (points : List CurvePoint) (hlen : 4 * n ≤ bytes.length) :
    curvePoints n bytes = points ↔
      points.length = n ∧ (∀ p ∈ points, p.fits) ∧ ∃ rest, bytes = pointBytes points ++ rest := by
  induction n generalizing bytes points with
  | zero =>
    cases points with
    | nil => simp [curvePoints, pointBytes]
    | cons p points => simp [curvePoints]
  | succ n ih =>
    match bytes, hlen with
    | x :: y :: z :: w :: bytes, hlen =>
      have hr := beNat_two_lt x y
      have hf := beNat_two_lt z w
      have hlen' : 4 * n ≤ bytes.length := by
        simp only [List.length_cons] at hlen
        omega
      cases points with
      | nil => simp [curvePoints]
      | cons p points =>
        have hbytes (rest : List Byte) : x :: y :: z :: w :: bytes = pointBytes (p :: points) ++ rest ↔
            p.rate % 65536 = beNat [x, y] ∧ (p.factor - 90000) % 65536 = beNat [z, w] ∧
              pointBytes points ++ rest = bytes := by
          rw [eq_comm, pointBytes_cons, beBytes_two_append, beBytes_two_append]
        have hread : curvePoints (n + 1) (x :: y :: z :: w :: bytes) =
            { rate := beNat [x, y], factor := 90000 + beNat [z, w] } :: curvePoints n bytes := rfl
        rw [hread, List.cons.injEq, ih bytes points hlen', List.length_cons, List.forall_mem_cons]
        simp only [hbytes]
        constructor
        · rintro ⟨rfl, hn, hfits, rest, hrest⟩
          exact ⟨congrArg (· + 1) hn,
            ⟨⟨hr, Nat.le_add_right _ _, by rwa [Nat.add_sub_cancel_left]⟩, hfits⟩, rest,
            Nat.mod_eq_of_lt hr, by rw [Nat.add_sub_cancel_left, Nat.mod_eq_of_lt hf], hrest.symm⟩
        · rintro ⟨hn, ⟨⟨h1, h2, h3⟩, hfits⟩, rest, e1, e2, hrest⟩
          obtain ⟨rate, factor⟩ := p
          dsimp only at h1 h2 h3 e1 e2
          obtain rfl : rate = beNat [x, y] := by omega
          obtain rfl : factor = 90000 + beNat [z, w] := by omega
          exact ⟨rfl, by omega, hfits, rest, hrest.symm⟩

theorem ratesRise_iff (points : List CurvePoint) : ratesRise points = true ↔ points.Pairwise fun p q => p.rate < q.rate := by
  let rises (p q : CurvePoint) : Prop := p.rate < q.rate
  have : Trans rises rises rises := ⟨Nat.lt_trans⟩
  change _ ↔ points.Pairwise rises
  rw [← List.isChain_iff_pairwise]
  fun_induction ratesRise points with
  | case1 => simp
  | case2 p => simp
  | case3 p q rest ih => rw [Bool.and_eq_true, decide_eq_true_eq, ih, List.isChain_cons_cons]

theorem curveUsed_eq_false (t : BankTables) (j : Nat) :
    curveUsed t j = false ↔ ∀ y, some y ∈ t.products → ∀ n : ArmId, y.curve.get n ≠ j := by
  have hall (y : Product) : (armIds.any fun n => y.curve.get n == j) = false ↔ ∀ n : ArmId, y.curve.get n ≠ j := by
    rw [← Bool.not_eq_true, any_armIds_iff, not_exists]
    exact forall_congr' fun n => not_congr beq_iff_eq
  rw [curveUsed, List.any_eq_false]
  constructor
  · intro h y hy
    exact (hall y).1 (Bool.not_eq_true _ ▸ h (some y) hy)
  · rintro h (_ | y) hy
    · exact Bool.false_ne_true
    · rw [Bool.not_eq_true]
      exact (hall y).2 (h y hy)

theorem readCurve_none (t : BankTables) (j : Nat) (c : List Byte) (hlen : c.length = 25) :
    readCurve t j c = some none ↔
      c.head? = some 0 ∧ ∀ y, some y ∈ t.products → ∀ n : ArmId, y.curve.get n ≠ j := by
  match c, hlen with
  | x :: c, hlen =>
    have hx : (x :: c).head? = some 0 ↔ x.toNat = 0 := by
      rw [List.head?_cons, Option.some.injEq, ← BitVec.toNat_inj]
      rfl
    have hfield : fieldNat (x :: c) 0 1 = x.toNat := beNat_singleton x
    rw [hx, ← curveUsed_eq_false]
    simp only [readCurve, hfield]
    grind

theorem readCurve_some (t : BankTables) (j : Nat) (c : List Byte) (hlen : c.length = 25) (points : List CurvePoint) :
    readCurve t j c = some (some points) ↔
      (∃ rest, c = byteOf points.length :: pointBytes points ++ rest) ∧ 2 ≤ points.length ∧ points.length ≤ 6 ∧
        (∀ y ∈ points, y.rate ≤ 9999 ∧ 90000 ≤ y.factor ∧ y.factor ≤ 110000) ∧
        points.Pairwise fun x y => x.rate < y.rate := by
  match c, hlen with
  | x :: c, hlen =>
    have hx : fieldNat (x :: c) 0 1 = x.toNat := beNat_singleton x
    have hc : c.length = 24 := Nat.succ.inj hlen
    have hbytes (rest : List Byte) : x :: c = byteOf points.length :: pointBytes points ++ rest ↔
        points.length % 256 = x.toNat ∧ c = pointBytes points ++ rest := by
      rw [List.cons_append, List.cons.injEq, eq_comm (a := x), byteOf, byte_eq_iff]
    have hread : 2 ≤ x.toNat → x.toNat ≤ 6 → (readCurve t j (x :: c) = some (some points) ↔
        curvePoints x.toNat c = points ∧ (∀ y ∈ points, y.rate ≤ 9999 ∧ y.factor ≤ 110000) ∧
          points.Pairwise fun x y => x.rate < y.rate) := by
      intro h2 h6
      rw [← ratesRise_iff]
      simp only [readCurve, hx]
      rw [if_neg (by omega), List.drop_succ_cons, List.drop_zero]
      grind [inRange_iff]
    have hrange : readCurve t j (x :: c) = some (some points) → 2 ≤ x.toNat ∧ x.toNat ≤ 6 := by
      simp only [readCurve, hx]
      grind [inRange_iff]
    simp only [hbytes]
    constructor
    · intro h
      obtain ⟨h2, h6⟩ := hrange h
      obtain ⟨hpts, hle, hrise⟩ := (hread h2 h6).1 h
      obtain ⟨hn, hfits, rest, hrest⟩ := (curvePoints_eq_iff _ _ _ (by omega)).1 hpts
      exact ⟨⟨rest, by omega, hrest⟩, by omega, by omega,
        fun y hy => ⟨(hle y hy).1, (hfits y hy).2.1, (hle y hy).2⟩, hrise⟩
    · rintro ⟨⟨rest, hn, hrest⟩, h2, h6, hle, hrise⟩
      refine (hread (by omega) (by omega)).2 ⟨?_, fun y hy => ⟨(hle y hy).1, (hle y hy).2.2⟩, hrise⟩
      refine (curvePoints_eq_iff _ _ _ (by omega)).2 ⟨by omega, fun y hy => ?_, rest, hrest⟩
      have := hle y hy
      exact ⟨by omega, by omega, by omega⟩

/-! #### Recipes -/

/-- A recipe slot in its ranges (R92). -/
def RecipeSlot.fits (y : RecipeSlot) : Prop :=
  1 ≤ y.code ∧ y.code ≤ 255 ∧ 1 ≤ y.ratio ∧ y.ratio ≤ 5000 ∧ 5000 ≤ y.shot ∧ y.shot ≤ 100000 ∧ 1 ≤ y.tolerance ∧
    y.tolerance ≤ 20

theorem readRecipeSlot_eq_some (r : List Byte) (hlen : r.length = 7) (x : Option RecipeSlot) :
    readRecipeSlot r = some x ↔ r = recipeSlotBytes x ∧ ∀ y, x = some y → y.fits := by
  match r, hlen with
  | [x0, x1, x2, x3, x4, x5, x6], _ =>
    have hr := beNat_two_lt x1 x2
    have hs := beNat_three_lt x3 x4 x5
    have h0 := x0.isLt
    have h6 := x6.isLt
    cases x with
    | none =>
      have hzero : [x0, x1, x2, x3, x4, x5, x6] = List.replicate 7 0 ↔ beNat [x0, x1, x2, x3, x4, x5, x6] = 0 :=
        replicate_zero_eq_iff _
      have hsum : beNat [x0, x1, x2, x3, x4, x5, x6] = 0 ↔
          x0.toNat = 0 ∧ beNat [x1, x2] = 0 ∧ beNat [x3, x4, x5] = 0 ∧ x6.toNat = 0 := by
        simp only [beNat, List.foldl_cons, List.foldl_nil]
        omega
      rw [recipeSlotBytes, hzero, hsum]
      simp only [readRecipeSlot, fieldNat, List.drop_succ_cons, List.drop_zero, List.take_succ_cons, List.take_zero,
        beNat_singleton]
      grind
    | some y =>
      obtain ⟨code, ratio, shot, tolerance⟩ := y
      rw [eq_comm (a := [x0, x1, x2, x3, x4, x5, x6])]
      simp only [readRecipeSlot, recipeSlotBytes, fieldNat, List.drop_succ_cons, List.drop_zero, List.take_succ_cons,
        List.take_zero, beNat_singleton, List.append_assoc, List.cons_append, List.nil_append, List.cons.injEq,
        beBytes_two_append, beBytes_three_append, byteOf, byte_eq_iff, Option.some.injEq, forall_eq']
      constructor
      · intro h
        split at h
        next =>
          split at h <;> cases h
        next hcode =>
          split at h
          next hok =>
            cases h
            simp only [Bool.and_eq_true, inRange_iff] at hok
            obtain ⟨⟨⟨r1, r2⟩, s1, s2⟩, t1, t2⟩ := hok
            exact ⟨⟨Nat.mod_eq_of_lt h0, Nat.mod_eq_of_lt hr, Nat.mod_eq_of_lt hs, Nat.mod_eq_of_lt h6, trivial⟩,
              Nat.pos_of_ne_zero hcode, Nat.le_of_lt_succ h0, r1, r2, s1, s2, t1, t2⟩
          next => cases h
      · rintro ⟨⟨e0, er, es, et, -⟩, c1, c2, r1, r2, s1, s2, t1, t2⟩
        dsimp only at c1 c2 r1 r2 s1 s2 t1 t2
        obtain rfl : x0.toNat = code := by omega
        obtain rfl : beNat [x1, x2] = ratio := by omega
        obtain rfl : beNat [x3, x4, x5] = shot := by omega
        obtain rfl : x6.toNat = tolerance := by omega
        rw [if_neg (by omega), if_pos]
        simp only [Bool.and_eq_true, inRange_iff]
        exact ⟨⟨⟨r1, r2⟩, s1, s2⟩, t1, t2⟩

theorem length_recipeSlotBytes (x : Option RecipeSlot) : (recipeSlotBytes x).length = 7 := by
  cases x <;> simp [recipeSlotBytes, length_beBytes]

/-- A recipe is accepted exactly when each slot is absent with zeros or in its ranges (R92). -/
theorem readRecipe_eq_some (r : List Byte) (hlen : r.length = 14) (x : Recipe) :
    readRecipe r = some x ↔
      r = recipeSlotBytes x.s1 ++ recipeSlotBytes x.s2 ∧ ∀ (m : Slot) (y : RecipeSlot), x.get m = some y → y.fits := by
  have h1 := readRecipeSlot_eq_some (r.take 7) (by rw [List.length_take]; omega) x.s1
  have h2 := readRecipeSlot_eq_some (r.drop 7) (by rw [List.length_drop]; omega) x.s2
  have hslots : readRecipe r = some x ↔ readRecipeSlot (r.take 7) = some x.s1 ∧ readRecipeSlot (r.drop 7) = some x.s2 := by
    unfold readRecipe
    obtain ⟨x1, x2⟩ := x
    cases readRecipeSlot (r.take 7) <;> cases readRecipeSlot (r.drop 7) <;> simp
  have hbytes : r = recipeSlotBytes x.s1 ++ recipeSlotBytes x.s2 ↔
      r.take 7 = recipeSlotBytes x.s1 ∧ r.drop 7 = recipeSlotBytes x.s2 := by
    rw [← append_eq_iff (by rw [List.length_take, length_recipeSlotBytes]; omega), List.take_append_drop]
  rw [hslots, h1, h2, hbytes]
  constructor
  · rintro ⟨⟨e1, f1⟩, e2, f2⟩
    exact ⟨⟨e1, e2⟩, fun m => match m with
      | .s1 => f1
      | .s2 => f2⟩
  · rintro ⟨⟨e1, e2⟩, hfits⟩
    exact ⟨⟨e1, hfits .s1⟩, e2, hfits .s2⟩

end Sys2Proof.Machine
end

section
/-! ### SETs of tables (R157 to R159, R164) -/

namespace Sys2Proof.Machine

section Table
variable {size first last index : Nat} {guard : State → Option Reason} {write : Nat → List Byte → State → Option State}
  {payload : List Byte} {s t : State}

theorem setTable_readOnly (h : index < first) :
    setTable size first last index guard write payload s = (s, .refusedAfter .readOnly 0) := if_pos h

theorem setTable_badLength (h : first ≤ index) (hp : payload = [] ∨ payload.length % size ≠ 0) :
    setTable size first last index guard write payload s = (s, .refusedAfter .badLength 0) := by
  rw [setTable, if_neg (Nat.not_lt.2 h), if_pos hp]

/-- Whole records reach the guard. -/
theorem setTable_of_records {k : Nat} (h : first ≤ index) (hk : payload.length = size * k) (hsize : 0 < size) (hpos : 0 < k) :
    setTable size first last index guard write payload s =
      match guard s with
      | some reason => (s, .refusedAfter reason 0)
      | none => writeRecords size last write k index 0 payload s := by
  have hne : ¬ (payload = [] ∨ payload.length % size ≠ 0) := by
    rintro (rfl | hmod)
    · exact absurd hk.symm (Nat.mul_pos hsize hpos).ne'
    · exact hmod (hk ▸ Nat.mul_mod_right _ _)
  rw [setTable, if_neg (Nat.not_lt.2 h), if_neg hne, hk, Nat.mul_div_cancel_left _ hsize] <;> rfl

/-- One record is refused by the guard, refused by its checks or written. -/
theorem setTable_one (h : first ≤ index) (hlast : index ≤ last) (hlen : payload.length = size) (hsize : 0 < size) :
    setTable size first last index guard write payload s =
      match guard s with
      | some reason => (s, .refusedAfter reason 0)
      | none =>
        match write index payload s with
        | none => (s, .refusedAfter .outOfRange 0)
        | some t => (t, .done) := by
  rw [setTable_of_records h (by rw [hlen, Nat.mul_one]) hsize Nat.one_pos]
  cases guard s with
  | some reason => rfl
  | none =>
    dsimp only
    rw [writeRecords, if_neg (Nat.not_lt.2 hlast), ← hlen, List.take_length]
    cases write index payload s <;> rfl

end Table

/-! #### Arm configurations (R45, R70, R94) -/

theorem objectAt_config (n : ArmId) : objectAt (configAddr n) = some (.config (armNumber n - 1)) := by
  cases n <;> decide

theorem armOfIndex_armNumber (n : ArmId) : armOfIndex (armNumber n - 1) = n := by cases n <;> rfl

section ApplyConfig
variable (n m : ArmId) (c : ArmConfig) (s : State)

theorem applyConfig_config : (applyConfig n c s).config m = if m = n then c else s.config m := get_set_arm s.configs n m c

theorem applyConfig_arm :
    (applyConfig n c s).arm m =
      if m = n then { s.arm n with anticipation := c.initialAnt * 1000, unassignedRes := 0, lastValve := none }
      else s.arm m := get_set_arm s.arms n m _

theorem applyConfig_meter :
    (applyConfig n c s).meter m =
      if m = n then { staleDeadline := if c.temp.isSome then some (s.clock.ms + BitVec.ofNat 32 10000) else none }
      else s.meter m := by
  have hconfig : (s.configs.set n c).get n = c := by rw [get_set_arm, if_pos rfl]
  have hmeter : (applyConfig n c s).meter m = (s.metering.set n
      { staleDeadline := if ((s.configs.set n c).get n).temp.isSome then some (s.ahead 10000) else none }).get m := rfl
  rw [hmeter, hconfig, get_set_arm]
  rfl

theorem applyConfig_dose (k : Slot) : (applyConfig n c s).dose m k = if m = n then {} else s.dose m k := by
  have hdose : (applyConfig n c s).dosing =
      (s.dosing.set n ((s.dosing.get n).set .s1 {})).set n
        (((s.dosing.set n ((s.dosing.get n).set .s1 {})).get n).set .s2 {}) := rfl
  rw [State.dose, hdose, get_set_arm, get_set_arm, if_pos rfl]
  split
  next => cases k <;> rfl
  next h => rw [get_set_arm, if_neg h]; rfl

theorem applyConfig_only :
    applyConfig n c s =
      { s with configs := (applyConfig n c s).configs, arms := (applyConfig n c s).arms,
               metering := (applyConfig n c s).metering, dosing := (applyConfig n c s).dosing } := rfl

end ApplyConfig

theorem setConfigs_eq (n : ArmId) (payload : List Byte) (s : State) (hlen : payload.length = 17) :
    setObject (.config (armNumber n - 1)) payload s =
      match serviceGuard s with
      | some reason => (s, .refusedAfter reason 0)
      | none =>
        match readConfig payload with
        | none => (s, .refusedAfter .outOfRange 0)
        | some c => (applyConfig n c s, .done) := by
  have hlast : armNumber n - 1 ≤ 3 := by cases n <;> decide
  refine (setTable_one (Nat.zero_le _) hlast hlen (by decide)).trans ?_
  rw [writeConfig, armOfIndex_armNumber]
  cases serviceGuard s <;> cases readConfig payload <;> rfl

theorem serviceGuard_of_service {s : State} (h : s.mode = .service) : serviceGuard s = none := if_pos h

theorem serviceGuard_of_not {s : State} (h : s.mode ≠ .service) : serviceGuard s = some .notInService := if_neg h

/-- Settles O29, from the codec of the record and the one-record rule of a table SET. -/
theorem configurationWriteResetsItsArm : Obligations.ConfigurationWriteResetsItsArm := by
  intro s n payload c h hlen tag record
  have hp : payload.length ≤ 48 := by omega
  have hroom := heardHost_has_room s h
  have hset := setConfigs_eq n payload s.heardHost hlen
  have hrecord : ∀ x, record x = configBytes x := fun x => rfl
  have hexec : exec (.armConfigurationSet n payload) s = .next (hostSet (configAddr n) payload s) := rfl
  refine ⟨?accepted, fun hmode hread => ?written, fun hmode hread => ?outOfRange, fun hmode => ?notInService, ?query⟩
  case accepted =>
    rw [hrecord, readConfig_eq_some payload c hlen, ArmConfig.ok_iff]
    tauto
  case written =>
    rw [serviceGuard_of_service (s := s.heardHost) hmode, hread] at hset
    refine ⟨_, hexec.trans (congrArg Host.Outcome.next (hostSet_done h hp (objectAt_config n) hset hroom)),
      ?_, ?_, ?_, fun k => ?_, fun m hm => ⟨?_, ?_, ?_, fun k => ?_⟩, rfl⟩
    · exact (applyConfig_config n n c s.heardHost).trans (if_pos rfl)
    · exact (applyConfig_arm n n c s.heardHost).trans (if_pos rfl)
    · exact (applyConfig_meter n n c s.heardHost).trans (if_pos rfl)
    · exact (applyConfig_dose n n c s.heardHost k).trans (if_pos rfl)
    · exact (applyConfig_config n m c s.heardHost).trans (if_neg hm)
    · exact (applyConfig_arm n m c s.heardHost).trans (if_neg hm)
    · exact (applyConfig_meter n m c s.heardHost).trans (if_neg hm)
    · exact (applyConfig_dose n m c s.heardHost k).trans (if_neg hm)
  case outOfRange =>
    rw [serviceGuard_of_service (s := s.heardHost) hmode, hread] at hset
    exact hexec.trans (congrArg Host.Outcome.next (hostSet_refusedAfter h hp (objectAt_config n) hset hroom))
  case notInService =>
    rw [serviceGuard_of_not (s := s.heardHost) hmode] at hset
    exact hexec.trans (congrArg Host.Outcome.next (hostSet_refusedAfter h hp (objectAt_config n) hset hroom))
  case query =>
    refine exec_objectQuery_of_ok _ _ _ s h (objectAt_config n) nofun nofun ?_
    rw [hrecord, queryData, armOfIndex_armNumber]
    rfl

end Sys2Proof.Machine
end

section
/-! ### Acceptance entries, scan entries and the gap (R164, R165, R174, R185) -/

namespace Sys2Proof.Machine

section Table
variable {size first last index : Nat} {guard : State → Option Reason} {write : Nat → List Byte → State → Option State}
  {payload : List Byte} {s t : State}

theorem setTable_written (h : first ≤ index) (hlast : index ≤ last) (hlen : payload.length = size) (hsize : 0 < size)
    (hguard : guard s = none) (hwrite : write index payload s = some t) :
    setTable size first last index guard write payload s = (t, .done) := by
  rw [setTable_one h hlast hlen hsize, hguard]
  dsimp only
  rw [hwrite]

theorem setTable_outOfRange (h : first ≤ index) (hlast : index ≤ last) (hlen : payload.length = size) (hsize : 0 < size)
    (hguard : guard s = none) (hwrite : write index payload s = none) :
    setTable size first last index guard write payload s = (s, .refusedAfter .outOfRange 0) := by
  rw [setTable_one h hlast hlen hsize, hguard]
  dsimp only
  rw [hwrite]

theorem setTable_guarded {reason : Reason} (h : first ≤ index) (hlast : index ≤ last) (hlen : payload.length = size)
    (hsize : 0 < size) (hguard : guard s = some reason) :
    setTable size first last index guard write payload s = (s, .refusedAfter reason 0) := by
  rw [setTable_one h hlast hlen hsize, hguard]

end Table

theorem objectAt_acceptance (i : Fin 24) : objectAt (BitVec.ofNat 16 (0x200 + i.val)) = some (.acceptance i.val) := by
  revert i
  decide

theorem objectAt_scan (j : Fin 32) : objectAt (BitVec.ofNat 16 (0x300 + j.val)) = some (.scan j.val) := by
  revert j
  decide

theorem objectAt_gap : objectAt 0x19 = some .gap := by decide

theorem setGap_of_valid (payload : List Byte) (s : State) (hlen : payload.length = 2) (hmode : s.mode = .service)
    (h1 : 100 ≤ fieldNat payload 0 2) (h2 : fieldNat payload 0 2 ≤ 2000) :
    setGap payload s = (applyGap (fieldNat payload 0 2) s, .done) := by
  rw [setGap, if_neg (not_not.2 hlen), if_neg (not_not.2 hmode), if_pos ((inRange_iff _ _ _).2 ⟨h1, h2⟩)]

theorem setGap_of_out (payload : List Byte) (s : State) (hlen : payload.length = 2) (hmode : s.mode = .service)
    (h : fieldNat payload 0 2 < 100 ∨ 2000 < fieldNat payload 0 2) : setGap payload s = (s, .refused .outOfRange) := by
  rw [setGap, if_neg (not_not.2 hlen), if_neg (not_not.2 hmode), if_neg]
  rw [inRange_iff]
  omega

theorem setGap_of_not_service (payload : List Byte) (s : State) (hlen : payload.length = 2) (hmode : s.mode ≠ .service) :
    setGap payload s = (s, .refused .notInService) := by
  rw [setGap, if_neg (not_not.2 hlen), if_pos hmode]

theorem takesArm_iff (a : Action) :
    a.takesArm = true ↔
      a = .meterCount ∨ a = .temperature ∨ a = .valveStatus ∨ a = .injectorReport ∨ a = .actuator := by
  cases a <;> decide

theorem takesSlot_iff (a : Action) : a.takesSlot = true ↔ a = .injectorReport := by cases a <;> decide

/-- Settles O30, from the codecs of the two entries and the one-record rule of a table SET. -/
theorem entriesAndGapAreWrittenInService : Obligations.EntriesAndGapAreWrittenInService := by
  intro s i j a b g h ha hb hg entry scan
  have hpa : a.length ≤ 48 := by omega
  have hpb : b.length ≤ 48 := by omega
  have hpg : g.length ≤ 48 := by omega
  have hroom := heardHost_has_room s h
  have hi : i.val ≤ 23 := by omega
  have hj : j.val ≤ 31 := by omega
  have hentry : ∀ x, entry x = acceptanceBytes x := by
    rintro ⟨dir, kinds, tagVal, tagMask, objVal, objMask, ⟨action, arm, slot⟩⟩
    rw [acceptanceBytes_eq]
    refine congrArg₂ (fun (d : Byte) (codes : List Byte) =>
      [d, kinds.setWidth 8, tagVal.setWidth 8, tagMask.setWidth 8] ++ beBytes 2 objVal.toNat ++
        beBytes 2 objMask.toNat ++ codes) ?_ (List.cons_eq_cons.2 ⟨?_, List.cons_eq_cons.2 ⟨?_, List.cons_eq_cons.2 ⟨?_, rfl⟩⟩⟩)
    · cases dir <;> rfl
    · cases action <;> rfl
    · rcases arm with _ | _ | _ | _ | _ <;> rfl
    · rcases slot with _ | _ | _ <;> rfl
  have hscan : ∀ y, scan y = y.record := by
    rintro ⟨tag, addr, period, cls, enabled, lastStart, late, dueMark⟩
    dsimp only [scan, ScanEntry.record]
    rw [List.cons_append, List.nil_append, List.cons_append, List.cons_append]
    cases cls <;> rfl
  have hexecA : exec (.acceptanceEntrySet i a) s = .next (hostSet (BitVec.ofNat 16 (0x200 + i.val)) a s) := rfl
  have hexecB : exec (.scanEntrySet j b) s = .next (hostSet (BitVec.ofNat 16 (0x300 + j.val)) b s) := rfl
  have hexecG : exec (.turnaroundGapSet g) s = .next (hostSet 0x19 g s) := rfl
  refine ⟨fun x => ?acceptance, fun y => ?scanEntry, fun hmode => ?service, fun hmode => ?notInService,
    fun x hx => ?readEntry, fun y hy => ?readScan⟩
  case acceptance =>
    rw [hentry, readAcceptance_eq_some a x ha, AcceptanceEntry.used, FrameClass.fits, takesArm_iff, takesSlot_iff]
  case scanEntry => rw [hscan, readScan_eq_some b y hb]
  case service =>
    have hguard : serviceGuard s.heardHost = none := serviceGuard_of_service (s := s.heardHost) hmode
    refine ⟨fun x hx => ?_, fun hx => ?_, fun y hy => ?_, fun hy => ?_, fun h1 h2 => ?_, fun hout => ?_⟩
    · have hset : setObject (.acceptance i.val) a s.heardHost = (_, .done) :=
        setTable_written (Nat.zero_le _) hi ha (by decide) hguard (by rw [writeAcceptance, hx])
      exact hexecA.trans (congrArg Host.Outcome.next (hostSet_done h hpa (objectAt_acceptance i) hset hroom))
    · have hset : setObject (.acceptance i.val) a s.heardHost = _ :=
        setTable_outOfRange (Nat.zero_le _) hi ha (by decide) hguard (by rw [writeAcceptance, hx])
      exact hexecA.trans (congrArg Host.Outcome.next (hostSet_refusedAfter h hpa (objectAt_acceptance i) hset hroom))
    · have hset : setObject (.scan j.val) b s.heardHost = (_, .done) :=
        setTable_written (Nat.zero_le _) hj hb (by decide) hguard (by rw [writeScan, hy])
      exact hexecB.trans (congrArg Host.Outcome.next (hostSet_done h hpb (objectAt_scan j) hset hroom))
    · have hset : setObject (.scan j.val) b s.heardHost = _ :=
        setTable_outOfRange (Nat.zero_le _) hj hb (by decide) hguard (by rw [writeScan, hy])
      exact hexecB.trans (congrArg Host.Outcome.next (hostSet_refusedAfter h hpb (objectAt_scan j) hset hroom))
    · have hset : setObject .gap g s.heardHost = _ := setGap_of_valid g s.heardHost hg hmode h1 h2
      refine hexecG.trans (congrArg Host.Outcome.next
        ((hostSet_done h hpg objectAt_gap hset hroom).trans ?_))
      rfl
    · have hset : setObject .gap g s.heardHost = _ := setGap_of_out g s.heardHost hg hmode hout
      exact hexecG.trans (congrArg Host.Outcome.next (hostSet_refused h hpg objectAt_gap hset))
  case notInService =>
    have hguard : serviceGuard s.heardHost = some .notInService := serviceGuard_of_not (s := s.heardHost) hmode
    have hsetA : setObject (.acceptance i.val) a s.heardHost = _ :=
      setTable_guarded (write := writeAcceptance) (Nat.zero_le _) hi ha (by decide) hguard
    have hsetB : setObject (.scan j.val) b s.heardHost = _ :=
      setTable_guarded (write := writeScan) (Nat.zero_le _) hj hb (by decide) hguard
    have hsetG : setObject .gap g s.heardHost = _ := setGap_of_not_service g s.heardHost hg hmode
    exact ⟨hexecA.trans (congrArg Host.Outcome.next (hostSet_refusedAfter h hpa (objectAt_acceptance i) hsetA hroom)),
      hexecB.trans (congrArg Host.Outcome.next (hostSet_refusedAfter h hpb (objectAt_scan j) hsetB hroom)),
      hexecG.trans (congrArg Host.Outcome.next (hostSet_refused h hpg objectAt_gap hsetG))⟩
  case readEntry =>
    refine exec_objectQuery_of_ok _ _ _ s h (objectAt_acceptance i) nofun nofun ?_
    have hget : s.heardHost.acceptance.getD i.val {} = x := by
      rw [List.getD_eq_getElem?_getD]
      exact congrArg (Option.getD · {}) hx
    rw [queryData, hget, hentry]
  case readScan =>
    refine exec_objectQuery_of_ok _ _ _ s h (objectAt_scan j) nofun nofun ?_
    have hget : s.heardHost.scans.getD j.val {} = y := by
      rw [List.getD_eq_getElem?_getD]
      exact congrArg (Option.getD · {}) hy
    rw [queryData, hget, scanBytes_eq, hscan]
    have hnode : s.heardHost.node y.tag = s.node y.tag := rfl
    rw [hnode]
    cases (s.node y.tag).state <;> rfl

end Sys2Proof.Machine
end

section
/-! ### SETs of a bank's tables (R147 to R153, R158) -/

namespace Sys2Proof.Machine

theorem objectAt_product (bank : Bank) (i : Fin 16) :
    objectAt (BitVec.ofNat 16 (bankBase bank + i.val)) = some (.product bank i.val) := by
  cases bank <;> revert i <;> decide

theorem objectAt_curve (bank : Bank) (j : Fin 17) :
    objectAt (BitVec.ofNat 16 (bankBase bank + 0x100 + j.val)) = some (.curve bank j.val) := by
  cases bank <;> revert j <;> decide

theorem objectAt_recipe (bank : Bank) (k : Fin 9) :
    objectAt (BitVec.ofNat 16 (bankBase bank + 0x200 + k.val)) = some (.recipe bank k.val) := by
  cases bank <;> revert k <;> decide

theorem bankRefusal_free {bank : Bank} {s : State} (h1 : s.banks.active ≠ bank) (h2 : s.banks.count bank = 0) :
    bankRefusal bank s = none := by
  rw [bankRefusal, if_neg h1, if_neg (by omega)]

theorem bankRefusal_active {bank : Bank} {s : State} (h : s.banks.active = bank) : bankRefusal bank s = some .bankActive :=
  if_pos h

theorem bankRefusal_captured {bank : Bank} {s : State} (h1 : s.banks.active ≠ bank) (h2 : 0 < s.banks.count bank) :
    bankRefusal bank s = some .bankInUse := by
  rw [bankRefusal, if_neg h1, if_pos h2]

/-- What a SET of one record of a bank's table answers: written to a free bank or refused there, and refused for
a bank that is active or captured. -/
theorem hostSet_bankRecord {bank : Bank} {addr : ObjAddr} {o : Obj} {size last index : Nat}
    {write : Nat → List Byte → State → Option State} {payload : List Byte} {s : State} (h : s.canHear)
    (ho : objectAt addr = some o)
    (hset : setObject o payload s.heardHost = setTable size 1 last index (bankRefusal bank) write payload s.heardHost)
    (hsize : 0 < size ∧ size ≤ 48) (hindex : 1 ≤ index ∧ index ≤ last) (hlen : payload.length = size) :
    (s.banks.active ≠ bank → s.banks.count bank = 0 → ∀ t : State, write index payload s.heardHost = some t →
      t.up = s.heardHost.up → hostSet addr payload s = t.answersDone addr) ∧
    (s.banks.active ≠ bank → s.banks.count bank = 0 → write index payload s.heardHost = none →
      hostSet addr payload s = s.heardHost.answersRefusedAfter addr .outOfRange 0) ∧
    (s.banks.active = bank → hostSet addr payload s = s.heardHost.answersRefusedAfter addr .bankActive 0) ∧
    (s.banks.active ≠ bank → 0 < s.banks.count bank →
      hostSet addr payload s = s.heardHost.answersRefusedAfter addr .bankInUse 0) := by
  obtain ⟨hfirst, hlast⟩ := hindex
  have hp : payload.length ≤ 48 := hlen ▸ hsize.2
  have hroom := heardHost_has_room s h
  refine ⟨fun hact hcount t hwrite ht => ?_, fun hact hcount hwrite => ?_, fun hact => ?_, fun hact hcount => ?_⟩
  · exact hostSet_done h hp ho (hset.trans (setTable_written hfirst hlast hlen hsize.1
      (bankRefusal_free (s := s.heardHost) hact hcount) hwrite)) (ht ▸ hroom)
  · exact hostSet_refusedAfter h hp ho (hset.trans (setTable_outOfRange hfirst hlast hlen hsize.1
      (bankRefusal_free (s := s.heardHost) hact hcount) hwrite)) hroom
  · exact hostSet_refusedAfter h hp ho (hset.trans (setTable_guarded hfirst hlast hlen hsize.1
      (bankRefusal_active (s := s.heardHost) hact))) hroom
  · exact hostSet_refusedAfter h hp ho (hset.trans (setTable_guarded hfirst hlast hlen hsize.1
      (bankRefusal_captured (s := s.heardHost) hact hcount))) hroom

/-- A SET to the index-0 address of a bank's table is refused, whatever the bank and the payload (R158). -/
theorem hostSet_indexZero {bank : Bank} {addr : ObjAddr} {o : Obj} {size last : Nat}
    {write : Nat → List Byte → State → Option State} {payload : List Byte} {s : State} (h : s.canHear)
    (hp : payload.length ≤ 48) (ho : objectAt addr = some o)
    (hset : setObject o payload s.heardHost = setTable size 1 last 0 (bankRefusal bank) write payload s.heardHost) :
    hostSet addr payload s = s.heardHost.answersRefusedAfter addr .readOnly 0 :=
  hostSet_refusedAfter h hp ho (hset.trans (setTable_readOnly Nat.one_pos)) (heardHost_has_room s h)

theorem writeProduct_of_some {bank : Bank} {i : Nat} {p : List Byte} {s : State} {x : Option Product}
    (h : readProduct (s.banks.tables bank) i p = some x) :
    writeProduct bank i p s = some { s with
      banks := s.banks.setTables bank
        { s.banks.tables bank with products := (s.banks.tables bank).products.set (i - 1) x } } := by
  rw [writeProduct, h]
  rfl

theorem writeCurve_of_some {bank : Bank} {j : Nat} {c : List Byte} {s : State} {x : Option (List CurvePoint)}
    (h : readCurve (s.banks.tables bank) j c = some x) :
    writeCurve bank j c s = some { s with
      banks := s.banks.setTables bank
        { s.banks.tables bank with curves := (s.banks.tables bank).curves.set (j - 1) x } } := by
  rw [writeCurve, h]
  rfl

theorem writeRecipe_of_some {bank : Bank} {k : Nat} {r : List Byte} {s : State} {x : Recipe}
    (h : readRecipe r = some x) :
    writeRecipe bank k r s = some { s with
      banks := s.banks.setTables bank
        { s.banks.tables bank with recipes := (s.banks.tables bank).recipes.set (k - 1) x } } := by
  rw [writeRecipe, h]
  rfl

theorem product?_of_getElem? {t : BankTables} {i : Nat} {x : Option Product} (hi : i ≠ 0)
    (h : t.products[i - 1]? = some x) : t.product? i = x := by
  rw [BankTables.product?, if_neg hi, h]
  rfl

theorem curve?_of_getElem? {t : BankTables} {j : Nat} {x : Option (List CurvePoint)} (hj : j ≠ 0)
    (h : t.curves[j - 1]? = some x) : t.curve? j = x := by
  rw [BankTables.curve?, if_neg hj, h]
  rfl

theorem recipeOf_of_getElem? {t : BankTables} {k : Nat} {x : Recipe} (hk : k ≠ 0) (h : t.recipes[k - 1]? = some x) :
    t.recipeOf k = x := by
  rw [BankTables.recipeOf, if_neg hk, List.getD_eq_getElem?_getD, h]
  rfl

/-- Settles O31, from the codecs of the three records and the rule of a one-record SET of a bank. -/
theorem bankRecordsAreWrittenToAFreeBank : Obligations.BankRecordsAreWrittenToAFreeBank := by
  intro s bank i j k p c r h hp hc hr hi hj hk product curve slot
  have hi0 : i.val ≠ 0 := fun h0 => hi (Fin.ext h0)
  have hj0 : j.val ≠ 0 := fun h0 => hj (Fin.ext h0)
  have hk0 : k.val ≠ 0 := fun h0 => hk (Fin.ext h0)
  have hi256 : i.val < 256 := by omega
  have hslot : ∀ x, slot x = recipeSlotBytes x := by
    rintro (_ | y) <;> rfl
  have hexecP : ∀ i p, exec (.productSet bank i p) s = .next (hostSet (BitVec.ofNat 16 (bankBase bank + i.val)) p s) :=
    fun _ _ => rfl
  have hexecC : ∀ j c, exec (.curveSet bank j c) s =
      .next (hostSet (BitVec.ofNat 16 (bankBase bank + 0x100 + j.val)) c s) := fun _ _ => rfl
  have hexecR : ∀ k r, exec (.recipeSet bank k r) s =
      .next (hostSet (BitVec.ofNat 16 (bankBase bank + 0x200 + k.val)) r s) := fun _ _ => rfl
  obtain ⟨pWrite, pRange, pActive, pUse⟩ := hostSet_bankRecord (write := writeProduct bank) (last := 15) (size := 10)
    (bank := bank) h (objectAt_product bank i) rfl (by decide) (by omega) hp
  obtain ⟨cWrite, cRange, cActive, cUse⟩ := hostSet_bankRecord (write := writeCurve bank) (last := 16) (size := 25)
    (bank := bank) h (objectAt_curve bank j) rfl (by decide) (by omega) hc
  obtain ⟨rWrite, rRange, rActive, rUse⟩ := hostSet_bankRecord (write := writeRecipe bank) (last := 8) (size := 14)
    (bank := bank) h (objectAt_recipe bank k) rfl (by decide) (by omega) hr
  refine ⟨readProduct_none _ _ hi256 p hp, fun y => ?_, readCurve_none _ _ c hc, fun points => readCurve_some _ _ c hc points,
    fun x => ?_, fun hact hcount => ⟨fun x hx => ?_, fun x hx => ?_, fun x hx => ?_, fun hx => ?_, fun hx => ?_, fun hx => ?_⟩,
    fun payload hlen => ⟨?_, ?_, ?_⟩, fun hact => ⟨?_, ?_, ?_⟩, fun hact hcount => ⟨?_, ?_, ?_⟩, ?query⟩
  · rw [readProduct_some _ _ hi256 p hp]
    simp only [Product.curvesNamed, curveNamed_iff]
    rfl
  · rw [readRecipe_eq_some r hr, hslot, hslot]
    rfl
  · exact ⟨_, (hexecP i p).trans (congrArg Host.Outcome.next
      (pWrite hact hcount _ (writeProduct_of_some (s := s.heardHost) hx) rfl)), rfl, rfl⟩
  · exact ⟨_, (hexecC j c).trans (congrArg Host.Outcome.next
      (cWrite hact hcount _ (writeCurve_of_some (s := s.heardHost) hx) rfl)), rfl, rfl⟩
  · exact ⟨_, (hexecR k r).trans (congrArg Host.Outcome.next
      (rWrite hact hcount _ (writeRecipe_of_some (s := s.heardHost) hx) rfl)), rfl, rfl⟩
  · have hx' : readProduct (s.heardHost.banks.tables bank) i.val p = none := hx
    exact (hexecP i p).trans (congrArg Host.Outcome.next (pRange hact hcount (by rw [writeProduct, hx'])))
  · have hx' : readCurve (s.heardHost.banks.tables bank) j.val c = none := hx
    exact (hexecC j c).trans (congrArg Host.Outcome.next (cRange hact hcount (by rw [writeCurve, hx'])))
  · exact (hexecR k r).trans (congrArg Host.Outcome.next (rRange hact hcount (by rw [writeRecipe, hx])))
  · exact (hexecP 0 payload).trans (congrArg Host.Outcome.next 
      (hostSet_indexZero (bank := bank) (size := 10) (last := 15) (write := writeProduct bank) h hlen
        (objectAt_product bank 0) rfl))
  · exact (hexecC 0 payload).trans (congrArg Host.Outcome.next 
      (hostSet_indexZero (bank := bank) (size := 25) (last := 16) (write := writeCurve bank) h hlen
        (objectAt_curve bank 0) rfl))
  · exact (hexecR 0 payload).trans (congrArg Host.Outcome.next 
      (hostSet_indexZero (bank := bank) (size := 14) (last := 8) (write := writeRecipe bank) h hlen
        (objectAt_recipe bank 0) rfl))
  · exact (hexecP i p).trans (congrArg Host.Outcome.next (pActive hact))
  · exact (hexecC j c).trans (congrArg Host.Outcome.next (cActive hact))
  · exact (hexecR k r).trans (congrArg Host.Outcome.next (rActive hact))
  · exact (hexecP i p).trans (congrArg Host.Outcome.next (pUse hact hcount))
  · exact (hexecC j c).trans (congrArg Host.Outcome.next (cUse hact hcount))
  · exact (hexecR k r).trans (congrArg Host.Outcome.next (rUse hact hcount))
  case query =>
    intro answers x
    have hproduct : ∀ (i : Fin 16) (data : List Byte), productBytes i.val (x.product? i.val) = data → answers i.val data :=
      fun i data hdata => exec_objectQuery_of_ok _ _ _ s h (objectAt_product bank i) nofun nofun (congrArg Except.ok hdata)
    have hcurve : ∀ (j : Fin 17) (data : List Byte), curveBytes (x.curve? j.val) = data → answers (0x100 + j.val) data :=
      fun j data hdata => exec_objectQuery_of_ok _ (.curve bank j.val) _ s h
        (by rw [← Nat.add_assoc]; exact objectAt_curve bank j) nofun nofun (congrArg Except.ok hdata)
    have hrecipe : ∀ (k : Fin 9) (data : List Byte), recipeBytes (x.recipeOf k.val) = data → answers (0x200 + k.val) data :=
      fun k data hdata => exec_objectQuery_of_ok _ (.recipe bank k.val) _ s h
        (by rw [← Nat.add_assoc]; exact objectAt_recipe bank k) nofun nofun (congrArg Except.ok hdata)
    refine ⟨hproduct 0 _ rfl, hcurve 0 _ rfl, hrecipe 0 _ rfl, fun hx => hproduct i _ ?_, fun y hx => hproduct i _ ?_,
      fun hx => hcurve j _ ?_, fun points hx => hcurve j _ ?_, fun y hx => hrecipe k _ ?_⟩
    · rw [product?_of_getElem? hi0 hx]
      rfl
    · rw [product?_of_getElem? hi0 hx]
      rfl
    · rw [curve?_of_getElem? hj0 hx]
      rfl
    · rw [curve?_of_getElem? hj0 hx]
      rfl
    · rw [recipeOf_of_getElem? hk0 hx, recipeBytes, hslot, hslot]

/-! #### Two records in one SET (R158, R159) -/

theorem tables_setTables (b : Banks) (bank : Bank) (t : BankTables) : (b.setTables bank t).tables bank = t := by
  cases bank <;> rfl

theorem setTables_setTables (b : Banks) (bank : Bank) (t u : BankTables) :
    (b.setTables bank t).setTables bank u = b.setTables bank u := by
  cases bank <;> rfl

/-- A first product record that is accepted is written; the second is then taken (R158, R159). -/
theorem setProducts_two {bank : Bank} {i : Nat} {p q : List Byte} {s : State} {x : Option Product} (h1 : 1 ≤ i)
    (h15 : i ≤ 15) (hp : p.length = 10) (hq : q.length = 10) (hact : s.banks.active ≠ bank)
    (hcount : s.banks.count bank = 0) (hx : readProduct (s.banks.tables bank) i p = some x) :
    setProducts bank i (p ++ q) s =
      writeRecords 10 15 (writeProduct bank) 1 (i + 1) 1 q { s with
        banks := s.banks.setTables bank
          { s.banks.tables bank with products := (s.banks.tables bank).products.set (i - 1) x } } := by
  have hlen : (p ++ q).length = 10 * 2 := by rw [List.length_append, hp, hq]
  rw [setProducts, setTable_of_records h1 hlen (by decide) (by decide), bankRefusal_free hact hcount]
  dsimp only
  rw [writeRecords, if_neg (Nat.not_lt.2 h15), ← hp, List.take_left, List.drop_left, writeProduct_of_some hx]

theorem writeRecords_one {size last index written : Nat} {write : Nat → List Byte → State → Option State}
    {bytes : List Byte} {s : State} (hlen : bytes.length = size) :
    writeRecords size last write 1 index written bytes s =
      if last < index then (s, .refusedAfter .noObject written)
      else
        match write index bytes s with
        | none => (s, .refusedAfter .outOfRange written)
        | some t => (t, .done) := by
  rw [writeRecords, ← hlen, List.take_length]
  rfl

/-- Settles O32: the first record's write, then the one-record rule for the second. -/
theorem multiRecordSetStopsAtTheFirstRefusal : Obligations.MultiRecordSetStopsAtTheFirstRefusal := by
  intro s bank i p q x h hact hcount hi hp hq hx one after1
  have hi0 : i.val ≠ 0 := fun h0 => hi (Fin.ext h0)
  have hlen : (p ++ q).length ≤ 48 := by
    rw [List.length_append]
    omega
  have hroom := heardHost_has_room s h
  have hexec : ∀ payload, exec (.productSet bank i payload) s =
      .next (hostSet (BitVec.ofNat 16 (bankBase bank + i.val)) payload s) := fun _ => rfl
  have hset : setObject (.product bank i.val) (p ++ q) s.heardHost =
      writeRecords 10 15 (writeProduct bank) 1 (i.val + 1) 1 q after1 :=
    setProducts_two (s := s.heardHost) (by omega) (by omega) hp hq hact hcount hx
  have hone : after1.banks.tables bank = one := tables_setTables _ _ _
  rw [writeRecords_one hq] at hset
  refine ⟨fun y hi15 hy => ?_, fun hi15 hy => ?_, fun hi15 => ?_, fun payload hle hbad => ?_⟩
  · have hy' : readProduct (after1.banks.tables bank) (i.val + 1) q = some y := hone.symm ▸ hy
    rw [if_neg (by omega), writeProduct_of_some hy', hone] at hset
    have hdone := hostSet_done h hlen (objectAt_product bank i) hset hroom
    refine (hexec _).trans (congrArg Host.Outcome.next (hdone.trans ?_))
    dsimp only [after1]
    rw [setTables_setTables]
    rfl
  · have hy' : readProduct (after1.banks.tables bank) (i.val + 1) q = none := hone.symm ▸ hy
    have hwrite : writeProduct bank (i.val + 1) q after1 = none := by rw [writeProduct, hy']
    rw [if_neg (by omega), hwrite] at hset
    exact (hexec _).trans (congrArg Host.Outcome.next
      (hostSet_refusedAfter h hlen (objectAt_product bank i) hset hroom))
  · rw [if_pos (by omega)] at hset
    exact (hexec _).trans (congrArg Host.Outcome.next
      (hostSet_refusedAfter h hlen (objectAt_product bank i) hset hroom))
  · have hbadSet : setObject (.product bank i.val) payload s.heardHost = (s.heardHost, .refusedAfter .badLength 0) :=
      setTable_badLength (by omega) hbad
    exact (hexec _).trans (congrArg Host.Outcome.next
      (hostSet_refusedAfter h hle (objectAt_product bank i) hbadSet hroom))

end Sys2Proof.Machine
end

section
/-! ### Cards, permits and orders as bytes (10, "Record layouts"; R23, R26, R30) -/

namespace Sys2Proof.Machine

/-! #### Card numbers -/

theorem digitsValue_append (ds : List Nat) (d : Nat) : digitsValue (ds ++ [d]) = digitsValue ds * 10 + d := by
  simp [digitsValue, List.foldl_append]

theorem digitsValue_lt (ds : List Nat) (h : ∀ d ∈ ds, d ≤ 9) : digitsValue ds < 10 ^ ds.length := by
  induction ds using List.reverseRecOn with
  | nil => exact Nat.one_pos
  | append_singleton ds d ih =>
    obtain ⟨hds, hd⟩ := List.forall_mem_append.1 h
    have hd9 := hd d (List.mem_singleton_self d)
    have := ih hds
    rw [digitsValue_append, List.length_append, List.length_singleton, Nat.pow_succ]
    omega

theorem digitsValue_decimalDigits (n v : Nat) : digitsValue (decimalDigits n v) = v % 10 ^ n := by
  induction n generalizing v with
  | zero => exact (Nat.mod_one v).symm
  | succ n ih => rw [decimalDigits, digitsValue_append, ih, Nat.pow_succ, Nat.mul_comm (10 ^ n), Nat.mod_mul]; omega

theorem decimalDigits_le (n v : Nat) : ∀ d ∈ decimalDigits n v, d ≤ 9 := by
  induction n generalizing v with
  | zero => nofun
  | succ n ih =>
    rw [decimalDigits, List.forall_mem_append, List.forall_mem_singleton]
    exact ⟨ih (v / 10), by omega⟩

theorem decimalDigits_digitsValue (ds : List Nat) (h : ∀ d ∈ ds, d ≤ 9) :
    decimalDigits ds.length (digitsValue ds) = ds := by
  induction ds using List.reverseRecOn with
  | nil => rfl
  | append_singleton ds d ih =>
    obtain ⟨hds, hd⟩ := List.forall_mem_append.1 h
    have hd9 := hd d (List.mem_singleton_self d)
    have hdiv : (digitsValue ds * 10 + d) / 10 = digitsValue ds := by omega
    have hmod : (digitsValue ds * 10 + d) % 10 = d := by omega
    rw [digitsValue_append, List.length_append, List.length_singleton, decimalDigits, hdiv, hmod, ih hds]

theorem halfBytes_cons (b : Byte) (bs : List Byte) :
    halfBytes (b :: bs) = b.toNat / 16 :: b.toNat % 16 :: halfBytes bs := rfl

theorem packHalfBytes_halfBytes (bs : List Byte) : packHalfBytes (halfBytes bs) = bs := by
  induction bs with
  | nil => rfl
  | cons b bs ih =>
    have hb : b.toNat / 16 * 16 + b.toNat % 16 = b.toNat := by omega
    rw [halfBytes_cons, packHalfBytes, ih, hb, BitVec.ofNat_toNat, BitVec.setWidth_eq]

theorem halfBytes_packHalfBytes (n : Nat) (ds : List Nat) (hlen : ds.length = 2 * n) (h : ∀ d ∈ ds, d ≤ 9) :
    halfBytes (packHalfBytes ds) = ds := by
  induction n generalizing ds with
  | zero => rw [List.eq_nil_of_length_eq_zero hlen]; rfl
  | succ n ih =>
    match ds, hlen with
    | x :: y :: ds, hlen =>
      obtain ⟨hx, hy, hds⟩ := by simpa only [List.forall_mem_cons] using h
      have hlen' : ds.length = 2 * n := by
        simp only [List.length_cons] at hlen
        omega
      have hnat : (BitVec.ofNat 8 (x * 16 + y)).toNat = x * 16 + y := by
        rw [BitVec.toNat_ofNat]
        omega
      rw [packHalfBytes, halfBytes_cons, ih ds hlen' hds, hnat]
      congr 1
      · omega
      · congr 1
        omega

theorem length_halfBytes (bs : List Byte) : (halfBytes bs).length = 2 * bs.length := by
  induction bs with
  | nil => rfl
  | cons b bs ih => rw [halfBytes_cons, List.length_cons, List.length_cons, ih, List.length_cons]; omega

/-- Five bytes carry a card number exactly when they are its digits. -/
theorem cardOfBytes_eq_some (bs : List Byte) (card : Nat) (hlen : bs.length = 5) :
    cardOfBytes bs = some card ↔ bs = cardBytes card ∧ card < 10000000000 := by
  have hdigits : (halfBytes bs).length = 10 := by rw [length_halfBytes, hlen]
  have hall : (halfBytes bs).all (fun d => decide (d ≤ 9)) = true ↔ ∀ d ∈ halfBytes bs, d ≤ 9 := by simp
  rw [cardOfBytes, Option.ite_none_right_eq_some, hall, Option.some.injEq]
  constructor
  · rintro ⟨h9, rfl⟩
    have hlt := digitsValue_lt _ h9
    have hback := decimalDigits_digitsValue _ h9
    rw [hdigits] at hlt hback
    exact ⟨by rw [cardBytes, hback, packHalfBytes_halfBytes], hlt⟩
  · rintro ⟨rfl, hcard⟩
    have hhalf : halfBytes (cardBytes card) = decimalDigits 10 card :=
      halfBytes_packHalfBytes 5 _ (length_decimalDigits 10 card) (decimalDigits_le 10 card)
    rw [hhalf, digitsValue_decimalDigits]
    exact ⟨decimalDigits_le 10 card, Nat.mod_eq_of_lt hcard⟩

theorem readCard_eq_ok (bs : List Byte) (card : Nat) :
    readCard bs = .ok card ↔ bs.length = 5 ∧ cardOfBytes bs = some card := by
  unfold readCard
  split
  next h => simp [h]
  next h =>
    rw [not_not] at h
    cases cardOfBytes bs <;> simp [h]

theorem readCard_badLength {bs : List Byte} (h : bs.length ≠ 5) : readCard bs = .error .badLength := if_pos h

theorem forall_halfBytes_iff (bs : List Byte) :
    (∀ d ∈ halfBytes bs, d ≤ 9) ↔ ∀ b ∈ bs, b.toNat / 16 ≤ 9 ∧ b.toNat % 16 ≤ 9 := by
  induction bs with
  | nil => exact iff_of_true nofun nofun
  | cons b bs ih => rw [halfBytes_cons, List.forall_mem_cons, List.forall_mem_cons, List.forall_mem_cons, ih, and_assoc]

theorem cardOfBytes_eq_some_iff (bs : List Byte) (card : Nat) :
    cardOfBytes bs = some card ↔
      (∀ b ∈ bs, b.toNat / 16 ≤ 9 ∧ b.toNat % 16 ≤ 9) ∧ card = digitsValue (halfBytes bs) := by
  rw [cardOfBytes, Option.ite_none_right_eq_some, ← forall_halfBytes_iff, Option.some.injEq, eq_comm (a := card)]
  simp

theorem readCard_outOfRange {bs : List Byte} (hlen : bs.length = 5) (h : ∃ b ∈ bs, 9 < b.toNat / 16 ∨ 9 < b.toNat % 16) :
    readCard bs = .error .outOfRange := by
  have hnone : cardOfBytes bs = none := by
    refine Option.eq_none_iff_forall_ne_some.2 fun card hcard => ?_
    obtain ⟨b, hb, hout⟩ := h
    have := ((cardOfBytes_eq_some_iff bs card).1 hcard).1 b hb
    omega
  rw [readCard, if_neg (not_not.2 hlen), hnone]

/-- The digits of a card, two to a byte. -/
theorem digitsValue_halfBytes (bs : List Byte) :
    digitsValue (halfBytes bs) = bs.foldl (fun v b => v * 100 + b.toNat / 16 * 10 + b.toNat % 16) 0 := by
  have hfold : ∀ v, (halfBytes bs).foldl (fun acc d => acc * 10 + d) v =
      bs.foldl (fun v b => v * 100 + b.toNat / 16 * 10 + b.toNat % 16) v := by
    induction bs with
    | nil => exact fun _ => rfl
    | cons b bs ih =>
      intro v
      rw [halfBytes_cons, List.foldl_cons, List.foldl_cons, ih, List.foldl_cons]
      congr 1
      omega
  exact hfold 0

end Sys2Proof.Machine
end

section
/-! ### Permits and the lookup key (R23 to R27) -/

namespace Sys2Proof.Machine

/-! #### The permit table -/

section Ascending
variable {below above : List Permit} {p old : Permit}

theorem putPermit_replace (hasc : (below ++ old :: above).Pairwise fun p q => p.card < q.card) (hold : old.card = p.card) :
    putPermit p (below ++ old :: above) = below ++ p :: above := by
  induction below with
  | nil => rw [List.nil_append, putPermit, if_neg (by omega), if_pos hold.symm, List.nil_append]
  | cons q below ih =>
    obtain ⟨hq, hrest⟩ := List.pairwise_cons.1 hasc
    have hlt := hq old (by simp)
    rw [List.cons_append, putPermit, if_neg (by omega), if_neg (by omega), ih hrest, List.cons_append]

theorem putPermit_insert (hbelow : ∀ q ∈ below, q.card < p.card) (habove : ∀ q ∈ above, p.card < q.card) :
    putPermit p (below ++ above) = below ++ p :: above := by
  induction below with
  | nil =>
    cases above with
    | nil => rfl
    | cons q above => rw [List.nil_append, putPermit, if_pos (habove q List.mem_cons_self), List.nil_append]
  | cons q below ih =>
    obtain ⟨hq, hrest⟩ := List.forall_mem_cons.1 hbelow
    rw [List.cons_append, putPermit, if_neg (by omega), if_neg (by omega), ih hrest, List.cons_append]

theorem cards_between (hasc : (below ++ old :: above).Pairwise fun p q => p.card < q.card) :
    (∀ q ∈ below, q.card < old.card) ∧ ∀ q ∈ above, old.card < q.card := by
  obtain ⟨-, habove, hcross⟩ := List.pairwise_append.1 hasc
  exact ⟨fun q hq => hcross q hq old List.mem_cons_self, (List.pairwise_cons.1 habove).1⟩

theorem findPermit_between (hasc : (below ++ old :: above).Pairwise fun p q => p.card < q.card) :
    findPermit (below ++ old :: above) old.card = some old := by
  have hbelow := (cards_between hasc).1
  have hnone : below.find? (fun q => q.card == old.card) = none := by
    rw [List.find?_eq_none]
    intro q hq
    have := hbelow q hq
    rw [beq_iff_eq]
    omega
  rw [findPermit, List.find?_append, hnone, Option.none_or]
  simp

theorem filter_permits_between (hasc : (below ++ old :: above).Pairwise fun p q => p.card < q.card) :
    (below ++ old :: above).filter (fun q => q.card != old.card) = below ++ above := by
  obtain ⟨hbelow, habove⟩ := cards_between hasc
  rw [List.filter_append, List.filter_cons_of_neg (by simp), List.filter_eq_self.2 fun q hq => ?_,
    List.filter_eq_self.2 fun q hq => ?_]
  · have := habove q hq
    rw [bne_iff_ne]
    omega
  · have := hbelow q hq
    rw [bne_iff_ne]
    omega

/-- The rank of a card is the count of the records below it (R24). -/
theorem permitRank_between (hasc : (below ++ old :: above).Pairwise fun p q => p.card < q.card) :
    permitRank (below ++ old :: above) old.card = below.length := by
  obtain ⟨hbelow, habove⟩ := cards_between hasc
  have hnone : above.filter (fun q => decide (q.card < old.card)) = [] := by
    rw [List.filter_eq_nil_iff]
    intro q hq
    have := habove q hq
    rw [decide_eq_true_eq]
    omega
  rw [permitRank, List.filter_append, List.filter_cons_of_neg (by simp), hnone, List.append_nil,
    List.filter_eq_self.2 fun q hq => decide_eq_true (hbelow q hq)]

end Ascending

theorem findPermit_eq_none {l : List Permit} {card : Nat} (h : ∀ q ∈ l, q.card ≠ card) : findPermit l card = none := by
  simpa [findPermit] using h

theorem insertPermit_of_found {p old : Permit} {s : State} (h : findPermit s.store.permits p.card = some old) :
    insertPermit p s = ({ s with store := { s.store with permits := putPermit p s.store.permits } }, .done) := by
  rw [insertPermit, if_neg (by simp [h])]
  rfl

theorem insertPermit_of_room {p : Permit} {s : State} (h : s.store.permits.length < 512) :
    insertPermit p s = ({ s with store := { s.store with permits := putPermit p s.store.permits } }, .done) := by
  rw [insertPermit, if_neg (by omega)]
  rfl

theorem insertPermit_of_full {p : Permit} {s : State} (h : findPermit s.store.permits p.card = none)
    (hfull : s.store.permits.length = 512) : insertPermit p s = (s, .refused .tableFull) := by
  rw [insertPermit, if_pos ⟨by rw [h]; rfl, hfull.ge⟩]

theorem removePermit_of_none {card : Nat} {s : State} (h : findPermit s.store.permits card = none) :
    removePermit card s = (s, .refused .notFound) := by
  rw [removePermit, h]

theorem removePermit_of_found {card : Nat} {p : Permit} {s : State} (h : findPermit s.store.permits card = some p) :
    removePermit card s = ({ s with store := { s.store with
      permits := s.store.permits.filter fun q => q.card != card } }, .done) := by
  rw [removePermit, h]
  rfl

theorem setPermit_of_ok {payload : List Byte} {p : Permit} (s : State) (h : readPermit payload = .ok p) :
    setPermit payload s = insertPermit p s := by rw [setPermit, h]

theorem setPermit_of_error {payload : List Byte} {reason : Reason} (s : State) (h : readPermit payload = .error reason) :
    setPermit payload s = (s, .refused reason) := by rw [setPermit, h]

theorem withCard_of_ok {payload : List Byte} {card : Nat} (f : Nat → State → State × Reply) (s : State)
    (h : readCard payload = .ok card) : withCard payload f s = f card s := by rw [withCard, h]

theorem withCard_of_error {payload : List Byte} {reason : Reason} (f : Nat → State → State × Reply) (s : State)
    (h : readCard payload = .error reason) : withCard payload f s = (s, .refused reason) := by rw [withCard, h]

theorem objectAt_permitInsert : objectAt 0x2000 = some .permitInsert := by decide

theorem objectAt_permitRemove : objectAt 0x2001 = some .permitRemove := by decide

theorem objectAt_lookupKey : objectAt 0x2002 = some .lookupKey := by decide

theorem objectAt_lookupResult : objectAt 0x2003 = some .lookupResult := by decide

/-- Settles O33: in an ascending table the record goes between the records below it and those above. -/
theorem permitsAreInsertedAtTheirRank : Obligations.PermitsAreInsertedAtTheirRank := by
  intro s payload h hok hlen
  obtain ⟨-, hasc, -⟩ := hok
  have hroom := heardHost_has_room s h
  have hexec : exec (.permitInsert payload) s = .next (hostSet 0x2000 payload s) := rfl
  refine ⟨fun p hread => ⟨fun below above old hs hold => ?replaced, fun hnone hfull => ?full,
    fun below above hs hlt hbelow habove => ?inserted⟩, fun reason hread => ?refused⟩
  case replaced =>
    rw [hs] at hasc
    have hfound : findPermit s.heardHost.store.permits p.card = some old :=
      hs.symm ▸ hold ▸ findPermit_between hasc
    have hput : putPermit p s.heardHost.store.permits = below ++ p :: above :=
      hs.symm ▸ putPermit_replace hasc hold
    have hset : setObject .permitInsert payload s.heardHost = _ :=
      (setPermit_of_ok _ hread).trans (insertPermit_of_found hfound)
    rw [hput] at hset
    exact hexec.trans (congrArg Host.Outcome.next (hostSet_done h hlen objectAt_permitInsert hset hroom))
  case full =>
    have hset : setObject .permitInsert payload s.heardHost = _ :=
      (setPermit_of_ok _ hread).trans (insertPermit_of_full (s := s.heardHost) (findPermit_eq_none hnone) hfull)
    exact hexec.trans (congrArg Host.Outcome.next (hostSet_refused h hlen objectAt_permitInsert hset))
  case inserted =>
    have hput : putPermit p s.heardHost.store.permits = below ++ p :: above :=
      hs.symm ▸ putPermit_insert hbelow habove
    have hset : setObject .permitInsert payload s.heardHost = _ :=
      (setPermit_of_ok _ hread).trans (insertPermit_of_room (s := s.heardHost) hlt)
    rw [hput] at hset
    exact hexec.trans (congrArg Host.Outcome.next (hostSet_done h hlen objectAt_permitInsert hset hroom))
  case refused =>
    have hset : setObject .permitInsert payload s.heardHost = _ := setPermit_of_error _ hread
    exact hexec.trans (congrArg Host.Outcome.next (hostSet_refused h hlen objectAt_permitInsert hset))

/-- The two SETs that carry a card number are refused alike for their payload (R26, R27). -/
theorem exec_cardSets_refused {payload : List Byte} {reason : Reason} {s : State} (h : s.canHear)
    (hlen : payload.length ≤ 48) (hread : readCard payload = .error reason) :
    exec (.permitRemove payload) s = .next (s.heardHost.answersRefused 0 0x2001 reason) ∧
      exec (.lookupKeySet payload) s = .next (s.heardHost.answersRefused 0 0x2002 reason) :=
  ⟨congrArg Host.Outcome.next (hostSet_refused h hlen objectAt_permitRemove (withCard_of_error removePermit _ hread)),
    congrArg Host.Outcome.next (hostSet_refused h hlen objectAt_lookupKey (withCard_of_error setKey _ hread))⟩

/-- A QUERY of the lookup key or its result without a key is refused (R27). -/
theorem lookupQueries_without_key {s : State} (h : s.canHear) (hkey : s.store.key = none) :
    exec (.objectQuery 0x2002 []) s = .next (s.heardHost.answersRefused 0 0x2002 .notFound) ∧
      exec (.objectQuery 0x2003 []) s = .next (s.heardHost.answersRefused 0 0x2003 .notFound) := by
  have hkey' : s.heardHost.store.key = none := hkey
  exact ⟨exec_objectQuery_of_error _ _ _ s h objectAt_lookupKey (by rw [queryData, keyData, hkey']),
    exec_objectQuery_of_error _ _ _ s h objectAt_lookupResult (by rw [queryData, lookupData, lookupResult, hkey'])⟩

/-- Settles O34, from the codec of a card number and the table's order. -/
theorem permitRemoveAndLookupKey : Obligations.PermitRemoveAndLookupKey := by
  refine ⟨fun bytes card => ?_, fun card hcard => ?_, fun s payload h hok hlen =>
    ⟨fun hbad => exec_cardSets_refused h hlen (readCard_badLength hbad),
      fun h5 hdigit => exec_cardSets_refused h hlen (readCard_outOfRange h5 hdigit), fun card hread => ?_⟩⟩
  · rw [readCard_eq_ok, cardOfBytes_eq_some_iff, digitsValue_halfBytes]
  · exact (readCard_eq_ok _ _).2 ⟨length_cardBytes card, (cardOfBytes_eq_some _ _ (length_cardBytes card)).2 ⟨rfl, hcard⟩⟩
  obtain ⟨-, hasc, -⟩ := hok
  have hroom := heardHost_has_room s h
  have hremove : exec (.permitRemove payload) s = .next (hostSet 0x2001 payload s) := rfl
  refine ⟨fun hnone => ?notFound, fun below above old hs hold => ?removed, ?keySet, lookupQueries_without_key h,
    fun hkey => ⟨?key, fun hnone => ?noRecord, fun below above p hs hp => ?record⟩⟩
  case notFound =>
    have hset : setObject .permitRemove payload s.heardHost = _ :=
      (withCard_of_ok removePermit _ hread).trans (removePermit_of_none (s := s.heardHost) (findPermit_eq_none hnone))
    exact hremove.trans (congrArg Host.Outcome.next (hostSet_refused h hlen objectAt_permitRemove hset))
  case removed =>
    rw [hs] at hasc
    have hfound : findPermit s.heardHost.store.permits card = some old := hs.symm ▸ hold ▸ findPermit_between hasc
    have hrest : (s.heardHost.store.permits.filter fun q => q.card != card) = below ++ above :=
      hs.symm ▸ hold ▸ filter_permits_between hasc
    have hset : setObject .permitRemove payload s.heardHost = _ :=
      (withCard_of_ok removePermit _ hread).trans (removePermit_of_found hfound)
    rw [hrest] at hset
    exact hremove.trans (congrArg Host.Outcome.next (hostSet_done h hlen objectAt_permitRemove hset hroom))
  case keySet =>
    have hset : setObject .lookupKey payload s.heardHost = _ := withCard_of_ok setKey _ hread
    exact congrArg Host.Outcome.next (hostSet_done h hlen objectAt_lookupKey hset hroom)
  case key =>
    have hkey' : s.heardHost.store.key = some card := hkey
    exact exec_objectQuery_of_ok _ _ _ s h objectAt_lookupKey nofun nofun (by rw [queryData, keyData, hkey'])
  case noRecord =>
    have hkey' : s.heardHost.store.key = some card := hkey
    have hnone' : findPermit s.heardHost.store.permits card = none := findPermit_eq_none hnone
    exact exec_objectQuery_of_error _ _ _ s h objectAt_lookupResult
      (by rw [queryData, lookupData, lookupResult, hkey']; dsimp only; rw [hnone']; rfl)
  case record =>
    rw [hs] at hasc
    have hkey' : s.heardHost.store.key = some card := hkey
    have hfound : findPermit s.heardHost.store.permits card = some p := hs.symm ▸ hp ▸ findPermit_between hasc
    have hrank : permitRank s.heardHost.store.permits card = below.length := hs.symm ▸ hp ▸ permitRank_between hasc
    exact exec_objectQuery_of_ok _ _ _ s h objectAt_lookupResult nofun nofun
      (by rw [queryData, lookupData, lookupResult, hkey']; dsimp only; rw [hfound, hrank]; rfl)

end Sys2Proof.Machine
end

section
/-! ### Orders and permits as bytes (R23, R30 to R33) -/

namespace Sys2Proof.Machine

/-! #### Order records (R30) -/

/-- The bytes of an order's entries. -/
def entryBytes (entries : List OrderEntry) : List Byte :=
  entries.flatMap fun e => [byteOf e.number, byteOf e.product] ++ beBytes 2 e.preset

/-- An entry in the ranges that its bytes can carry. -/
def OrderEntry.fits (e : OrderEntry) : Prop := e.number < 256 ∧ e.product < 256 ∧ e.preset < 65536

theorem entryBytes_cons (e : OrderEntry) (entries : List OrderEntry) :
    entryBytes (e :: entries) = byteOf e.number :: byteOf e.product :: (beBytes 2 e.preset ++ entryBytes entries) := by
  simp [entryBytes]

theorem length_entryBytes (entries : List OrderEntry) : (entryBytes entries).length = 4 * entries.length := by
  induction entries with
  | nil => rfl
  | cons e entries ih =>
    rw [entryBytes_cons, List.length_cons, List.length_cons, List.length_append, length_beBytes, ih, List.length_cons]
    omega

/-- The entries read from bytes are those that the bytes spell. -/
theorem orderEntries_eq_iff (n : Nat) (bytes : List Byte) (entries : List OrderEntry) (hlen : bytes.length = 4 * n) :
    orderEntries n bytes = entries ↔
      bytes = entryBytes entries ∧ entries.length = n ∧ ∀ e ∈ entries, e.fits := by
  induction n generalizing bytes entries with
  | zero =>
    rw [List.eq_nil_of_length_eq_zero hlen]
    cases entries with
    | nil => exact iff_of_true rfl ⟨rfl, rfl, nofun⟩
    | cons e entries => simp [orderEntries]
  | succ n ih =>
    match bytes, hlen with
    | x :: y :: z :: w :: bytes, hlen =>
      have hx := x.isLt
      have hy := y.isLt
      have hp := beNat_two_lt z w
      have hlen' : bytes.length = 4 * n := by
        simp only [List.length_cons] at hlen
        omega
      have hread : orderEntries (n + 1) (x :: y :: z :: w :: bytes) =
          { number := x.toNat, product := y.toNat, preset := beNat [z, w] } :: orderEntries n bytes := by
        simp [orderEntries, fieldNat, beNat_singleton]
      rw [hread]
      cases entries with
      | nil => simp
      | cons e entries =>
        obtain ⟨number, product, preset⟩ := e
        rw [List.cons.injEq, ih bytes entries hlen', entryBytes_cons, eq_comm (a := x :: y :: z :: w :: bytes),
          List.cons.injEq, List.cons.injEq, beBytes_two_append, byteOf, byteOf, byte_eq_iff, byte_eq_iff,
          List.length_cons, List.forall_mem_cons, OrderEntry.mk.injEq]
        constructor
        · rintro ⟨⟨rfl, rfl, rfl⟩, hrest, hn, hfits⟩
          exact ⟨⟨Nat.mod_eq_of_lt hx, Nat.mod_eq_of_lt hy, Nat.mod_eq_of_lt hp, hrest.symm⟩, congrArg (· + 1) hn,
            ⟨hx, hy, hp⟩, hfits⟩
        · rintro ⟨⟨e1, e2, e3, hrest⟩, hn, ⟨f1, f2, f3⟩, hfits⟩
          dsimp only at e1 e2 e3 f1 f2 f3
          exact ⟨⟨by omega, by omega, by omega⟩, hrest.symm, Nat.succ.inj hn, hfits⟩

theorem numbersDiffer_iff (entries : List OrderEntry) :
    numbersDiffer entries = true ↔ (entries.map fun e => e.number).Nodup := by
  induction entries with
  | nil => exact iff_of_true rfl List.nodup_nil
  | cons e entries ih =>
    rw [numbersDiffer, Bool.and_eq_true, ih, List.map_cons, List.nodup_cons]
    simp [List.mem_map]

/-- The field checks of R30 on the compartment list. -/
theorem entriesOk_iff (entries : List OrderEntry) :
    entriesOk entries = true ↔
      1 ≤ entries.length ∧ entries.length ≤ 8 ∧ (entries.map fun e => e.number).Nodup ∧
        ∀ e ∈ entries, 1 ≤ e.number ∧ e.number ≤ 8 ∧ 1 ≤ e.product ∧ e.product ≤ 15 ∧ 1 ≤ e.preset ∧ e.preset ≤ 60000 := by
  simp only [entriesOk, Bool.and_eq_true, inRange_iff, numbersDiffer_iff, List.all_eq_true, and_assoc]

/-- Twelve bytes of an order record, and the bytes of its entries. -/
theorem readOrder_fields (bytes : List Byte) (o : Order) :
    readOrder bytes = .ok o ↔
      (12 ≤ bytes.length ∧ bytes.length = 12 + 4 * fieldNat bytes 11 1) ∧ cardOfBytes (bytes.take 5) = some o.card ∧
        o.ref = fieldNat bytes 5 4 ∧
        o.vehicle = (if fieldNat bytes 9 2 = 0 then none else some (fieldNat bytes 9 2)) ∧
        orderEntries (fieldNat bytes 11 1) (bytes.drop 12) = o.entries ∧ entriesOk o.entries = true := by
  unfold readOrder
  split
  next hbad => exact iff_of_false nofun fun ⟨hgood, _⟩ => by omega
  next hgood =>
    have hgood' : 12 ≤ bytes.length ∧ bytes.length = 12 + 4 * fieldNat bytes 11 1 := by omega
    obtain ⟨card, ref, vehicle, entries⟩ := o
    split
    next hnone => simp [hnone]
    next card' hcard =>
      dsimp only
      rw [hcard, Option.some.injEq]
      constructor
      · intro h
        split at h
        next hok =>
          cases h
          exact ⟨hgood', rfl, rfl, rfl, rfl, hok⟩
        next => cases h
      · rintro ⟨-, rfl, rfl, rfl, rfl, hok⟩
        exact if_pos hok

theorem orderBytes_eq (o : Order) :
    orderBytes o =
      cardBytes o.card ++ (beBytes 4 o.ref ++ (beBytes 2 (o.vehicle.getD 0) ++ (byteOf o.entries.length :: entryBytes o.entries))) := by
  simp [orderBytes, entryBytes]

theorem vehicle_eq_iff (vehicle : Option Nat) (v : Nat) (hv : v < 65536) :
    vehicle = (if v = 0 then none else some v) ↔
      vehicle.getD 0 % 65536 = v ∧ ∀ x, vehicle = some x → 1 ≤ x ∧ x ≤ 65535 := by
  cases vehicle with
  | none => grind
  | some x =>
    rw [Option.getD_some]
    constructor
    · intro h
      split at h
      next => cases h
      next h0 =>
        cases h
        exact ⟨Nat.mod_eq_of_lt hv, fun y hy => by cases hy; omega⟩
    · rintro ⟨hmod, hx⟩
      have := hx x rfl
      obtain rfl : x = v := by omega
      rw [if_neg (by omega)]

/-- A record is accepted exactly when it is the record of an order in its ranges (R30). -/
theorem readOrder_eq_ok (bytes : List Byte) (o : Order) :
    readOrder bytes = .ok o ↔
      bytes = orderBytes o ∧ o.card < 10000000000 ∧ o.ref < 4294967296 ∧
        (∀ v, o.vehicle = some v → 1 ≤ v ∧ v ≤ 65535) ∧ entriesOk o.entries = true := by
  by_cases h12 : 12 ≤ bytes.length
  · match bytes, h12 with
    | x0 :: x1 :: x2 :: x3 :: x4 :: x5 :: x6 :: x7 :: x8 :: x9 :: x10 :: x11 :: bytes, _ =>
      have hr := beNat_four_lt x5 x6 x7 x8
      have hv := beNat_two_lt x9 x10
      have hn := x11.isLt
      have hcard := cardOfBytes_eq_some [x0, x1, x2, x3, x4] o.card rfl
      have hbytes : x0 :: x1 :: x2 :: x3 :: x4 :: x5 :: x6 :: x7 :: x8 :: x9 :: x10 :: x11 :: bytes = orderBytes o ↔
          [x0, x1, x2, x3, x4] = cardBytes o.card ∧ o.ref % 4294967296 = beNat [x5, x6, x7, x8] ∧
            o.vehicle.getD 0 % 65536 = beNat [x9, x10] ∧ o.entries.length % 256 = x11.toNat ∧ bytes = entryBytes o.entries := by
        rw [orderBytes_eq, eq_comm]
        have happend := append_eq_iff (as := cardBytes o.card) (cs := [x0, x1, x2, x3, x4])
          (bs := beBytes 4 o.ref ++ (beBytes 2 (o.vehicle.getD 0) ++ (byteOf o.entries.length :: entryBytes o.entries)))
          (ds := x5 :: x6 :: x7 :: x8 :: x9 :: x10 :: x11 :: bytes) (length_cardBytes _)
        refine happend.trans ?_
        rw [beBytes_four_append, beBytes_two_append, List.cons.injEq, byteOf, byte_eq_iff, eq_comm (a := cardBytes _),
          eq_comm (a := entryBytes _)]
      have hfields : fieldNat (x0 :: x1 :: x2 :: x3 :: x4 :: x5 :: x6 :: x7 :: x8 :: x9 :: x10 :: x11 :: bytes) 11 1 = x11.toNat :=
        beNat_singleton x11
      rw [readOrder_fields, hbytes, hfields]
      simp only [fieldNat, List.drop_succ_cons, List.drop_zero, List.take_succ_cons, List.take_zero, List.length_cons]
      rw [hcard, vehicle_eq_iff _ _ hv]
      constructor
      · rintro ⟨⟨-, hlen⟩, ⟨hc, hc10⟩, href, ⟨hveh, hvr⟩, hent, hok⟩
        obtain ⟨he, hel, -⟩ := (orderEntries_eq_iff _ _ _ (by omega)).1 hent
        exact ⟨⟨hc, by omega, hveh, by omega, he⟩, hc10, by omega, hvr, hok⟩
      · rintro ⟨⟨hc, href, hveh, hel, he⟩, hc10, hr32, hvr, hok⟩
        have hlen := length_entryBytes o.entries
        rw [← he] at hlen
        obtain ⟨h1, h8, -, hrange⟩ := (entriesOk_iff _).1 hok
        refine ⟨⟨by omega, by omega⟩, ⟨hc, hc10⟩, by omega, ⟨hveh, hvr⟩,
          (orderEntries_eq_iff _ _ _ (by omega)).2 ⟨he, by omega, fun e he' => ?_⟩, hok⟩
        have := hrange e he'
        exact ⟨by omega, by omega, by omega⟩
  · have hbad : readOrder bytes = .error .badLength := by rw [readOrder, if_pos (by omega)]
    refine iff_of_false (by rw [hbad]; nofun) fun ⟨hbytes, _⟩ => h12 ?_
    rw [hbytes, orderBytes_eq]
    simp only [List.length_append, length_cardBytes, length_beBytes, List.length_cons]
    omega

end Sys2Proof.Machine
end

section
/-! ### SETs of orders, and permits read back (R23, R30 to R33) -/

namespace Sys2Proof.Machine

theorem readOrder_error {bytes : List Byte} {reason : Reason} (h : readOrder bytes = .error reason) :
    reason = .badLength ∨ reason = .outOfRange := by
  unfold readOrder at h
  split at h
  next => cases h; exact .inl rfl
  next =>
    split at h
    next => cases h; exact .inr rfl
    next =>
      dsimp only at h
      split at h <;> cases h
      exact .inr rfl

/-- A record is refused for its length exactly when its length does not suit its count (R30). -/
theorem readOrder_badLength_iff (bytes : List Byte) :
    readOrder bytes = .error .badLength ↔ ∀ n : Byte, bytes[11]? = some n → bytes.length ≠ 12 + 4 * n.toNat := by
  have hbad : readOrder bytes = .error .badLength ↔ bytes.length < 12 ∨ bytes.length ≠ 12 + 4 * fieldNat bytes 11 1 := by
    unfold readOrder
    split
    next h => exact iff_of_true rfl h
    next h =>
      refine iff_of_false ?_ h
      split
      next => nofun
      next =>
        dsimp only
        split <;> nofun
  rw [hbad]
  by_cases h12 : bytes.length < 12
  · refine iff_of_true (.inl h12) fun n hn => ?_
    rw [List.getElem?_eq_none (by omega)] at hn
    cases hn
  · have hget : bytes[11]? = some bytes[11] := List.getElem?_eq_getElem (by omega)
    have hfield : fieldNat bytes 11 1 = bytes[11].toNat := by
      rw [fieldNat, List.drop_eq_getElem_cons (by omega)]
      exact beNat_singleton _
    rw [hget, hfield]
    simp [h12]

theorem setOrder_of_ok {payload : List Byte} {o : Order} (s : State) (h : readOrder payload = .ok o) :
    setOrder payload s = insertOrder o s := by rw [setOrder, h]

theorem setOrder_of_error {payload : List Byte} {reason : Reason} (s : State) (h : readOrder payload = .error reason) :
    setOrder payload s = (s, .refused reason) := by rw [setOrder, h]

theorem findOrder_isSome_iff (orders : List Order) (card : Nat) :
    (findOrder orders card).isSome = true ↔ ∃ x ∈ orders, x.card = card := by
  simp [findOrder]

theorem insertOrder_of_duplicate {o : Order} {s : State} (h : ∃ x ∈ s.store.orders, x.card = o.card) :
    insertOrder o s = (s, .refused .duplicate) := if_pos ((findOrder_isSome_iff _ _).2 h)

theorem insertOrder_of_new {o : Order} {s : State} (h : ∀ x ∈ s.store.orders, x.card ≠ o.card) :
    insertOrder o s =
      if 32 ≤ s.store.orders.length then (s, .refused .tableFull)
      else ({ s with store := { s.store with orders := s.store.orders ++ [o] } }, .done) := by
  rw [insertOrder, findOrder_eq_none _ _ h]
  rfl

theorem objectAt_orderInsert : objectAt 0x3000 = some .orderInsert := by decide

theorem objectAt_orderRemove : objectAt 0x3001 = some .orderRemove := by decide

theorem exec_orderInsert (payload : List Byte) (s : State) :
    exec (.orderInsert payload) s = .next (hostSet 0x3000 payload s) := rfl

theorem exec_orderRemove (payload : List Byte) (s : State) :
    exec (.orderRemove payload) s = .next (hostSet 0x3001 payload s) := rfl

/-- Settles O35, from the codec of an order record and the table's rules. -/
theorem ordersAreInsertedAndRemoved : Obligations.OrdersAreInsertedAndRemoved := by
  refine ⟨fun bytes => ⟨readOrder_badLength_iff bytes, fun o => ?_, fun reason => readOrder_error⟩, fun s payload h hlen =>
    ⟨fun reason hread => ?refused, fun o hread => ⟨fun hdup => ?duplicate, fun hnew hfull => ?full, fun hnew hfree => ?inserted⟩,
      fun reason hread => ?removeRefused, fun card hread => ⟨fun hfound => ?removed, fun hnone => ?notFound⟩⟩⟩
  · rw [readOrder_eq_ok, entriesOk_iff, orderBytes, List.append_assoc _ [byteOf _]]
    exact Iff.rfl
  case refused =>
    have hset : setObject .orderInsert payload s.heardHost = _ := setOrder_of_error _ hread
    exact (exec_orderInsert payload s).trans (congrArg Host.Outcome.next (hostSet_refused h hlen objectAt_orderInsert hset))
  case duplicate =>
    have hset : setObject .orderInsert payload s.heardHost = _ :=
      (setOrder_of_ok _ hread).trans (insertOrder_of_duplicate (s := s.heardHost) hdup)
    exact (exec_orderInsert payload s).trans (congrArg Host.Outcome.next (hostSet_refused h hlen objectAt_orderInsert hset))
  case full =>
    have hset : setObject .orderInsert payload s.heardHost = _ :=
      (setOrder_of_ok _ hread).trans ((insertOrder_of_new (s := s.heardHost) hnew).trans (if_pos hfull))
    exact (exec_orderInsert payload s).trans (congrArg Host.Outcome.next (hostSet_refused h hlen objectAt_orderInsert hset))
  case inserted =>
    have hset : setObject .orderInsert payload s.heardHost = _ :=
      (setOrder_of_ok _ hread).trans ((insertOrder_of_new (s := s.heardHost) hnew).trans (if_neg (Nat.not_le.2 hfree)))
    exact (exec_orderInsert payload s).trans (congrArg Host.Outcome.next (hostSet_done h hlen objectAt_orderInsert hset (heardHost_has_room s h)))
  case removeRefused =>
    have hset : setObject .orderRemove payload s.heardHost = _ := withCard_of_error removeOrder _ hread
    exact (exec_orderRemove payload s).trans (congrArg Host.Outcome.next (hostSet_refused h hlen objectAt_orderRemove hset))
  case removed =>
    obtain ⟨o, ho⟩ := Option.isSome_iff_exists.1 ((findOrder_isSome_iff _ _).2 hfound)
    have hset : setObject .orderRemove payload s.heardHost = _ :=
      (withCard_of_ok removeOrder _ hread).trans (removeOrder_of_found _ o s.heardHost ho)
    exact (exec_orderRemove payload s).trans (congrArg Host.Outcome.next (hostSet_done h hlen objectAt_orderRemove hset (heardHost_has_room s h)))
  case notFound =>
    have hnone' : findOrder s.heardHost.store.orders card = none := findOrder_eq_none _ _ hnone
    have hset : setObject .orderRemove payload s.heardHost = (s.heardHost, .refused .notFound) := by
      refine (withCard_of_ok removeOrder _ hread).trans ?_
      rw [removeOrder, hnone']
    exact (exec_orderRemove payload s).trans (congrArg Host.Outcome.next (hostSet_refused h hlen objectAt_orderRemove hset))

/-! #### Permits read back -/

theorem permitStatusOf_code (x : PermitStatus) : permitStatusOf (byteOf (permitStatusCode x)).toNat = some x := by
  cases x <;> rfl

/-- What R23 checks of a permit. -/
theorem Permit.ok_iff (p : Permit) :
    p.ok = true ↔
      (∀ ds, p.code = some ds → 4 ≤ ds.length ∧ ds.length ≤ 6 ∧ ∀ d ∈ ds, d ≤ 9) ∧ 1 ≤ p.carrier ∧ p.carrier ≤ 9999 ∧
        1 ≤ p.maxLoad ∧ p.maxLoad ≤ 99999 ∧ p.attempts ≤ 3 ∧ (p.attempts = 3 → p.status = .locked) := by
  obtain ⟨card, code, carrier, expiry, classes, maxLoad, status, attempts⟩ := p
  have hlocked : (attempts != 3 || status == .locked) = true ↔ (attempts = 3 → status = .locked) := by
    by_cases h3 : attempts = 3 <;> simp [h3]
  cases code <;> simp only [Permit.ok, Bool.and_eq_true, inRange_iff, decide_eq_true_eq, hlocked, List.all_eq_true] <;> grind

/-- The digits of a driver code, and zeros up to six. -/
def codeDigits (code : Option (List Nat)) : List Nat :=
  code.getD [] ++ List.replicate (6 - (code.getD []).length) 0

/-- The driver code read from its bytes. -/
theorem codeDigits_read (code : Option (List Nat)) (h : ∀ ds, code = some ds → 4 ≤ ds.length ∧ ds.length ≤ 6 ∧ ∀ d ∈ ds, d ≤ 9) :
    halfBytes ((packHalfBytes (codeDigits code)).take 3) = codeDigits code ∧
      (if (code.getD []).length = 0 then none else some ((codeDigits code).take (code.getD []).length)) = code := by
  have hbound : (code.getD []).length ≤ 6 ∧ ∀ d ∈ code.getD [], d ≤ 9 := by
    cases code with
    | none => exact ⟨by decide, nofun⟩
    | some ds => exact (h ds rfl).2
  obtain ⟨hlen6, hle⟩ := hbound
  have hlen : (codeDigits code).length = 6 := by
    rw [codeDigits, List.length_append, List.length_replicate]
    omega
  have h9 : ∀ d ∈ codeDigits code, d ≤ 9 := by
    rw [codeDigits, List.forall_mem_append]
    exact ⟨hle, fun d hd => by rw [List.eq_of_mem_replicate hd]; omega⟩
  have hback := halfBytes_packHalfBytes 3 _ hlen h9
  have hthree : (packHalfBytes (codeDigits code)).length ≤ 3 := by
    have := length_halfBytes (packHalfBytes (codeDigits code))
    rw [hback, hlen] at this
    omega
  refine ⟨by rw [List.take_of_length_le hthree, hback], ?_⟩
  rw [codeDigits, List.take_left]
  cases code with
  | none => rfl
  | some ds =>
    have := (h ds rfl).1
    exact if_neg (by rw [Option.getD_some]; omega)

end Sys2Proof.Machine
end

section
/-! ### Permits read back (R23) -/

namespace Sys2Proof.Machine

theorem beNat_beBytes_two {v : Nat} {x y : Byte} (h : beBytes 2 v = [x, y]) (hv : v < 65536) : beNat [x, y] = v :=
  ((beBytes_two_eq v x y).1 h).symm.trans (Nat.mod_eq_of_lt hv)

theorem beNat_beBytes_four {v : Nat} {x y z w : Byte} (h : beBytes 4 v = [x, y, z, w]) (hv : v < 4294967296) :
    beNat [x, y, z, w] = v := by
  have hmod : v % 256 ^ 4 = beNat [x, y, z, w] := (beBytes_eq_iff v [x, y, z, w]).1 h
  rw [← hmod, Nat.mod_eq_of_lt (by simpa using hv)]

/-- Settles O41: each field of the record is read back from its place. -/
theorem permitRecordsReadBack : Obligations.PermitRecordsReadBack := by
  intro p hok hcard hexpiry
  obtain ⟨hcode, hc1, hc2, hm1, hm2, ha, -⟩ := p.ok_iff.1 hok
  obtain ⟨hdigits, hback⟩ := codeDigits_read p.code hcode
  have hlen6 : (p.code.getD []).length ≤ 6 := by
    cases hp : p.code with
    | none => decide
    | some ds => exact (hcode ds hp).2.1
  have hcardRead := (cardOfBytes_eq_some _ _ (length_cardBytes p.card)).2 ⟨rfl, hcard⟩
  have hthree : ((packHalfBytes (codeDigits p.code)).take 3).length = 3 := by
    have hsix : (codeDigits p.code).length = 6 := by
      rw [codeDigits, List.length_append, List.length_replicate]
      omega
    have hhalf := congrArg List.length hdigits
    rw [length_halfBytes, hsix] at hhalf
    omega
  match hcard5 : cardBytes p.card, length_cardBytes p.card, hk : (packHalfBytes (codeDigits p.code)).take 3, hthree,
      hcarrier : beBytes 2 p.carrier, length_beBytes 2 p.carrier, hexp : beBytes 2 p.expiry, length_beBytes 2 p.expiry,
      hclasses : beBytes 2 p.classes.toNat, length_beBytes 2 p.classes.toNat, hmax : beBytes 4 p.maxLoad,
      length_beBytes 4 p.maxLoad with
  | [c0, c1, c2, c3, c4], _, [k0, k1, k2], _, [a0, a1], _, [e0, e1], _, [s0, s1], _, [m0, m1, m2, m3], _ =>
    have hbytes : permitBytes p =
        [c0, c1, c2, c3, c4, byteOf (p.code.getD []).length, k0, k1, k2, a0, a1, e0, e1, s0, s1, m0, m1, m2, m3,
          byteOf (permitStatusCode p.status), byteOf p.attempts] := by
      rw [permitBytes, hcard5, hcarrier, hexp, hclasses, hmax]
      have hk' : (packHalfBytes (p.code.getD [] ++ List.replicate (6 - (p.code.getD []).length) 0)).take 3 = [k0, k1, k2] := hk
      rw [hk']
      rfl
    have hcarrier' := beNat_beBytes_two hcarrier (by omega)
    have hexp' := beNat_beBytes_two hexp hexpiry
    have hclasses' := beNat_beBytes_two hclasses p.classes.isLt
    have hmax' := beNat_beBytes_four hmax (by omega)
    have hlen : (byteOf (p.code.getD []).length).toNat = (p.code.getD []).length := by
      rw [byteOf, BitVec.toNat_ofNat, Nat.mod_eq_of_lt (by omega)]
    have hattempts : (byteOf p.attempts).toNat = p.attempts := by
      rw [byteOf, BitVec.toNat_ofNat, Nat.mod_eq_of_lt (by omega)]
    have hclassesBack : BitVec.ofNat 16 p.classes.toNat = p.classes := by simp
    rw [hcard5] at hcardRead
    rw [hk] at hdigits
    rw [hbytes, readPermit, if_neg (by simp)]
    simp only [fieldNat, List.drop_succ_cons, List.drop_zero, List.take_succ_cons, List.take_zero, beNat_singleton,
      hcardRead, permitStatusOf_code, hcarrier', hexp', hclasses', hclassesBack, hmax', hlen, hattempts, hdigits, hback]
    rw [if_pos]
    exact Bool.and_eq_true_iff.2 ⟨hok, decide_eq_true hlen6⟩

end Sys2Proof.Machine
end

section
/-! ### Note slots as they are read (R140, R141) -/

namespace Sys2Proof.Machine

theorem getD_of_getElem? {α : Type} {l : List α} {i : Nat} {x y : α} (h : l[i]? = some x) : l.getD i y = x := by
  rw [List.getD_eq_getElem?_getD, h, Option.getD_some]

/-- A page of a slot is answered with the slot's state and serial and then the page (R141). -/
theorem exec_pageQuery {s : State} {i : Fin 16} {x : NoteSlot} (h : s.canHear) (hx : s.notes.slots[i.val]? = some x)
    (p : Fin 9) {data : List Byte} (hdata : notePageBytes x p.val = data) :
    exec (.objectQuery (BitVec.ofNat 16 (0x5000 + 16 * i.val + p.val)) []) s =
      .next (s.heardHost.answersData (BitVec.ofNat 16 (0x5000 + 16 * i.val + p.val))
        (byteOf (slotStateCode x.state) :: beBytes 4 (x.serial.getD 0) ++ data)) := by
  refine exec_objectQuery_of_ok _ _ _ s h (objectAt_notePage i p) nofun nofun ?_
  have hslot : s.heardHost.notes.slots.getD i.val {} = x := getD_of_getElem? hx
  rw [queryData, hslot, pageResponse, hdata]
  rfl

/-- A page of a note with its three codes given as bytes. -/
def pageRecord (state arm bank : Byte) (c : CompPage) : List Byte :=
  ([BitVec.ofNat 8 c.number, BitVec.ofNat 8 c.product, state, arm, bank] : List Byte) ++
    beBytes 2 c.preset ++ beBytes 3 c.gross ++ beBytes 3 c.standard ++
    [BitVec.ofNat 8 (bitsValue [c.average.isSome, c.totalizer.isSome, c.additive.s1.isSome, c.additive.s2.isSome])] ++
    beBytes 2 (BitVec.ofInt 16 (c.average.getD 0)).toNat ++
    beBytes 4 (c.totalizer.getD (0, 0)).1 ++ beBytes 4 (c.totalizer.getD (0, 0)).2 ++
    BitVec.ofNat 8 (c.additive.s1.getD (0, 0)).1 :: beBytes 3 (c.additive.s1.getD (0, 0)).2 ++
    BitVec.ofNat 8 (c.additive.s2.getD (0, 0)).1 :: beBytes 3 (c.additive.s2.getD (0, 0)).2 ++
    beBytes 2 (bitsValue
      [c.flags.short, c.flags.underPreset, c.flags.overrun, c.flags.tempHeld, c.flags.addUnder, c.flags.addOver,
        c.flags.addHalt, c.flags.overrange, c.flags.valveFault, c.flags.meterFault, c.flags.halted, c.flags.permissive])

theorem pageBytes_eq (c : CompPage) :
    pageBytes c = pageRecord (byteOf (compCode c.state)) (byteOf (armCode c.arm)) (byteOf (bankCode c.bank)) c := by
  simp only [pageBytes, pageRecord, signedBytes, additivePageBytes, byteOf, CompFlags.value, List.append_assoc,
    List.cons_append, List.nil_append]
  cases c.arm <;> rfl

/-- The part's answer to a QUERY of a slot header, with what its sending will clear (R140). -/
theorem exec_headerQuery {s : State} {i : Fin 16} {x : NoteSlot} (h : s.canHear)
    (hx : s.notes.slots[i.val]? = some x) :
    exec (.slotHeaderQuery i []) s = .next
      { s.heardHost with
        up :=
          { s.heardHost.up with
            outgoing := s.up.outgoing ++
              [{ frame :=
                  { dir := .response, kind := 0, tag := 0, addr := BitVec.ofNat 16 (0x4000 + i.val)
                    payload := s.heardHost.attention :: slotHeaderBytes x }
                 header := if x.state = .filled then x.serial.map (fun serial => (i.val, serial)) else none }] } } := by
  have hslot : s.heardHost.notes.slots.getD i.val {} = x := getD_of_getElem? hx
  have hreply : queryReply (BitVec.ofNat 16 (0x4000 + i.val)) [] s.heardHost = .data (slotHeaderBytes x) := by
    refine queryReply_of_ok _ _ _ _ (objectAt_slotHeader i) ?_
    rw [queryData, hslot]
  have hread : headerRead (BitVec.ofNat 16 (0x4000 + i.val)) s.heardHost =
      if x.state = .filled then x.serial.map (fun serial => (i.val, serial)) else none := by
    simp only [headerRead, objectAt_slotHeader, hslot]
  have heffect : ∀ t, readEffect (BitVec.ofNat 16 (0x4000 + i.val)) t = t := by
    intro t
    rw [readEffect, objectAt_slotHeader, if_neg nofun]
  have hexec : exec (.slotHeaderQuery i []) s = .next (hostQuery (BitVec.ofNat 16 (0x4000 + i.val)) [] s) := rfl
  rw [hexec, hostQuery_of_canHear _ _ _ h (Nat.zero_le _)]
  simp only [serveQuery, hreply, hread, heffect, pushResponse, if_pos (heardHost_has_room s h)]
  rfl

/-- Settles O37, from the layouts of a header and of a page. -/
theorem slotHeaderReadsAsItStands : Obligations.SlotHeaderReadsAsItStands := by
  intro s i x h hx
  refine ⟨?pages, ?header⟩
  case pages =>
    intro first answers
    have hfirst : first = byteOf (slotStateCode x.state) :: beBytes 4 (x.serial.getD 0) := by
      dsimp only [first]
      cases x.state <;> rfl
    have hpage : ∀ (p : Fin 9) (data : List Byte), notePageBytes x p.val = data → answers p.val data := by
      intro p data hdata
      dsimp only [answers]
      rw [hfirst]
      exact exec_pageQuery h hx p hdata
    refine ⟨fun hnone => hpage 0 _ ?_, fun y hy => hpage 0 _ ?_, fun p =>
      ⟨fun hnone => hpage ⟨p.val + 1, by omega⟩ _ ?_, fun c hc => hpage ⟨p.val + 1, by omega⟩ _ ?_⟩⟩
    · rw [notePageBytes, hnone]
      rfl
    · rw [notePageBytes, hy]
      rfl
    · rw [notePageBytes, if_neg (Nat.succ_ne_zero _), Nat.add_sub_cancel, hnone]
    · rw [notePageBytes, if_neg (Nat.succ_ne_zero _), Nat.add_sub_cancel, hc]
      dsimp only
      rw [pageBytes_eq]
      change _ = pageRecord _ _ _ c
      congr 1
      · cases c.state <;> rfl
      · rcases c.arm with _ | _ | _ | _ | _ <;> rfl
      · rcases c.bank with _ | _ | _ <;> rfl
  case header =>
    rw [exec_headerQuery h hx, slotHeaderBytes]
    cases x.state <;> rfl

end Sys2Proof.Machine
end

section
/-! ### The compartment an arm holds (R44), and its release (R56, R108) -/

namespace Sys2Proof.Machine

/-! #### The held compartment -/

section Held
variable {s t : State} {n : ArmId} {c : Comp}

theorem held_of_heldComp (h : s.heldComp n = some c) : (s.arm n).held = some c.number := by
  obtain ⟨k, hk, hfind⟩ := Option.bind_eq_some_iff.1 h
  have hnum := List.find?_some hfind
  rw [hk, beq_iff_eq.1 hnum]

theorem mem_of_heldComp (h : s.heldComp n = some c) : c ∈ s.session.comps := by
  obtain ⟨k, -, hfind⟩ := Option.bind_eq_some_iff.1 h
  exact List.mem_of_find?_eq_some hfind

theorem heldComp_congr (ha : (t.arm n).held = (s.arm n).held) (hc : t.session.comps = s.session.comps) :
    t.heldComp n = s.heldComp n := by
  rw [State.heldComp, State.heldComp, ha, hc]

theorem modHeld_of_held {k : Nat} (h : (s.arm n).held = some k) (f : Comp → Comp) : s.modHeld n f = s.modComp k f := by
  rw [State.modHeld, h]

theorem modHeld_of_heldComp (h : s.heldComp n = some c) (f : Comp → Comp) : s.modHeld n f = s.modComp c.number f :=
  modHeld_of_held (held_of_heldComp h) f

theorem modComp_comps (s : State) (k : Nat) (f : Comp → Comp) :
    (s.modComp k f).session.comps = s.session.comps.map fun c => if c.number = k then f c else c := rfl

/-- What becomes of the held compartment when the record of its number is changed. -/
theorem heldComp_modComp (h : s.heldComp n = some c) (f : Comp → Comp) (hf : ∀ x, (f x).number = x.number) :
    (s.modComp c.number f).heldComp n = some (f c) := by
  obtain ⟨k, hk, hfind⟩ := Option.bind_eq_some_iff.1 h
  have hnum := List.find?_some hfind
  obtain rfl : c.number = k := beq_iff_eq.1 hnum
  have hsame : ((fun x : Comp => x.number == c.number) ∘ fun x => if x.number = c.number then f x else x) =
      fun x => x.number == c.number := by
    funext x
    rw [Function.comp_apply]
    split
    next hx => rw [hf]
    next => rfl
  rw [State.heldComp]
  refine Option.bind_eq_some_iff.2 ⟨c.number, hk, ?_⟩
  rw [modComp_comps, List.find?_map, hsame, hfind, Option.map_some, if_pos rfl]

theorem modComp_modComp (s : State) (k : Nat) (f g : Comp → Comp) (hf : ∀ x, (f x).number = x.number) :
    (s.modComp k f).modComp k g = s.modComp k fun x => g (f x) := by
  have hcomps : ((s.session.comps.map fun c => if c.number = k then f c else c).map fun c => if c.number = k then g c else c) =
      s.session.comps.map fun c => if c.number = k then g (f c) else c := by
    rw [List.map_map]
    refine List.map_congr_left fun c _ => ?_
    rw [Function.comp_apply]
    by_cases hc : c.number = k
    · rw [if_pos hc, if_pos hc, hf, if_pos hc]
    · rw [if_neg hc, if_neg hc, if_neg hc]
  exact congrArg (fun l => { s with session := { s.session with comps := l } }) hcomps

theorem modComp_id (s : State) (k : Nat) : (s.modComp k fun x => x) = s := by
  have hcomps : (s.session.comps.map fun c => if c.number = k then c else c) = s.session.comps := by simp
  exact congrArg (fun l => { s with session := { s.session with comps := l } }) hcomps

/-- The changed record of the held compartment is in the list. -/
theorem mem_modComp_comps (h : s.heldComp n = some c) (f : Comp → Comp) :
    f c ∈ s.session.comps.map fun x => if x.number = c.number then f x else x :=
  List.mem_map.2 ⟨c, mem_of_heldComp h, if_pos rfl⟩

end Held

/-! #### The end check (R108) -/

/-- The verdict of the end check on one slot of a compartment. -/
def State.verdict (s : State) (n : ArmId) (c : Comp) (k : Slot) : Bool × Bool :=
  match c.additive.get k with
  | none => (false, false)
  | some a => endVerdict ((s.config n).injector.get k) a (s.recipeFor c k)

/-- The flags that a verdict sets. -/
def Comp.judged (c : Comp) (v : Bool × Bool) : Comp :=
  { c with flags := { c.flags with addUnder := c.flags.addUnder || v.1, addOver := c.flags.addOver || v.2 } }

/-- ADDITIVE FAULT, set with any flag of a verdict. -/
def Status.judged (x : Status) (v : Bool × Bool) : Status :=
  { x with flags := { x.flags with additiveFault := x.flags.additiveFault || (v.1 || v.2) } }

theorem Comp.judged_none (c : Comp) : c.judged (false, false) = c := by simp [Comp.judged]

theorem Status.judged_none (x : Status) : x.judged (false, false) = x := by simp [Status.judged]

theorem verdict_congr {s t : State} {n : ArmId} {c d : Comp} (k : Slot) (hconfigs : t.configs = s.configs)
    (hbanks : ∀ bank product k, t.banks.prescription bank product k = s.banks.prescription bank product k)
    (hadditive : d.additive = c.additive) (hbank : d.bank = c.bank) (hproduct : d.product = c.product) :
    t.verdict n d k = s.verdict n c k := by
  simp only [State.verdict, State.config, State.recipeFor, hconfigs, hbanks, hadditive, hbank, hproduct]

theorem endCheckSlot_eq {s : State} {n : ArmId} {c : Comp} (k : Slot) (h : s.heldComp n = some c) :
    endCheckSlot n k s =
      (s.modComp c.number fun x => x.judged (s.verdict n c k)).modStatus fun x => x.judged (s.verdict n c k) := by
  unfold endCheckSlot
  rw [h]
  dsimp only
  cases ha : c.additive.get k with
  | none =>
    have hv : s.verdict n c k = (false, false) := by rw [State.verdict, ha]
    rw [hv]
    simp only [Comp.judged_none, Status.judged_none, modComp_id]
    rfl
  | some a =>
    have hv : s.verdict n c k = endVerdict ((s.config n).injector.get k) a (s.recipeFor c k) := by rw [State.verdict, ha]
    dsimp only
    rw [← hv, modHeld_of_heldComp h]
    cases hany : (s.verdict n c k).1 || (s.verdict n c k).2
    · simp only [Status.judged, hany, Bool.or_false]
      rfl
    · simp only [Status.judged, hany, Bool.or_true]
      rfl

/-- The dosing records of an arm with its outstanding shots abandoned. -/
def abandoned (d : PerSlot Dosing) : PerSlot Dosing :=
  ⟨{ d.s1 with outstanding := none, deadline := none }, { d.s2 with outstanding := none, deadline := none }⟩

/-- Both verdicts on the held compartment. -/
def State.judge (s : State) (n : ArmId) (c x : Comp) : Comp := (x.judged (s.verdict n c .s1)).judged (s.verdict n c .s2)

/-- ADDITIVE FAULT after both verdicts. -/
def State.judgedStatus (s : State) (n : ArmId) (c : Comp) : Status :=
  (s.status.judged (s.verdict n c .s1)).judged (s.verdict n c .s2)

theorem abandonShots_dosing (n : ArmId) (s : State) :
    abandonShot n .s2 (abandonShot n .s1 s) = { s with dosing := s.dosing.set n (abandoned (s.dosing.get n)) } := by
  cases n <;> rfl

/-- The end check of the held compartment, as a whole (R108). -/
theorem endCheck_eq {s : State} {n : ArmId} {c : Comp} (h : s.heldComp n = some c) :
    endCheck n s =
      { s.modComp c.number (s.judge n c) with
        status := s.judgedStatus n c, dosing := s.dosing.set n (abandoned (s.dosing.get n)) } := by
  have h1 := endCheckSlot_eq .s1 h
  have hheld : (endCheckSlot n .s1 s).heldComp n = some (c.judged (s.verdict n c .s1)) := by
    rw [h1]
    exact (heldComp_congr rfl rfl).trans (heldComp_modComp h _ fun _ => rfl)
  have hv : (endCheckSlot n .s1 s).verdict n (c.judged (s.verdict n c .s1)) .s2 = s.verdict n c .s2 := by
    rw [h1]
    exact verdict_congr .s2 rfl (fun _ _ _ => rfl) rfl rfl rfl
  have h2 := endCheckSlot_eq .s2 hheld
  rw [hv, h1] at h2
  have hcomp := modComp_modComp s c.number (fun x => x.judged (s.verdict n c .s1)) (fun x => x.judged (s.verdict n c .s2))
    fun _ => rfl
  have hboth : endCheckSlot n .s2 (endCheckSlot n .s1 s) =
      { s.modComp c.number (s.judge n c) with status := s.judgedStatus n c } := by
    rw [h1, h2]
    exact congrArg (fun u : State => { u with status := s.judgedStatus n c }) hcomp
  rw [endCheck, hboth, abandonShots_dosing]
  rfl

/-! #### Release (R56) -/

theorem uncaptureBank_eq (bank : Option Bank) (s : State) :
    uncaptureBank bank s = { s with banks := (uncaptureBank bank s).banks } := by
  rcases bank with _ | _ | _ <;> rfl

theorem uncaptureBank_prescription (bank : Option Bank) (s : State) (x : Bank) (product : Nat) (k : Slot) :
    (uncaptureBank bank s).banks.prescription x product k = s.banks.prescription x product k := by
  rcases bank with _ | _ | _ <;> rfl

theorem uncaptureBank_heldComp (bank : Option Bank) (s : State) (n : ArmId) :
    (uncaptureBank bank s).heldComp n = s.heldComp n := by
  rcases bank with _ | _ | _ <;> rfl

theorem uncaptureBank_configs (bank : Option Bank) (s : State) : (uncaptureBank bank s).configs = s.configs := by
  rcases bank with _ | _ | _ <;> rfl

/-- The state of a release before the idle limit is measured anew (R56). -/
def State.releasedWith (s : State) (n : ArmId) (blk : Option BlockCause) (c : Comp) : State :=
  { s.modComp c.number (fun x => s.judge n c (x.closed (s.arm n).totalizer)) with
    banks := (uncaptureBank c.bank s).banks
    arms := s.arms.set n ((s.arm n).released blk)
    dosing := s.dosing.set n (abandoned (s.dosing.get n))
    status := s.judgedStatus n c }

/-- A release, as a whole (R56). -/
theorem release_eq {s : State} {n : ArmId} {c : Comp} (blk : Option BlockCause) (h : s.heldComp n = some c) :
    release n blk s = markIdle (s.releasedWith n blk c) := by
  unfold release
  rw [h]
  dsimp only
  rw [modHeld_of_heldComp h]
  have hheld : (uncaptureBank c.bank (s.modComp c.number fun x => x.closed (s.arm n).totalizer)).heldComp n =
      some (c.closed (s.arm n).totalizer) :=
    (uncaptureBank_heldComp _ _ _).trans (heldComp_modComp h (fun x => x.closed (s.arm n).totalizer) fun _ => rfl)
  have hv : ∀ k, (uncaptureBank c.bank (s.modComp c.number fun x => x.closed (s.arm n).totalizer)).verdict n
      (c.closed (s.arm n).totalizer) k = s.verdict n c k := fun k =>
    verdict_congr k (uncaptureBank_configs c.bank (s.modComp c.number _))
      (uncaptureBank_prescription c.bank (s.modComp c.number _)) rfl rfl rfl
  have hjudge : (uncaptureBank c.bank (s.modComp c.number fun x => x.closed (s.arm n).totalizer)).judge n
      (c.closed (s.arm n).totalizer) = s.judge n c := funext fun x => by simp only [State.judge, hv]
  have hstatus : (uncaptureBank c.bank (s.modComp c.number fun x => x.closed (s.arm n).totalizer)).judgedStatus n
      (c.closed (s.arm n).totalizer) = s.judgedStatus n c := by
    rw [State.judgedStatus, hv, hv, uncaptureBank_eq]
    rfl
  have hcomp := modComp_modComp s c.number (fun x => x.closed (s.arm n).totalizer) (s.judge n c) fun _ => rfl
  have hbanks : (uncaptureBank c.bank (s.modComp c.number fun x => x.closed (s.arm n).totalizer)).banks =
      (uncaptureBank c.bank s).banks := by
    rcases c.bank with _ | _ | _ <;> rfl
  have hsession := congrArg State.session hcomp
  rw [endCheck_eq hheld, hjudge, hstatus, uncaptureBank_eq, hbanks]
  exact congrArg markIdle ((state_eq_iff _ _).2 ⟨rfl, rfl, rfl, hsession, rfl, rfl, rfl, rfl, rfl, rfl,
    rfl, rfl, rfl, rfl, rfl, rfl, rfl, rfl, rfl, rfl, rfl, rfl⟩)

end Sys2Proof.Machine
end

section
/-! ### Releases and the deadlines of an arm (R13, R55, R56, R61, R66) -/

namespace Sys2Proof.Machine

/-! #### What follows a release (R17, R18) -/

theorem markIdle_eq (s : State) :
    markIdle s = { s with session := { s.session with idleBase := (markIdle s).session.idleBase } } := by
  unfold markIdle
  split <;> rfl

theorem beginCompile_eq (s : State) : beginCompile s = { s with notes := s.compileBegun } := by
  rw [beginCompile, State.compileBegun]
  cases s.notes.held <;> rfl

theorem enterEnding_eq (s : State) :
    enterEnding s =
      { s with
        session := { s.session with state := .ending, closeTime := some (s.clock.day, s.clock.second), idleBase := none }
        notes := s.compileBegun } := by
  rw [enterEnding, beginCompile_eq]
  rfl

theorem display_eq (code : Nat) (s : State) : display code s = { s with cmdQueue := (display code s).cmdQueue } := by
  rw [state_eq_iff]
  simp

theorem disarm_eq {s : State} {n : ArmId} {c : Comp} (blk : Option BlockCause) (h : s.heldComp n = some c) :
    disarm n blk s = markIdle
      { s.modComp c.number (fun x =>
          { x with state := .pending, arm := none, bank := none, additive := ⟨none, none⟩ }) with
        banks := (uncaptureBank c.bank s).banks
        arms := s.arms.set n
          { s.arm n with
            state := if blk.isSome then .blocked else .idle
            held := none
            blockCause := if blk.isSome then blk else (s.arm n).blockCause
            armedDeadline := none } } := by
  rw [disarm, returnToPending, h]
  dsimp only
  rw [modHeld_of_heldComp h]
  rcases c.bank with _ | _ | _ <;> rfl

theorem uncaptureBank_some (bank : Bank) (s : State) :
    (uncaptureBank (some bank) s).banks.count bank = s.banks.count bank - 1 ∧
      (uncaptureBank (some bank) s).banks.active = s.banks.active := by
  cases bank <;> exact ⟨rfl, rfl⟩

/-- `t` is `s` with an arm released into IDLE or BLOCKED (R56). -/
structure Released (s t : State) (n : ArmId) (blk : Option BlockCause) (c : Comp) : Prop where
  arm : ∀ m, t.arm m = if m = n then (s.arm n).released blk else s.arm m
  comps : t.session.comps = s.session.comps.map fun x =>
    if x.number = c.number then s.judge n c (x.closed (s.arm n).totalizer) else x
  status : t.status = s.judgedStatus n c
  permissive : t.permissive = s.permissive
  same : t = { s with
    arms := t.arms, session := t.session, banks := t.banks, dosing := t.dosing, notes := t.notes
    cmdQueue := t.cmdQueue, status := t.status }

theorem released_releaseExamine {s : State} {n : ArmId} {c : Comp} (blk : Option BlockCause) (h : s.heldComp n = some c) :
    Released s (releaseExamine n blk s) n blk c := by
  have hrelease := release_eq blk h
  have harms : (releaseExamine n blk s).arms = s.arms.set n ((s.arm n).released blk) := by
    rw [releaseExamine, hrelease]
    simp [State.releasedWith]
  refine ⟨fun m => arm_of_set (s := s) harms m, ?_, ?_, ?_, ?_⟩
  · rw [releaseExamine, hrelease, examine_comps, markIdle_comps]
    rfl
  · rw [releaseExamine, hrelease]
    simp [State.releasedWith]
  · rw [releaseExamine, hrelease]
    simp [State.releasedWith]
  · rw [state_eq_iff]
    simp

/-- What both verdicts leave of a compartment, and of the flags of the part. -/
theorem judge_keeps (s : State) (n : ArmId) (c x : Comp) :
    s.judge n c x =
      { x with
        flags :=
          { x.flags with addUnder := (s.judge n c x).flags.addUnder, addOver := (s.judge n c x).flags.addOver } } := rfl

theorem judgedStatus_keeps (s : State) (n : ArmId) (c : Comp) :
    s.judgedStatus n c =
      { s.status with flags := { s.status.flags with additiveFault := (s.judgedStatus n c).flags.additiveFault } } := rfl

/-! #### The ARMED limit (R13) -/

theorem exec_armedTimeout {s : State} {n : ArmId} {d : Ms} (hstate : s.armState n = .armed)
    (hd : (s.arm n).armedDeadline = some d) (hreached : (s.clock.ms - d).toNat < 2147483648) :
    exec (.armedTimeout n) s = .next (armedExpiry n s) := by
  have hdue : s.armedOverdue n = true := by
    rw [State.armedOverdue, hstate, reached_of_some hd hreached]
    rfl
  exact congrArg Host.Outcome.next (if_pos hdue)

/-! #### The settle deadline (R55, R66, R121) -/

/-- The compartment after a settle failure, before its release. -/
def Comp.failedValve (c : Comp) (closing : Option Nat) : Comp :=
  { c with closing := closing, state := .short, flags := { c.flags with valveFault := true, short := true } }

/-- The arm at fault, its trip raised, before its release. -/
def State.tripped (s : State) (n : ArmId) (k : Nat) (f : Comp → Comp) : State :=
  { s.modComp k f with
    arms := s.arms.set n { s.arm n with trip := true }
    status := { s.status with flags := { s.status.flags with valveFault := true } } }

theorem valveFault_of_held {s : State} {n : ArmId} {c : Comp} (h : s.heldComp n = some c) :
    valveFault n s =
      tripPermit (releaseExamine n (some .valve)
        (s.tripped n c.number fun x => x.failedValve x.closing)) := by
  rw [valveFault, modHeld_of_heldComp h]
  rfl

theorem settleFailure_of_held {s : State} {n : ArmId} {c : Comp} (h : s.heldComp n = some c) :
    settleFailure n s =
      tripPermit (releaseExamine n (some .valve)
        (s.tripped n c.number fun x => x.failedValve (some (s.arm n).totalizer))) := by
  have hheld : (s.modComp c.number fun x => { x with closing := some (s.arm n).totalizer }).heldComp n =
      some { c with closing := some (s.arm n).totalizer } := heldComp_modComp h _ fun _ => rfl
  have hcomp := modComp_modComp s c.number (fun x => { x with closing := some (s.arm n).totalizer })
    (fun x => x.failedValve x.closing) fun _ => rfl
  have hsession := congrArg State.session hcomp
  rw [settleFailure, modHeld_of_heldComp h, valveFault_of_held hheld]
  refine congrArg (fun u => tripPermit (releaseExamine n (some .valve) u)) ((state_eq_iff _ _).2
    ⟨rfl, rfl, rfl, hsession, rfl, rfl, rfl, rfl, rfl, rfl, rfl, rfl, rfl, rfl, rfl, rfl, rfl, rfl, rfl, rfl, rfl, rfl⟩)

theorem tripped_heldComp {s : State} {n : ArmId} {c : Comp} (h : s.heldComp n = some c) (f : Comp → Comp)
    (hf : ∀ x, (f x).number = x.number) : (s.tripped n c.number f).heldComp n = some (f c) := by
  refine (heldComp_congr (t := s.tripped n c.number f) (s := s.modComp c.number f) ?_ rfl).trans (heldComp_modComp h f hf)
  refine (congrArg Arm.held (arm_of_set (s := s) (t := s.tripped n c.number f) rfl n)).trans ?_
  rw [if_pos rfl]
  rfl

/-- A raised trip lets no permit be (R121). -/
theorem bayPermitHolds_of_trip {s : State} {n : ArmId} (h : (s.arm n).trip = true) : s.bayPermitHolds = false := by
  refine Bool.eq_false_iff.2 fun hh => ?_
  obtain ⟨-, -, -, htrips⟩ := (bayPermitHolds_iff s).1 hh
  exact Bool.false_ne_true ((htrips n).symm.trans h)

/-- BAY PERMIT after a raised trip: de-energized, and the moving arms halted if it was energized (R122). -/
theorem tripPermit_of_trip {s : State} {n : ArmId} (h : (s.arm n).trip = true) :
    tripPermit s =
      if s.permissive.bayPermit then
        offerMoving .driverStop { s with permissive := { s.permissive with bayPermit := false } }
      else { s with permissive := { s.permissive with bayPermit := false } } := by
  have hdecide : decideBayPermit s = { s with permissive := { s.permissive with bayPermit := false } } := by
    rw [decideBayPermit, bayPermitHolds_of_trip h]
    rfl
  rw [tripPermit, hdecide]

/-- What an arm's valve fault leaves: the arm BLOCKED with its trip raised, its compartment SHORT with VALVE FAULT, and BAY
PERMIT de-energized (R55, R64, R66, R121). -/
theorem tripPermit_released {s u : State} {n : ArmId} {c : Comp} {f : Comp → Comp}
    (h : s.heldComp n = some c) (hf : ∀ x, (f x).number = x.number)
    (hu : u = releaseExamine n (some .valve) (s.tripped n c.number f)) :
    (tripPermit u).arm n = ({ s.arm n with trip := true } : Arm).released (some .valve) ∧
      (tripPermit u).permissive = { s.permissive with bayPermit := false } ∧
      (tripPermit u).status.flags.valveFault = true ∧
      (∃ x ∈ (tripPermit u).session.comps,
        ∃ flags : CompFlags, x = { (f c).closed (s.arm n).totalizer with flags := flags } ∧
          flags.short = ((f c).closed (s.arm n).totalizer).flags.short ∧ flags.valveFault = (f c).flags.valveFault) ∧
      tripPermit u = { s with
        arms := (tripPermit u).arms, session := (tripPermit u).session, banks := (tripPermit u).banks
        dosing := (tripPermit u).dosing, notes := (tripPermit u).notes, cmdQueue := (tripPermit u).cmdQueue
        status := (tripPermit u).status, permissive := (tripPermit u).permissive } := by
  have hheld := tripped_heldComp h f hf
  have harm0 : (s.tripped n c.number f).arm n = { s.arm n with trip := true } :=
    (arm_of_set (s := s) (t := s.tripped n c.number f) rfl n).trans (if_pos rfl)
  have hreleased : Released (s.tripped n c.number f) u n (some .valve) (f c) := hu ▸ released_releaseExamine _ hheld
  have harm : u.arm n = ({ s.arm n with trip := true } : Arm).released (some .valve) := by
    rw [hreleased.arm n, if_pos rfl, harm0]
  have htrip : (u.arm n).trip = true := by rw [harm]; rfl
  have hmem : (s.tripped n c.number f).judge n (f c) ((f c).closed (s.arm n).totalizer) ∈ u.session.comps := by
    rw [hreleased.comps, harm0]
    exact mem_modComp_comps hheld fun x => (s.tripped n c.number f).judge n (f c) (x.closed (s.arm n).totalizer)
  have hperm : u.permissive = s.permissive := hreleased.permissive
  have hsame := hreleased.same
  have hvalve : u.status.flags.valveFault = true := by
    rw [hreleased.status]
    rfl
  rw [tripPermit_of_trip htrip, hperm]
  cases s.permissive.bayPermit
  case false =>
    rw [if_neg Bool.false_ne_true]
    exact ⟨harm, rfl, hvalve, ⟨_, hmem, _, rfl, rfl, rfl⟩, by rw [hsame]; rfl⟩
  case true =>
    rw [if_pos rfl]
    have hoffered := offered_moving { u with permissive := { s.permissive with bayPermit := false } } .driverStop
    have hnot : ¬(u.armState n).isMoving = true := by
      rw [State.armState, harm]
      exact Bool.false_ne_true
    refine ⟨?_, by simp, by simpa using hvalve, ?_, ?_⟩
    · exact (hoffered.arms n).trans ((if_neg hnot).trans harm)
    · have hcomps := congrArg (fun t : State => t.session.comps) hoffered.same
      rw [hcomps]
      dsimp only
      rw [flagged_eq]
      refine ⟨_, List.mem_map.2 ⟨_, hmem, rfl⟩, ?_⟩
      split
      · exact ⟨_, rfl, rfl, rfl⟩
      · exact ⟨_, rfl, rfl, rfl⟩
    · rw [state_eq_iff]
      rw [hsame]
      simp [State.tripped]

/-- A compartment made SHORT and its arm released (R61, R62). -/
theorem shortHeld_releaseExamine {s : State} {n : ArmId} {c : Comp} (h : s.heldComp n = some c) :
    (∀ m, (releaseExamine n none (shortHeld n s)).arm m = if m = n then (s.arm n).released none else s.arm m) ∧
      (∃ x ∈ (releaseExamine n none (shortHeld n s)).session.comps, x.number = c.number ∧ x.state = .short ∧
        x.flags.short = true ∧ x.closing = some (c.closing.getD (s.arm n).totalizer)) ∧
      releaseExamine n none (shortHeld n s) = { s with
        arms := (releaseExamine n none (shortHeld n s)).arms
        session := (releaseExamine n none (shortHeld n s)).session
        banks := (releaseExamine n none (shortHeld n s)).banks
        dosing := (releaseExamine n none (shortHeld n s)).dosing
        notes := (releaseExamine n none (shortHeld n s)).notes
        cmdQueue := (releaseExamine n none (shortHeld n s)).cmdQueue
        status := (releaseExamine n none (shortHeld n s)).status } := by
  have hshort : shortHeld n s = s.modComp c.number fun x => { x with state := .short } := modHeld_of_heldComp h _
  have hheld : (shortHeld n s).heldComp n = some { c with state := .short } :=
    hshort ▸ heldComp_modComp h _ fun _ => rfl
  have hreleased := released_releaseExamine none hheld
  have harm : ∀ m, (shortHeld n s).arm m = s.arm m := arm_modHeld s n (f := fun c => { c with state := .short })
  have hmem : (shortHeld n s).judge n { c with state := .short }
      (({ c with state := .short } : Comp).closed (s.arm n).totalizer) ∈
        (releaseExamine n none (shortHeld n s)).session.comps := by
    rw [hreleased.comps, harm]
    exact mem_modComp_comps hheld fun x =>
      (shortHeld n s).judge n { c with state := .short } (x.closed (s.arm n).totalizer)
  refine ⟨fun m => ?_, ⟨_, hmem, rfl, rfl, ?_, rfl⟩, ?_⟩
  · rw [hreleased.arm, harm, harm]
  · exact Bool.or_true _
  · rw [state_eq_iff]
    simp

/-- Settles O57: what each deadline does to the arm that it finds waiting. -/
theorem armLimitsReleaseTheArm : Obligations.ArmLimitsReleaseTheArm := by
  refine ⟨fun s n d c bank hstate hd hreached hheld hbank => ?armed,
    fun s n d c hstate hunsettled hd hreached hheld => ?settle, fun s n d c hstate hd hreached hheld hclosing => ?halt⟩
  case armed =>
    rw [exec_armedTimeout hstate hd hreached, armedExpiry, disarm_eq none hheld, display_eq, hbank]
    refine ⟨_, rfl, ?_, fun m hm => ?_, ?_, ?_, ?_, ?_⟩
    · rw [markIdle_eq]
      exact (arm_of_set (s := s) rfl n).trans (if_pos rfl)
    · rw [markIdle_eq]
      exact (arm_of_set (s := s) rfl m).trans (if_neg hm)
    · exact markIdle_comps _
    · rw [markIdle_eq]
      exact (uncaptureBank_some bank s).1
    · rw [markIdle_eq]
      exact (uncaptureBank_some bank s).2
    · rw [markIdle_eq]
      rfl
  case settle =>
    have hdue : s.settleOverdue n = true := by
      rw [State.settleOverdue, reached_of_some hd hreached, hunsettled]
      rcases hstate with hstate | hstate <;> rw [hstate] <;> rfl
    have hexec : exec (.settleTimeout n) s = .next (settleFailure n s) := congrArg Host.Outcome.next (if_pos hdue)
    obtain ⟨harm, hperm, hflag, ⟨x, hx, flags, hxe, hshort, hvalve⟩, hsame⟩ := tripPermit_released hheld
      (f := fun x => x.failedValve (some (s.arm n).totalizer)) (fun _ => rfl) rfl
    rw [hexec, settleFailure_of_held hheld]
    refine ⟨_, rfl, ?_, ?_, ?_, ?_, ?_, hperm, hflag, ⟨x, hx, ?_, ?_, ?_, ?_, ?_⟩, hsame⟩
    · rw [State.armState, harm]
      rfl
    · rw [harm]
      rfl
    · rw [harm]
      rfl
    · rw [harm]
      rfl
    · rw [harm]
      rfl
    · rw [hxe]
      rfl
    · rw [hxe]
      rfl
    · rw [hxe]
      exact hshort.trans rfl
    · rw [hxe]
      exact hvalve
    · rw [hxe]
      rfl
  case halt =>
    have hdue : s.haltOverdue n = true := by
      rw [State.haltOverdue, hstate, reached_of_some hd hreached]
      rfl
    have hexec : exec (.haltTimeout n) s = .next (haltExpiry n s) := congrArg Host.Outcome.next (if_pos hdue)
    obtain ⟨harm, ⟨x, hx, hnumber, hshort, hflag, hclosed⟩, hsame⟩ := shortHeld_releaseExamine hheld
    rw [hexec, haltExpiry]
    refine ⟨_, rfl, ?_, ?_, ?_, ?_, ⟨x, hx, hnumber, hshort, hflag, ?_⟩, fun m hm => ?_, hsame⟩
    · rw [State.armState, harm, if_pos rfl]
      rfl
    · rw [harm, if_pos rfl]
      rfl
    · rw [harm, if_pos rfl]
      rfl
    · rw [harm, if_pos rfl]
      rfl
    · rw [hclosed, hclosing]
      rfl
    · rw [harm, if_neg hm]

end Sys2Proof.Machine
end

section
/-! ### The limits of the session and the automatic end (R10, R17, R18, R21, R129) -/

namespace Sys2Proof.Machine

theorem onlyHaltedHeld_iff (s : State) :
    s.onlyHaltedHeld = true ↔ ∀ n : ArmId, s.armState n = .idle ∨ s.armState n = .blocked ∨ s.armState n = .halted := by
  have hmem : ∀ n : ArmId, n ∈ armIds := fun n => by cases n <;> decide
  have hstate : ∀ x : ArmState, (!x.isActive && x != .armed) = true ↔ x = .idle ∨ x = .blocked ∨ x = .halted := by
    intro x
    cases x <;> decide
  simp only [State.onlyHaltedHeld, List.all_eq_true, hmem, true_implies, hstate]

theorem isFinished_iff (x : CompState) : x.isFinished = true ↔ x = .done ∨ x = .short ∨ x = .notLoaded := by
  cases x <;> decide

theorem allFinished_iff (s : State) :
    s.allFinished = true ↔ ∀ c ∈ s.session.comps, c.state = .done ∨ c.state = .short ∨ c.state = .notLoaded := by
  simp only [State.allFinished, List.all_eq_true, isFinished_iff]

theorem somePending_iff (s : State) : s.somePending = true ↔ ∃ c ∈ s.session.comps, c.state = .pending := by
  simp [State.somePending]

/-- The session's return to VACANT (R1, R163). -/
theorem returnVacant_eq (s : State) :
    returnVacant s =
      { s with
        session := { readerTag := s.session.readerTag }, notes := { s.notes with held := none }
        mode := if s.mode = .servicePending then .service else s.mode
        permissive :=
          if s.mode = .servicePending then { s.permissive with bayPermit := false } else s.permissive } := by
  unfold returnVacant
  by_cases hmode : s.mode = .servicePending
  · have hholds : (((s.modSession Session.vacated).modNotes fun x => { x with held := none }).setMode .service).bayPermitHolds =
        false := by
      refine Bool.eq_false_iff.2 fun hh => ?_
      obtain ⟨hrun, -⟩ := (bayPermitHolds_iff _).1 hh
      cases hrun
    simp only [if_pos hmode, decideBayPermit, hholds]
    rfl
  · simp only [if_neg hmode]
    rfl

theorem compileBegun_slots {s : State} {i : Nat} {x : NoteSlot} (hi : s.notes.held = some i)
    (hx : s.notes.slots[i]? = some x) :
    s.compileBegun.slots[i]? = some
        { x with state := .updating, serial := some s.notes.nextSerial, written := 0, header := none, pages := [] } ∧
      (∀ j, j ≠ i → s.compileBegun.slots[j]? = s.notes.slots[j]?) ∧
      s.compileBegun.nextSerial = (s.notes.nextSerial + 1) % 4294967296 := by
  have hbegun : s.compileBegun =
      { s.notes with
        slots := s.notes.slots.modify i fun x =>
          { x with
            state := .updating, serial := some s.notes.nextSerial, written := 0, header := none, pages := [] }
        nextSerial := (s.notes.nextSerial + 1) % 4294967296, pageTimer := 0 } := by
    rw [State.compileBegun, hi]
  rw [hbegun]
  refine ⟨?_, fun j hj => ?_, rfl⟩
  · exact (List.getElem?_modify_eq _ _ _).trans (by rw [hx]; rfl)
  · exact List.getElem?_modify_ne _ _ (Ne.symm hj)

/-- The automatic end rule, by what it finds (R18). -/
theorem examine_of_ends {s : State} (hopen : s.session.state = .opened)
    (hdone : ∀ c ∈ s.session.comps, c.state = .done ∨ c.state = .short ∨ c.state = .notLoaded)
    (hfree : ∀ n : ArmId, (s.armState n).isHeld = false) : examine s = enterEnding s := by
  rw [examine, if_pos hopen, if_pos ⟨(allFinished_iff s).2 hdone, (noArmHeld_iff s).2 hfree⟩]

theorem examine_of_asks {s : State} (hopen : s.session.state = .opened) (habort : s.session.hostAbort = false)
    (hpending : ∃ c ∈ s.session.comps, c.state = .pending)
    (hhalted : ∀ n : ArmId, s.armState n = .idle ∨ s.armState n = .blocked ∨ s.armState n = .halted) :
    examine s = display msgSelectCompartment s := by
  have hnot : ¬(s.allFinished = true ∧ s.noArmHeld = true) := by
    rintro ⟨hdone, -⟩
    obtain ⟨c, hc, hp⟩ := hpending
    have := (allFinished_iff s).1 hdone c hc
    rw [hp] at this
    simp at this
  rw [examine, if_pos hopen, if_neg hnot, if_pos ⟨by rw [habort]; exact Bool.false_ne_true,
    (somePending_iff s).2 hpending, (onlyHaltedHeld_iff s).2 hhalted⟩]

/-- Settles O56, from the return to VACANT, the entry to ENDING and the automatic end rule. -/
theorem sessionLimitsEndTheSession : Obligations.SessionLimitsEndTheSession := by
  refine ⟨fun s d => ⟨fun hstate hd hreached => ?code, fun hopen hfree hd hreached => ?idle⟩, fun s => ?automatic⟩
  case code =>
    have hdue : s.codeOverdue = true := by
      rw [State.codeOverdue, hstate, reached_of_some hd hreached]
      rfl
    have hexec : exec .codeEntryTimeout s = .next (returnVacant s) := congrArg Host.Outcome.next (if_pos hdue)
    rw [hexec, returnVacant_eq]
    exact ⟨_, rfl, rfl, rfl, rfl, rfl, rfl⟩
  case idle =>
    have hdue : s.idleOverdue = true := by
      rw [State.idleOverdue, hopen, (noArmHeld_iff s).2 hfree, reached_of_some (d := d + BitVec.ofNat 32 1800000)
        (congrArg (Option.map fun t : Ms => t + BitVec.ofNat 32 1800000) hd) hreached]
      rfl
    have hexec : exec .sessionIdleTimeout s = .next (idleExpiry s) := congrArg Host.Outcome.next (if_pos hdue)
    rw [hexec, idleExpiry, enterEnding_eq]
    exact ⟨_, rfl, rfl, rfl, rfl, rfl, fun i x hi hx => compileBegun_slots hi hx, rfl⟩
  case automatic =>
    intro ends asks
    refine ⟨fun hends => ?ends, fun hasks => ?asks, fun hends hasks => ?neither⟩
    case ends =>
      obtain ⟨hopen, hdone, hfree⟩ := hends
      rw [examine_of_ends hopen hdone hfree, enterEnding_eq]
    case asks =>
      obtain ⟨hopen, habort, hpending, hhalted⟩ := hasks
      exact examine_of_asks hopen habort hpending hhalted
    case neither =>
      unfold examine
      split
      next hopen =>
        rw [if_neg fun hboth => hends ⟨hopen, (allFinished_iff s).1 hboth.1, (noArmHeld_iff s).1 hboth.2⟩, if_neg]
        rintro ⟨habort, hpending, hhalted⟩
        exact hasks ⟨hopen, Bool.eq_false_iff.2 habort, (somePending_iff s).1 hpending, (onlyHaltedHeld_iff s).1 hhalted⟩
      next => rfl

end Sys2Proof.Machine
end

section
/-! ### Staging, settle and the end check (R52 to R56, R62, R108) -/

namespace Sys2Proof.Machine

/-! #### The end check (R108) -/

/-- The verdicts of the end check on one slot, in the words of R108. -/
theorem verdict_iff (s : State) (n : ArmId) (c : Comp) (k : Slot) :
    ((s.verdict n c k).1 = true ↔ ∃ a, c.additive.get k = some a ∧
      ((s.config n).injector.get k = none ∨
        ∃ p, ((s.config n).injector.get k ≠ none ∧ s.recipeFor c k = some p) ∧
          a.owed * p.tolerance / 100 + p.shot < a.owed - a.dispensed)) ∧
    ((s.verdict n c k).2 = true ↔ ∃ a, c.additive.get k = some a ∧
      ∃ p, ((s.config n).injector.get k ≠ none ∧ s.recipeFor c k = some p) ∧
        a.owed * p.tolerance / 100 + p.shot < a.dispensed - a.owed) := by
  unfold State.verdict
  cases c.additive.get k with
  | none => simp
  | some a =>
    cases (s.config n).injector.get k with
    | none => simp [endVerdict]
    | some tag =>
      cases s.recipeFor c k with
      | none => simp [endVerdict]
      | some p =>
        simp [endVerdict]
        omega

theorem exists_slot_iff (p : Slot → Prop) : (∃ k, p k) ↔ p .s1 ∨ p .s2 :=
  ⟨fun ⟨k, hk⟩ => by cases k with
    | s1 => exact .inl hk
    | s2 => exact .inr hk, fun h => h.elim (fun h1 => ⟨_, h1⟩) fun h2 => ⟨_, h2⟩⟩

theorem judge_flags (s : State) (n : ArmId) (c x : Comp) :
    ((s.judge n c x).flags.addUnder = true ↔ x.flags.addUnder = true ∨ ∃ k, (s.verdict n c k).1 = true) ∧
      ((s.judge n c x).flags.addOver = true ↔ x.flags.addOver = true ∨ ∃ k, (s.verdict n c k).2 = true) := by
  rw [exists_slot_iff, exists_slot_iff]
  simp [State.judge, Comp.judged, or_assoc]

theorem judgedStatus_flag (s : State) (n : ArmId) (c : Comp) :
    (s.judgedStatus n c).flags.additiveFault = true ↔
      s.status.flags.additiveFault = true ∨ ∃ k, (s.verdict n c k).1 = true ∨ (s.verdict n c k).2 = true := by
  rw [exists_slot_iff]
  simp [State.judgedStatus, Status.judged, or_assoc]

theorem dose_of_set (s : State) (n m : ArmId) (k : Slot) :
    ((s.dosing.set n (abandoned (s.dosing.get n))).get m).get k =
      if m = n then { s.dose n k with outstanding := none, deadline := none } else s.dose m k := by
  rw [get_set_arm]
  split
  next => cases k <;> rfl
  next => rfl

/-! #### Staging (R47, R52) -/

theorem queueValve_eq (n : ArmId) (p : Position) (s : State) :
    queueValve n p s = { s with cmdQueue := (queueValve n p s).cmdQueue } := by
  rw [state_eq_iff]
  simp

theorem commandValve_eq (n : ArmId) (p : Position) (s : State) :
    commandValve n p s =
      { s with
        arms := s.arms.set n ((s.arm n).commandPosition p s.clock.ms (s.clock.ms + BitVec.ofNat 32 15000))
        cmdQueue := (queueValve n p s).cmdQueue } := by
  have hqueue : (queueValve n p (s.modArm n fun a => a.commandPosition p s.now (s.ahead 15000))).cmdQueue =
      (queueValve n p s).cmdQueue := queueValve_cmdQueue_congr n p rfl rfl rfl
  rw [commandValve, queueValve_eq, hqueue]
  rfl

theorem set_set_arm {α : Type} (p : PerArm α) (n : ArmId) (x y : α) : (p.set n x).set n y = p.set n y := by
  cases n <;> rfl

theorem moveStage_eq (n : ArmId) (p : Position) (st : ArmState) (s : State) :
    moveStage n p st s =
      { s with
        arms := s.arms.set n
          { (s.arm n).commandPosition p s.clock.ms (s.clock.ms + BitVec.ofNat 32 15000) with state := st }
        cmdQueue := (queueValve n p s).cmdQueue } := by
  rw [moveStage, commandValve_eq, modArm_eq]
  dsimp only
  rw [set_set_arm]
  have harm : (State.arm { s with
      arms := s.arms.set n ((s.arm n).commandPosition p s.clock.ms (s.clock.ms + BitVec.ofNat 32 15000))
      cmdQueue := (queueValve n p s).cmdQueue } n) =
      (s.arm n).commandPosition p s.clock.ms (s.clock.ms + BitVec.ofNat 32 15000) :=
    (arm_of_set (s := s) rfl n).trans (if_pos rfl)
  rw [harm]

theorem commandPosition_of_open (a : Arm) {p : Position} (hp : p ≠ .closed) (now settleAt : Ms) :
    a.commandPosition p now settleAt = { a with commanded := p } := if_neg fun h => hp h.1

theorem commandPosition_closed {a : Arm} (h : a.state.isMoving = true) (now settleAt : Ms) :
    a.commandPosition .closed now settleAt =
      { a with commanded := .closed, closeTime := some now, closedSeen := false, settled := false, zeroRun := 0
               settleDeadline := some settleAt } := if_pos ⟨rfl, h⟩

/-- The staging test takes the first that applies of close, trim and full flow (R52). -/
theorem stagingTest_eq {s : State} {n : ArmId} {c : Comp} (h : s.heldComp n = some c) :
    stagingTest n s =
      if (s.armState n).isMoving then
        if c.preset - c.gross ≤ (s.arm n).anticipation then moveStage n .closed .closing s
        else if s.armState n = .flowing ∧ c.preset - c.gross ≤ (s.config n).trimVolume * 1000 then
          moveStage n .low .trimming s
        else if s.armState n = .starting ∧ (s.config n).startVolume * 1000 ≤ c.gross - (s.arm n).gStart then
          moveStage n .full .flowing s
        else s
      else s := by
  rw [stagingTest, h]
  rfl

/-! #### Settle (R53, R54, R62) -/

theorem isSettled_iff (a : Arm) :
    a.isSettled = true ↔ a.closeTime.isSome = true ∧ a.closedSeen = true ∧ 2 ≤ a.zeroRun := by
  simp [Arm.isSettled, and_assoc]

/-- An arm that settles is marked so. -/
def State.settledArm (s : State) (n : ArmId) : State :=
  { s with arms := s.arms.set n { s.arm n with settled := true, settleDeadline := none } }

theorem settleTest_closing {s : State} {n : ArmId} (h : (s.arm n).isSettled = true) (hs : (s.arm n).settled = false)
    (hstate : s.armState n = .closing) : settleTest n s = completeComp n (s.settledArm n) := by
  rw [settleTest, if_pos ⟨h, by rw [hs]; exact Bool.false_ne_true⟩, hstate]
  rfl

theorem settleTest_halted {s : State} {n : ArmId} (h : (s.arm n).isSettled = true) (hs : (s.arm n).settled = false)
    (hstate : s.armState n = .halted) :
    settleTest n s =
      if s.session.hostAbort then releaseExamine n none (shortHeld n (s.settledArm n)) else s.settledArm n := by
  rw [settleTest, if_pos ⟨h, by rw [hs]; exact Bool.false_ne_true⟩, hstate]
  rfl

theorem settledArm_arm (s : State) (n m : ArmId) :
    (s.settledArm n).arm m = if m = n then { s.arm n with settled := true, settleDeadline := none } else s.arm m :=
  arm_of_set (s := s) rfl m

theorem settledArm_heldComp (s : State) (n : ArmId) : (s.settledArm n).heldComp n = s.heldComp n :=
  heldComp_congr (by rw [settledArm_arm, if_pos rfl]) rfl

/-- The compartment that a settled arm completes (R54). -/
def Comp.completed (c : Comp) (totalizer overrunLimit : Nat) : Comp :=
  { c with closing := some totalizer, flags := c.flags.completed c overrunLimit, state := .done }

/-- The state in which a settled arm is released (R54). -/
def State.completing (s : State) (n : ArmId) (c : Comp) : State :=
  { s.modComp c.number (fun x => x.completed (s.arm n).totalizer (s.config n).overrunLimit) with
    arms := s.arms.set n { s.arm n with anticipation := learned (s.arm n).anticipation c.error } }

theorem completeComp_eq {s : State} {n : ArmId} {c : Comp} (h : s.heldComp n = some c) :
    completeComp n s = releaseExamine n none (s.completing n c) := by
  have hheld : ((s.modArm n fun a => { a with anticipation := learned a.anticipation c.error }).arm n).held =
      some c.number := by
    rw [arm_modArm, if_pos rfl]
    exact held_of_heldComp h
  rw [completeComp, h]
  dsimp only
  rw [modHeld_of_held hheld]
  rfl

theorem completing_arm (s : State) (n m : ArmId) (c : Comp) :
    (s.completing n c).arm m =
      if m = n then { s.arm n with anticipation := learned (s.arm n).anticipation c.error } else s.arm m :=
  arm_of_set (s := s) rfl m

theorem completing_heldComp {s : State} {n : ArmId} {c : Comp} (h : s.heldComp n = some c) :
    (s.completing n c).heldComp n = some (c.completed (s.arm n).totalizer (s.config n).overrunLimit) := by
  refine (heldComp_congr (t := s.completing n c) (s := s.modComp c.number fun x => x.completed (s.arm n).totalizer (s.config n).overrunLimit)
    ?_ rfl).trans (heldComp_modComp h _ fun _ => rfl)
  rw [completing_arm, if_pos rfl]
  rfl

theorem learned_eq (a : Nat) (e : Int) : (learned a e : Int) = max 0 (min 50000 ((a : Int) + e.tdiv 2)) :=
  Int.toNat_of_nonneg (Int.le_max_left _ _)

theorem completed_flags (f : CompFlags) (c : Comp) (limit : Nat) :
    ((f.completed c limit).overrun = true ↔ f.overrun = true ∨ c.preset + limit * 1000 < c.gross) ∧
      ((f.completed c limit).underPreset = true ↔ f.underPreset = true ∨ c.gross + 10000 < c.preset) := by
  have herror : (limit : Int) * 1000 < c.error ↔ c.preset + limit * 1000 < c.gross := by
    rw [Comp.error]
    omega
  simp [CompFlags.completed, herror]

/-- Settles O52: completion and release of a settled arm, the staging test and the end check. -/
theorem settledArmCompletesItsCompartment : Obligations.SettledArmCompletesItsCompartment := by
  refine ⟨fun s n c hstate hheld hclose hseen hzero hsettled => ?closing, fun s n => ⟨fun hnot => ?unsettled,
    fun hstate hclose hseen hzero hsettled => ⟨fun habort => ?halted, fun c habort hheld => ?aborted⟩⟩,
    fun s n c hheld => ?staging, fun s n c hheld => ?endCheck⟩
  case closing =>
    intro t
    have ht : t = releaseExamine n none ((s.settledArm n).completing n c) :=
      (settleTest_closing ((isSettled_iff _).2 ⟨hclose, hseen, hzero⟩) hsettled hstate).trans
        (completeComp_eq ((settledArm_heldComp s n).trans hheld))
    have hheld' := completing_heldComp ((settledArm_heldComp s n).trans hheld)
    have hreleased := ht ▸ released_releaseExamine none hheld'
    have harm : t.arm n = (({ { s.arm n with settled := true, settleDeadline := none } with
        anticipation := learned (s.arm n).anticipation c.error } : Arm)).released none := by
      rw [hreleased.arm, if_pos rfl, completing_arm, if_pos rfl, settledArm_arm, if_pos rfl]
    have hmem := mem_modComp_comps hheld' fun x => ((s.settledArm n).completing n c).judge n
      (c.completed ((s.settledArm n).arm n).totalizer ((s.settledArm n).config n).overrunLimit)
      (x.closed (((s.settledArm n).completing n c).arm n).totalizer)
    rw [← hreleased.comps] at hmem
    have htot : ((s.settledArm n).arm n).totalizer = (s.arm n).totalizer := by rw [settledArm_arm, if_pos rfl]
    obtain ⟨hover, hunder⟩ := completed_flags c.flags c (s.config n).overrunLimit
    refine ⟨?_, ?_, ?_, ?_, ?_, ?_, ⟨_, hmem, rfl, rfl, ?_, rfl, hover, hunder⟩, fun m hm => ?_, ?_⟩
    · rw [State.armState, harm]
      rfl
    · rw [harm]
      rfl
    · rw [harm]
      rfl
    · rw [harm]
      rfl
    · rw [harm]
      rfl
    · rw [harm]
      exact learned_eq _ _
    · exact congrArg some htot
    · rw [hreleased.arm, if_neg hm, completing_arm, if_neg hm, settledArm_arm, if_neg hm]
    · exact hreleased.same
  case unsettled =>
    rw [settleTest, if_neg]
    rintro ⟨hs, hset⟩
    obtain ⟨h1, h2, h3⟩ := (isSettled_iff _).1 hs
    rcases hnot with h | h | h | h
    · rw [h] at h1
      exact Bool.false_ne_true h1
    · exact Bool.false_ne_true (h.symm.trans h2)
    · omega
    · exact hset h
  case halted =>
    rw [settleTest_halted ((isSettled_iff _).2 ⟨hclose, hseen, hzero⟩) hsettled hstate, habort]
    rfl
  case aborted =>
    intro t
    have ht : t = releaseExamine n none (shortHeld n (s.settledArm n)) := by
      refine (settleTest_halted ((isSettled_iff _).2 ⟨hclose, hseen, hzero⟩) hsettled hstate).trans ?_
      rw [habort]
      rfl
    obtain ⟨harm, ⟨x, hx, hnumber, hshort, hflag, hclosed⟩, hsame⟩ :=
      shortHeld_releaseExamine ((settledArm_heldComp s n).trans hheld)
    rw [← ht] at harm hx hsame
    have harmN : t.arm n = ({ s.arm n with settled := true, settleDeadline := none } : Arm).released none := by
      rw [harm, if_pos rfl, settledArm_arm, if_pos rfl]
    refine ⟨?_, ?_, ?_, ?_, ⟨x, hx, hnumber, hshort, hflag, fun hnone => ?_⟩, fun m hm => ?_, hsame⟩
    · rw [State.armState, harmN]
      rfl
    · rw [harmN]
      rfl
    · rw [harmN]
      rfl
    · rw [harmN]
      rfl
    · rw [hclosed, hnone, settledArm_arm, if_pos rfl]
      rfl
    · rw [harm, if_neg hm, settledArm_arm, if_neg hm]
  case staging =>
    intro left trims opens
    rw [stagingTest_eq hheld]
    refine ⟨fun hstill => ?_, fun hmoving => ⟨fun hclose => ?_, fun hfar => ⟨fun htrims => ?_, fun hopens => ?_,
      fun hno hno' => ?_⟩⟩⟩
    · rw [if_neg (Bool.eq_false_iff.1 hstill)]
    · rw [if_pos hmoving, if_pos hclose, moveStage_eq, commandPosition_closed hmoving]
    · rw [if_pos hmoving, if_neg (Nat.not_le.2 hfar), if_pos htrims, moveStage_eq, commandPosition_of_open _ (by decide)]
    · have hno : ¬trims := fun htrims => by
        have hboth := htrims.1.symm.trans hopens.1
        cases hboth
      rw [if_pos hmoving, if_neg (Nat.not_le.2 hfar), if_neg hno, if_pos hopens, moveStage_eq,
        commandPosition_of_open _ (by decide)]
    · rw [if_pos hmoving, if_neg (Nat.not_le.2 hfar), if_neg hno, if_neg hno']
  case endCheck =>
    intro served tooLow tooHigh t
    have ht : t = _ := endCheck_eq hheld
    obtain ⟨hunder, hover⟩ := judge_flags s n c c
    have hlow : ∀ k, (s.verdict n c k).1 = true ↔ tooLow k := fun k => (verdict_iff s n c k).1
    have hhigh : ∀ k, (s.verdict n c k).2 = true ↔ tooHigh k := fun k => (verdict_iff s n c k).2
    have hstatus := judgedStatus_flag s n c
    simp only [hlow, hhigh] at hunder hover hstatus
    rw [ht]
    refine ⟨⟨s.judge n c c, mem_modComp_comps hheld _, hunder, hover, rfl⟩, hstatus, fun k => ?_, fun m k hm => ?_, rfl⟩
    · exact (dose_of_set s n n k).trans (if_pos rfl)
    · exact (dose_of_set s n m k).trans (if_neg hm)

end Sys2Proof.Machine
end

section
/-! ### Additive (05: R81, R96 to R104) -/

namespace Sys2Proof.Machine

/-! #### A cause offered, by the state of its arm -/

/-- What a cause offered to an arm does to it, and what it leaves (R57, R58). -/
theorem offerCause_effect (n : ArmId) (c : Cause) (s : State) :
    ((s.armState n).isActive = true →
      (offerCause n c s).armState n = .halted ∧ ((offerCause n c s).arm n).causes = (s.arm n).causes.put c true) ∧
    (s.armState n = .halted → (offerCause n c s).arm n = { s.arm n with causes := (s.arm n).causes.put c true }) ∧
    ((s.armState n).isLoading = false → (offerCause n c s).arm n = s.arm n) ∧
    (∀ m, m ≠ n → (offerCause n c s).arm m = s.arm m) ∧
    offerCause n c s = { s with
      arms := (offerCause n c s).arms
      session := { s.session with comps := (offerCause n c s).session.comps }
      cmdQueue := (offerCause n c s).cmdQueue } := by
  refine ⟨fun hact => ?_, fun hhalt => ?_, fun hnot => ?_, fun m hm => ?_, ?_⟩
  · rw [offerCause_of_active n c s hact]
    have harm := arm_of_set (s := s) (t := { s with
      arms := s.arms.set n (s.haltedArm n ((s.arm n).causes.put c true)) }) rfl n
    rw [if_pos rfl] at harm
    exact ⟨congrArg Arm.state harm, congrArg Arm.causes harm⟩
  · rw [offerCause_of_halted n c s hhalt]
    exact (arm_of_set (s := s) rfl n).trans (if_pos rfl)
  · rw [offerCause_of_not_loading n c s hnot]
  · rw [offerCause_arm, if_neg hm]
  · by_cases hact : (s.armState n).isActive = true
    · rw [offerCause_of_active n c s hact]
    · by_cases hhalt : s.armState n = .halted
      · rw [offerCause_of_halted n c s hhalt]
      · have hsame : offerCause n c s = s := (if_neg hact).trans (if_neg hhalt)
        rw [hsame]

/-- A cause offered changes of a compartment its flags HALTED and PERMISSIVE at most. -/
theorem offerCause_comp {n : ArmId} {c : Cause} {s : State} {x : Comp} (hx : x ∈ s.session.comps) :
    ∃ y ∈ (offerCause n c s).session.comps, ∃ permissive halted,
      y = { x with flags := { x.flags with permissive := permissive, halted := halted } } := by
  have hflag : ∀ f : CompFlags, ∃ permissive, c.flag f = { f with permissive := permissive } := by
    intro f
    unfold Cause.flag
    split
    · exact ⟨true, rfl⟩
    · exact ⟨f.permissive, rfl⟩
  obtain ⟨permissive, hp⟩ := hflag x.flags
  by_cases hact : (s.armState n).isActive = true
  · rw [offerCause_of_active n c s hact]
    dsimp only
    rw [flagged_eq]
    refine ⟨_, List.mem_map_of_mem hx, ?_⟩
    split
    · exact ⟨permissive, true, by rw [hp]; rfl⟩
    · exact ⟨_, _, rfl⟩
  · by_cases hhalt : s.armState n = .halted
    · rw [offerCause_of_halted n c s hhalt]
      dsimp only
      rw [flagged_eq]
      refine ⟨_, List.mem_map_of_mem hx, ?_⟩
      split
      · exact ⟨permissive, x.flags.halted, by rw [hp]⟩
      · exact ⟨_, _, rfl⟩
    · have hsame : offerCause n c s = s := (if_neg hact).trans (if_neg hhalt)
      rw [hsame]
      exact ⟨x, hx, _, _, rfl⟩

/-! #### Deadlines (R81, R103) -/

theorem exec_tempStale {s : State} {n : ArmId} {d : Ms} (hd : (s.meter n).staleDeadline = some d)
    (h : (s.clock.ms - d).toNat < 2147483648) : exec (.tempStale n) s = .next (tempExpiry n s) :=
  congrArg Host.Outcome.next (if_pos (reached_of_some hd h))

theorem exec_shotTimeout {s : State} {n : ArmId} {k : Slot} {d : Ms} {x : Shot} (hx : (s.dose n k).outstanding = some x)
    (hd : (s.dose n k).deadline = some d) (h : (s.clock.ms - d).toNat < 2147483648) :
    exec (.shotTimeout n k) s = .next (shotExpiry n k s) := by
  have hdue : s.shotOverdue n k = true := by
    rw [State.shotOverdue, hx, reached_of_some hd h]
    rfl
  exact congrArg Host.Outcome.next (if_pos hdue)

theorem dose_of_modDose (s : State) (n m : ArmId) (k j : Slot) (f : Dosing → Dosing) :
    (s.modDose n k f).dose m j = if m = n ∧ j = k then f (s.dose n k) else s.dose m j := by
  cases n <;> cases m <;> cases k <;> cases j <;> rfl

/-! #### Owed additive and shots (R96 to R99) -/

theorem recomputeOwed_of_none {s : State} {n : ArmId} {k : Slot}
    (h : (s.heldComp n).bind (fun c => s.recipeFor c k) = none) : recomputeOwed n k s = s := by
  unfold recomputeOwed
  cases hc : s.heldComp n with
  | none => rfl
  | some c =>
    rw [hc, Option.bind_some] at h
    dsimp only
    rw [h]

theorem recomputeOwed_of_recipe {s : State} {n : ArmId} {k : Slot} {c : Comp} {p : RecipeSlot}
    (hc : s.heldComp n = some c) (hp : s.recipeFor c k = some p) :
    recomputeOwed n k s =
      s.modComp c.number fun y => y.modAdditive k fun z => { z with owed := owedFor y.gross p.ratio } := by
  rw [recomputeOwed, hc]
  dsimp only
  rw [hp]
  exact modHeld_of_heldComp hc _

/-- The conditions of R97 for a shot. -/
def State.shotReady (s : State) (n : ArmId) (k : Slot) (a : Additive) (p : RecipeSlot) : Prop :=
  a.commanded + p.shot ≤ a.owed ∧ (s.dose n k).outstanding = none ∧ (s.armState n).isMoving = true ∧
    (∃ t, (s.config n).injector.get k = some t ∧ s.nodeOk t = true) ∧ (s.dose n k).baseline.isSome = true

theorem shotTag_eq_some (s : State) (n : ArmId) (k : Slot) (a : Additive) (p : RecipeSlot) (t : Tag) :
    shotTag n k a p.shot s = some t ↔ s.shotReady n k a p ∧ (s.config n).injector.get k = some t := by
  unfold shotTag State.shotReady
  cases (s.config n).injector.get k with
  | none => simp
  | some u =>
    simp only [Option.ite_none_right_eq_some, Bool.and_eq_true, decide_eq_true_eq, Option.isNone_iff_eq_none,
      Option.some.injEq, exists_eq_left']
    tauto

theorem hasRoom_iff (s : State) : s.hasRoom = true ↔ s.valveReserve < 8 - s.cmdQueue.length := decide_eq_true_iff

theorem paceSlot_eq {s : State} {n : ArmId} {k : Slot} {c : Comp} {a : Additive} {p : RecipeSlot}
    (hc : s.heldComp n = some c) (ha : c.additive.get k = some a) (hp : s.recipeFor c k = some p) :
    paceSlot n k s =
      match shotTag n k a p.shot s with
      | none => s
      | some t => if s.hasRoom then commandShot n k t p.shot s else s := by
  rw [paceSlot, hc]
  dsimp only
  rw [ha, hp] <;> rfl

/-- The queue takes a shot (R98). -/
theorem commandShot_eq {s : State} {n : ArmId} {k : Slot} {t : Tag} {size h : Nat} (hheld : (s.arm n).held = some h) :
    commandShot n k t size s =
      { s.modComp h (fun y => y.modAdditive k fun z => { z with commanded := z.commanded + size }) with
        cmdQueue := s.cmdQueue ++ [.shot n k t (s.dose n k).nextShot size]
        dosing := s.dosing.set n ((s.dosing.get n).set k
          { s.dose n k with
            outstanding := some { number := (s.dose n k).nextShot, size := size }
            nextShot := ((s.dose n k).nextShot + 1) % 256
            deadline := some (s.ahead 3000) }) } := by
  rw [commandShot]
  dsimp only
  rw [modHeld_of_held (by exact hheld)]
  rfl

theorem writeOffShot_eq {s : State} {n : ArmId} {k : Slot} {x : Shot} {h : Nat}
    (hx : (s.dose n k).outstanding = some x) (hheld : (s.arm n).held = some h) :
    writeOffShot n k s =
      (s.modComp h fun y => y.modAdditive k fun z => { z with commanded := z.commanded - x.size }).modDose n k fun d =>
        { d with outstanding := none, deadline := none } := by
  rw [writeOffShot, hx]
  dsimp only
  rw [modHeld_of_held hheld]

theorem shotOutcome_of_other {s : State} {n : ArmId} {k : Slot} {number : Nat} {refused : Bool}
    (h : refused = false ∨ ∀ x, (s.dose n k).outstanding = some x → x.number ≠ number) :
    shotOutcome n k number refused s = s := by
  unfold shotOutcome
  split
  next => rfl
  next x hx =>
    refine if_neg fun hboth => ?_
    rcases h with h | h
    · rw [h] at hboth
      exact Bool.false_ne_true hboth.1
    · exact h x hx hboth.2

/-! #### Reports (R100 to R104) -/

theorem completeShot_of_other {s : State} {n : ArmId} {k : Slot} {last : Nat}
    (h : ∀ x, (s.dose n k).outstanding = some x → 128 ≤ (last + 256 - x.number) % 256) : completeShot n k last s = s := by
  unfold completeShot
  split
  next => rfl
  next x hx => exact if_neg (Nat.not_lt.2 (h x hx))

theorem completeShot_of_reached {s : State} {n : ArmId} {k : Slot} {last : Nat} {x : Shot}
    (hx : (s.dose n k).outstanding = some x) (h : (last + 256 - x.number) % 256 < 128) :
    completeShot n k last s =
      runningCheck n k (s.modDose n k fun d => { d with outstanding := none, deadline := none }) := by
  rw [completeShot, hx]
  exact if_pos h

theorem runningCheck_of_idle {s : State} {n : ArmId} {k : Slot} (h : (s.armState n).isLoading = false) :
    runningCheck n k s = s := by
  rw [runningCheck, h]
  rfl

theorem runningCheck_of_none {s : State} {n : ArmId} {k : Slot}
    (h : ∀ c, s.heldComp n = some c → c.additive.get k = none) : runningCheck n k s = s := by
  unfold runningCheck
  split
  · split
    next => rfl
    next c hc =>
      split
      next a p ha hp => rw [h c hc] at ha; cases ha
      next => rfl
  · rfl

/-- The state in which the running check offers ADDITIVE (R104). -/
def State.checkFailed (s : State) (c : Comp) : State :=
  { s.modComp c.number (fun y => { y with flags := { y.flags with addHalt := true } }) with
    status := { s.status with flags := { s.status.flags with additiveFault := true } } }

theorem runningCheck_eq {s : State} {n : ArmId} {k : Slot} {c : Comp} {a : Additive} {p : RecipeSlot}
    (hload : (s.armState n).isLoading = true) (hc : s.heldComp n = some c) (ha : c.additive.get k = some a)
    (hp : s.recipeFor c k = some p) :
    runningCheck n k s = if runningCheckFails a p then offerCause n .additive (s.checkFailed c) else s := by
  rw [runningCheck, if_pos hload, hc]
  dsimp only
  rw [ha, hp]
  dsimp only
  rw [modHeld_of_heldComp hc]
  rfl

theorem runningCheckFails_iff (a : Additive) (p : RecipeSlot) :
    runningCheckFails a p = true ↔
      4 * p.shot ≤ a.commanded ∧
        (a.commanded * p.tolerance / 100 + p.shot / 2 < a.dispensed - a.commanded ∨
          a.commanded * p.tolerance / 100 + p.shot / 2 < a.commanded - a.dispensed) := by
  simp only [runningCheckFails, Bool.and_eq_true, decide_eq_true_eq]
  omega

theorem injectorReport_of_base {s : State} {n : ArmId} {k : Slot} {tag : Tag} {d last base number : Nat}
    (htag : (s.config n).injector.get k = some tag) (hlost : s.nodeLost tag = false)
    (hbase : (s.dose n k).baseline = some base) (hheld : (s.arm n).held = some number) :
    injectorReport n k tag d last s =
      completeShot n k last
        { s with
          dosing := s.dosing.set n ((s.dosing.get n).set k { s.dose n k with baseline := some d })
          session :=
            if (s.armState n).isLoading then
              { s.session with
                comps := s.session.comps.map fun c =>
                  if c.number = number then
                    c.modAdditive k fun a =>
                      { a with dispensed := min (a.dispensed + (d + 4294967296 - base) % 4294967296) 4294967295 }
                  else c }
            else s.session } := by
  rw [injectorReport, if_pos ⟨htag, by rw [hlost]; exact Bool.false_ne_true⟩, hbase]
  dsimp only
  have hstate : ((s.modDose n k fun x => { x with baseline := some d }).armState n) = s.armState n := rfl
  have hheld' : ((s.modDose n k fun x => { x with baseline := some d }).arm n).held = some number := hheld
  rw [creditDispensed, hstate]
  cases (s.armState n).isLoading
  · rfl
  · rw [if_pos rfl, modHeld_of_held hheld']
    rfl

/-- Settles O58: each rule of the dosing engine by its own equation. -/
theorem staleTemperatureAndOverdueShotOfferTheirCause : Obligations.StaleTemperatureAndOverdueShotOfferTheirCause := by
  refine ⟨fun s n k d x => ⟨fun hd hreached => ?stale, fun hx hd hreached => ?overdue⟩,
    fun s n k => ⟨fun h => recomputeOwed_of_none h, fun c p hc hp => recomputeOwed_of_recipe hc hp⟩,
    fun s n k c a p hc ha hp => ?pace, fun s n k number => ⟨fun refused h => shotOutcome_of_other h,
      fun x h hx hnumber hheld => ?writeOff⟩,
    fun s n k last => ⟨fun tag d base number htag hlost hbase hheld => injectorReport_of_base htag hlost hbase hheld,
      fun h => completeShot_of_other h, fun x hx hlast => ?complete⟩⟩
  case stale =>
    obtain ⟨hactive, hhalted, hidle, -, hsame⟩ := offerCause_effect n .tempStale
      (s.modMeter n fun m => { m with staleMark := true, staleDeadline := none })
    refine ⟨_, exec_tempStale hd hreached, ?_, fun hact => ?_, hhalted, hidle, ?_⟩
    · rw [tempExpiry, hsame]
      exact (get_set_arm s.metering n n _).trans (if_pos rfl)
    · obtain ⟨hstate, hcauses⟩ := hactive hact
      exact ⟨hstate, by rw [tempExpiry, hcauses]; rfl⟩
    · rw [tempExpiry, hsame]
      rfl
  case overdue =>
    obtain ⟨hactive, hhalted, hidle, -, hsame⟩ := offerCause_effect n .additive
      (((s.modDose n k fun d => { d with deadline := none }).count .injector).raiseFlag .additiveFault)
    refine ⟨_, exec_shotTimeout hx hd hreached, ?_, ?_, ?_, fun hact => ?_, hhalted, hidle, ?_⟩
    · rw [shotExpiry, hsame]
      exact (dose_of_modDose s n n k k fun d => { d with deadline := none }).trans (if_pos ⟨rfl, rfl⟩)
    · rw [shotExpiry, hsame]
      rfl
    · rw [shotExpiry, hsame]
      rfl
    · obtain ⟨hstate, hcauses⟩ := hactive hact
      exact ⟨hstate, by rw [shotExpiry, hcauses]; rfl⟩
    · rw [shotExpiry, hsame]
      rfl
  case pace =>
    intro ready
    have hpace := paceSlot_eq hc ha hp
    refine ⟨fun hno => ?_, fun t hready ht hroom => ?_⟩
    · rw [hpace]
      split
      next => rfl
      next t ht =>
        refine if_neg fun hroom => ?_
        have hready := ((shotTag_eq_some s n k a p t).1 ht).1
        rcases hno with hno | hno
        · exact hno hready
        · exact absurd ((hasRoom_iff s).1 hroom) (Nat.not_lt.2 hno)
    · rw [hpace, (shotTag_eq_some s n k a p t).2 ⟨hready, ht⟩]
      dsimp only
      rw [if_pos ((hasRoom_iff s).2 hroom), commandShot_eq (held_of_heldComp hc)]
      rfl
  case writeOff =>
    rw [shotOutcome, hx]
    dsimp only
    rw [if_pos ⟨rfl, hnumber⟩, writeOffShot_eq hx hheld]
    rfl
  case complete =>
    intro done
    have hdone : completeShot n k last s = runningCheck n k done := completeShot_of_reached hx hlast
    refine ⟨fun hidle => ?_, fun hnone => ?_, fun c a p hload hc ha hp => ?_⟩
    · exact hdone.trans (runningCheck_of_idle hidle)
    · exact hdone.trans (runningCheck_of_none hnone)
    · have hcheck : completeShot n k last s =
          if runningCheckFails a p then offerCause n .additive (done.checkFailed c) else done :=
        hdone.trans (runningCheck_eq hload hc ha hp)
      intro limit fails
      refine ⟨fun hpass => ?_, fun hfails => ?_⟩
      · rw [hcheck, if_neg fun h => hpass ((runningCheckFails_iff a p).1 h)]
      · intro t
        have ht : t = offerCause n .additive (done.checkFailed c) :=
          hcheck.trans (if_pos ((runningCheckFails_iff a p).2 hfails))
        obtain ⟨hactive, hhalted, -, hother, hsame⟩ := offerCause_effect n .additive (done.checkFailed c)
        obtain ⟨y, hy, permissive, halted, hyeq⟩ := offerCause_comp (n := n) (c := .additive) (s := done.checkFailed c)
          (mem_modComp_comps (s := done) hc fun y => { y with flags := { y.flags with addHalt := true } })
        rw [ht]
        refine ⟨hactive, hhalted, ⟨y, hy, ?_, ?_, ?_⟩, hother, ?_⟩
        · rw [hyeq]
        · rw [hyeq]
        · rw [hyeq]
        · rw [hsame]
          rfl

end Sys2Proof.Machine
end

section
/-! ### The compile of a note (R129 to R139) -/

namespace Sys2Proof.Machine

/-! #### Roundings (R135, R136) -/

/-- Litres are the nearest, halves to even (R135). -/
theorem noteThousands_nearest (v : Nat) :
    2 * v ≤ 2000 * noteThousands v + 1000 ∧ 2000 * noteThousands v ≤ 2 * v + 1000 ∧
      (v % 1000 = 500 → noteThousands v % 2 = 0) := by
  simp only [noteThousands, roundHalfEven]
  split
  · omega
  · split
    · omega
    · split <;> omega

/-- The nearest quotient, halves away from zero, by its distance from the number (R136). -/
theorem roundHalfAway_nearest (t : Int) {d : Nat} (hd : 0 < d) :
    2 * ((d : Int) * roundHalfAway t d - t).natAbs ≤ d ∧
      (2 * ((d : Int) * roundHalfAway t d - t).natAbs = d → t.natAbs < ((d : Int) * roundHalfAway t d).natAbs) := by
  have hlow := Nat.div_mul_le_self (2 * t.natAbs + d) (2 * d)
  have hhigh := Nat.lt_div_mul_add (a := 2 * t.natAbs + d) (b := 2 * d) (by omega)
  rw [roundHalfAway]
  generalize (2 * t.natAbs + d) / (2 * d) = q at hlow hhigh ⊢
  have hprod : q * (2 * d) = 2 * (d * q) := by ring
  rw [hprod] at hlow hhigh
  split
  · have hcast : (d : Int) * (q : Int) = ((d * q : Nat) : Int) := by push_cast; rfl
    rw [hcast]
    generalize d * q = e at hlow hhigh ⊢
    omega
  · have hcast : (d : Int) * -(q : Int) = -((d * q : Nat) : Int) := by push_cast; ring
    rw [hcast]
    generalize d * q = e at hlow hhigh ⊢
    omega

/-! #### Pages (R130, R133 to R139) -/

theorem compiling_eq {s : State} {i : Nat} {x : NoteSlot} (hi : s.notes.held = some i) (hx : s.notes.slots[i]? = some x)
    (hstate : x.state = .updating) : s.compiling = some (i, x) := by
  rw [State.compiling, hi]
  dsimp only
  rw [hx]
  exact if_pos hstate

/-- One page written, and the compile not yet complete (R130). -/
theorem writeNextPage_of_more {s : State} {i : Nat} {x y : NoteSlot} (hc : s.compiling = some (i, x))
    (hy : writePage s x = y) (hmore : y.written ≤ s.session.comps.length) :
    writeNextPage s = { s with notes := { s.notes with slots := s.notes.slots.set i y, pageTimer := 0 } } := by
  rw [writeNextPage, hc]
  dsimp only
  rw [hy, if_neg (Nat.not_lt.2 hmore)]
  rfl

/-- The last page written completes the compile (R131). -/
theorem writeNextPage_of_last {s : State} {i : Nat} {x y : NoteSlot} (hc : s.compiling = some (i, x))
    (hy : writePage s x = y) (hlast : s.session.comps.length < y.written) :
    writeNextPage s =
      completeCompile i { s with notes := { s.notes with slots := s.notes.slots.set i y, pageTimer := 0 } } := by
  rw [writeNextPage, hc]
  dsimp only
  rw [hy, if_pos hlast]
  rfl

theorem writePage_comp {s : State} {x : NoteSlot} {c : Comp} (h0 : 0 < x.written)
    (hc : s.session.comps[x.written - 1]? = some c) :
    writePage s x = { x with written := x.written + 1, pages := x.pages ++ [compPageOf s c] } := by
  rw [writePage, if_neg (by omega), hc]

theorem modify_set_self {α : Type} (l : List α) (i : Nat) (x : α) (f : α → α) :
    (l.set i x).modify i f = l.set i (f x) := by
  induction l generalizing i with
  | nil => simp
  | cons y l ih =>
    cases i with
    | zero => rfl
    | succ i => simpa using ih i

theorem completeCompile_eq (i : Nat) (s : State) :
    completeCompile i s =
      returnVacant (display 21
        { s with
          notes := { s.notes with slots := s.notes.slots.modify i fillSlot }
          status := { s.status with flags := { s.status.flags with noteReady := true } } }) := rfl

/-- The session leaves with a message asked for (R1, R163). -/
theorem returnVacant_display (code : Nat) (s : State) :
    returnVacant (display code s) =
      { display code s with
        session := { readerTag := s.session.readerTag }, notes := { (display code s).notes with held := none }
        mode := if s.mode = .servicePending then .service else s.mode
        permissive :=
          if s.mode = .servicePending then { s.permissive with bayPermit := false } else s.permissive } := by
  rw [returnVacant_eq]
  simp

/-- Settles O60, from the roundings and the pages. -/
theorem compileWritesPagesThenFillsTheSlot : Obligations.CompileWritesPagesThenFillsTheSlot := by
  refine ⟨noteThousands_nearest, fun c => ⟨fun h0 => if_pos h0, fun hpos => ?average⟩,
    fun s => ⟨fun hnone => ?nothing, fun i x hi hx hstate => ?pages⟩⟩
  case average =>
    obtain ⟨hnear, htie⟩ := roundHalfAway_nearest c.tempSum (d := 10 * c.gross) (by omega)
    push_cast at hnear htie
    exact ⟨_, if_neg (by omega), hnear, htie⟩
  case nothing =>
    have hnothing : writeNextPage s = s := by rw [writeNextPage, hnone]
    exact congrArg Host.Outcome.next hnothing
  case pages =>
    intro additive page wrote
    have hcompiling := compiling_eq hi hx hstate
    have hpage : ∀ c, compPageOf s c = page c := by
      intro c
      have hadditive : ∀ k, additivePage s c k = additive c k := by
        intro k
        dsimp only [additive]
        rw [additivePage]
        cases c.additive.get k with
        | none => rfl
        | some a =>
          dsimp only [Option.map_some]
          cases (c.bank.bind fun bank => s.banks.prescription bank c.product k) <;> rfl
      dsimp only [page]
      rw [compPageOf, hadditive, hadditive]
      cases c.opening <;> cases c.closing <;> rfl
    refine ⟨fun h0 hcomps => ?_, fun c h0 hc => ?_⟩
    · have hwritten : writePage s x = { x with header := some (headerOf (x.serial.getD 0) s.session), written := 1 } :=
        if_pos h0
      have hmore : 1 ≤ s.session.comps.length := List.length_pos_iff.2 hcomps
      exact congrArg Host.Outcome.next (writeNextPage_of_more hcompiling hwritten hmore)
    · intro y
      have hwritten : writePage s x = y := by
        rw [writePage_comp h0 hc, hpage]
      refine ⟨fun hmore => ?_, fun hlast => ?_⟩
      · exact congrArg Host.Outcome.next (writeNextPage_of_more hcompiling hwritten hmore)
      · have hlast' : s.session.comps.length < y.written := by
          dsimp only [y]
          omega
        refine congrArg Host.Outcome.next ((writeNextPage_of_last hcompiling hwritten hlast').trans ?_)
        rw [completeCompile_eq, returnVacant_display]
        dsimp only
        rw [modify_set_self]
        rfl

end Sys2Proof.Machine
end

section
/-! ### RESTART (R199) -/

namespace Sys2Proof.Machine

/-! #### The state after RESTART -/

theorem resetDosing_eq (n : ArmId) (s : State) : resetDosing n s = { s with dosing := s.dosing.set n ⟨{}, {}⟩ } := by
  cases n <;> rfl

/-- The metering record of an arm after RESTART or a configuration write (R70). -/
def State.freshMetering (s : State) (n : ArmId) : Metering :=
  { staleDeadline := if (s.config n).temp.isSome then some (s.clock.ms + BitVec.ofNat 32 10000) else none }

theorem restartArm_eq (n : ArmId) (s : State) :
    restartArm n s =
      { s with
        arms := s.arms.set n ((s.arm n).restarted (s.config n)), metering := s.metering.set n (s.freshMetering n)
        dosing := s.dosing.set n ⟨{}, {}⟩ } := resetDosing_eq n _

/-- The arms, their metering and their dosing records after RESTART. -/
theorem restartArms_eq (s : State) :
    forArms restartArm s =
      { s with
        arms := ⟨(s.arm .a1).restarted (s.config .a1), (s.arm .a2).restarted (s.config .a2),
          (s.arm .a3).restarted (s.config .a3), (s.arm .a4).restarted (s.config .a4)⟩
        metering := ⟨s.freshMetering .a1, s.freshMetering .a2, s.freshMetering .a3, s.freshMetering .a4⟩
        dosing := ⟨⟨{}, {}⟩, ⟨{}, {}⟩, ⟨{}, {}⟩, ⟨{}, {}⟩⟩ } := by
  rw [forArms, restartArm_eq .a1 s, restartArm_eq .a2, restartArm_eq .a3, restartArm_eq .a4]
  rfl

/-- The lines and the tables after RESTART, the arms still as they were. -/
def State.restartedTables (s : State) : State :=
  { s with
    up := { s.up with rx := .idle, outgoing := [], sending := none, ignored := false }
    field := { s.field with rx := .idle, exchange := s.field.exchange.map fun e => { e with dropped := true } }
    cmdQueue := [], relayQueue := [], session := { s.session with readerTag := none }
    store := { s.store with orders := [] }, banks := { s.banks with countA := 0, countB := 0 }
    scans := s.scans.map fun e => { e with lastStart := none, late := 0, dueMark := false } }

/-- The state after RESTART but for the flags. -/
def State.restarted (s : State) : State :=
  { s.restartedTables with
    arms := ⟨(s.arm .a1).restarted (s.config .a1), (s.arm .a2).restarted (s.config .a2),
      (s.arm .a3).restarted (s.config .a3), (s.arm .a4).restarted (s.config .a4)⟩
    metering := ⟨s.freshMetering .a1, s.freshMetering .a2, s.freshMetering .a3, s.freshMetering .a4⟩
    dosing := ⟨⟨{}, {}⟩, ⟨{}, {}⟩, ⟨{}, {}⟩, ⟨{}, {}⟩⟩
    nodes := List.replicate 64 {}, reader := {}, permissive := {} }

theorem restartedTables_eq (s : State) :
    (((((restartLines s).modSession fun x => { x with readerTag := none }).modStore fun x => { x with orders := [] }).modBanks
      fun x => { x with countA := 0, countB := 0 }).modScans
      fun es => es.map fun e => { e with lastStart := none, late := 0, dueMark := false }) = s.restartedTables := by
  rw [state_eq_iff]
  simp [restartLines, State.restartedTables]

theorem restarted_arm (s : State) (n : ArmId) : s.restarted.arm n = (s.arm n).restarted (s.config n) := by
  cases n <;> rfl

theorem restarted_meter (s : State) (n : ArmId) : s.restarted.meter n = s.freshMetering n := by cases n <;> rfl

theorem restarted_dose (s : State) (n : ArmId) (k : Slot) : s.restarted.dose n k = {} := by
  cases n <;> cases k <;> rfl

/-- Nothing stands after RESTART but an unread note (R194). -/
theorem restarted_standing (s : State) (status : Status) (h : status.hostLost = false) :
    ({ s.restarted with status := status } : State).standing = { noteReady := s.unreadNote } := by
  have hnodes : (List.replicate 64 ({} : Node)).any (fun x => x.state == .lost) = false := by decide
  have hidle : ∀ n, (s.restarted.arm n).trip = false ∧ (s.restarted.arm n).state = .idle := by
    intro n
    rw [restarted_arm]
    exact ⟨rfl, rfl⟩
  have htrip : (armIds.any fun n => (s.restarted.arm n).trip) = false := by
    rw [← Bool.not_eq_true, any_armIds_iff]
    rintro ⟨n, hn⟩
    exact Bool.false_ne_true ((hidle n).1.symm.trans hn)
  have hmeter : (armIds.any fun n => (s.restarted.arm n).state == .blocked &&
      (s.restarted.arm n).blockCause == some .meter) = false := by
    rw [← Bool.not_eq_true, any_armIds_iff]
    rintro ⟨n, hn⟩
    rw [(hidle n).2] at hn
    cases hn
  have hflags : ({ s.restarted with status := status } : State).standing =
      { noteReady := s.unreadNote
        nodeLost := (List.replicate 64 ({} : Node)).any fun x => x.state == .lost
        valveFault := armIds.any fun n => (s.restarted.arm n).trip
        meterFault := armIds.any fun n => (s.restarted.arm n).state == .blocked &&
          (s.restarted.arm n).blockCause == some .meter
        hostLost := status.hostLost } := rfl
  rw [hflags, hnodes, htrip, hmeter, h]

/-- Outside RUN the permissive unit starts with BAY PERMIT de-energized (R121, R199). -/
theorem resetPermissive_of_service {s : State} (h : s.mode = .service) :
    resetPermissive s = { s with permissive := {} } := by
  have hholds : (s.modPermissive fun p => { bayPermit := p.bayPermit }).bayPermitHolds = false := by
    refine Bool.eq_false_iff.2 fun hh => ?_
    obtain ⟨hrun, -⟩ := (bayPermitHolds_iff _).1 hh
    exact absurd (h.symm.trans hrun) (by decide)
  rw [resetPermissive, decideBayPermit, hholds]
  rfl

/-- The state after RESTART, in SERVICE (R199). -/
theorem restartState_eq (s : State) (hmode : s.mode = .service) :
    restartState s =
      { s.restarted with
        status := { silenceDeadline := s.status.silenceDeadline, flags := { noteReady := s.unreadNote } } } := by
  have hstanding := restarted_standing s { silenceDeadline := s.status.silenceDeadline } rfl
  have htables : restartState s = restartStatus (resetPermissive
      (((forArms restartArm s.restartedTables).setNodes (List.replicate 64 {})).setReader {})) := by
    rw [restartState, restartedTables_eq]
  have harms : ((forArms restartArm s.restartedTables).setNodes (List.replicate 64 {})).setReader {} =
      { s.restarted with permissive := s.permissive } := by
    rw [restartArms_eq]
    rfl
  have hpermissive : resetPermissive { s.restarted with permissive := s.permissive } = s.restarted :=
    resetPermissive_of_service (s := { s.restarted with permissive := s.permissive }) hmode
  rw [htables, harms, hpermissive]
  exact congrArg (fun flags => { s.restarted with
    status := ({ silenceDeadline := s.status.silenceDeadline, flags := flags } : Status) }) hstanding

/-! #### The answers (R172, R187) -/

/-- The REFUSED BUSY for a host frame. -/
def busyAnswer (attention : Byte) (f : Frame) : Outgoing :=
  { frame := { dir := .response, kind := 2, tag := f.tag, addr := f.addr, payload := [Reason.busy.code, attention] } }

/-- The BUSY answers join the outgoing list in order. -/
theorem answerBusy_all (owed : List Frame) (s : State) (h : s.up.outgoing.length + owed.length ≤ 8) :
    owed.foldl answerBusy s =
      { s with up := { s.up with outgoing := s.up.outgoing ++ owed.map (busyAnswer s.attention) } } := by
  induction owed generalizing s with
  | nil => simp
  | cons f owed ih =>
    rw [List.length_cons] at h
    have hone : answerBusy s f =
        { s with up := { s.up with outgoing := s.up.outgoing ++ [busyAnswer s.attention f] } } :=
      respond_of_room _ _ _ _ (by omega)
    have hattention : (answerBusy s f).attention = s.attention := by rw [hone]; rfl
    rw [List.foldl_cons, ih (answerBusy s f) (by rw [hone]; simp; omega), hattention, hone]
    simp

theorem relayedFrame_eq (x : FieldLine) :
    x.relayedFrame =
      match x.exchange with
      | none => []
      | some e =>
        if (e.source = .relay ∨ e.source.isRoll = true) ∧ e.muted = false ∧ e.dropped = false then [e.frame] else [] := by
  unfold FieldLine.relayedFrame
  cases x.exchange with
  | none => rfl
  | some e =>
    dsimp only
    cases e.muted <;> cases e.dropped <;> cases e.source <;> rfl

theorem length_relayedFrame (x : FieldLine) : x.relayedFrame.length ≤ 1 := by
  unfold FieldLine.relayedFrame
  split
  next => exact Nat.zero_le _
  next =>
    split
    next => exact Nat.zero_le _
    next => split <;> simp

theorem withZero_zero (f : State → State × Reply) (s : State) : withZero 0 f s = f s := if_pos rfl

theorem withZero_of_ne {argument : Byte} (h : argument ≠ 0) (f : State → State × Reply) (s : State) :
    withZero argument.toNat f s = (s, .refused .outOfRange) :=
  if_neg fun h0 => h (BitVec.eq_of_toNat_eq h0)

/-- Settles O26: the state after RESTART, then the answers that join the emptied list. -/
theorem restartKeepsWhatTheHostLoaded : Obligations.RestartKeepsWhatTheHostLoaded := by
  intro s h
  have hexec : ∀ argument, exec (.restart argument) s = .next (hostSet 0x18 [1, argument] s) := fun _ => rfl
  refine ⟨fun argument hne => ?argument, fun hwrong => ?wrong, fun hmode hvacant hqueue => ?done⟩
  case argument =>
    exact (hexec _).trans (congrArg Host.Outcome.next (hostSet_command_refused h (withZero_of_ne hne restart _)))
  case wrong =>
    have hno : ¬(s.heardHost.mode = .service ∧ s.heardHost.session.state = .vacant) := fun hboth =>
      hwrong.elim (fun hm => hm hboth.1) fun hs => hs hboth.2
    exact (hexec _).trans (congrArg Host.Outcome.next (hostSet_command_refused h (if_neg hno)))
  case done =>
    have hlen := length_relayedFrame s.field
    have hstate := restartState_eq s.heardHost hmode
    have hbusy := answerBusy_all (s.field.relayedFrame ++ s.relayQueue.map Relayed.frame) (restartState s.heardHost) (by
      rw [hstate, List.length_append, List.length_map]
      exact Nat.le_trans (Nat.add_le_add_left (Nat.add_le_add hlen hqueue) 0) (by decide))
    have hrun : runCommand 1 0 s.heardHost =
        ((s.field.relayedFrame ++ s.relayQueue.map Relayed.frame).foldl answerBusy (restartState s.heardHost), .done) :=
      if_pos ⟨hmode, hvacant⟩
    rw [hbusy, hstate] at hrun
    have hroom : ∀ attention, ([] ++ (s.field.relayedFrame ++ s.relayQueue.map Relayed.frame).map
        (busyAnswer attention)).length < 8 := by
      intro attention
      rw [List.nil_append, List.length_map, List.length_append, List.length_map]
      omega
    refine ⟨_, (hexec 0).trans (congrArg Host.Outcome.next (hostSet_command_done h hrun (hroom _))), hmode, rfl, rfl, rfl, rfl,
      rfl, rfl, rfl, fun n => ⟨restarted_arm s.heardHost n, restarted_meter s.heardHost n,
        restarted_dose s.heardHost n⟩, rfl, rfl, fun x hx => ?_,
      rfl, rfl, rfl, rfl, rfl, rfl, rfl, rfl, rfl, ?_⟩
    · exact List.eq_of_mem_replicate hx
    · intro inLine
      have hline : inLine = s.field.relayedFrame := (relayedFrame_eq _).symm
      rw [hline]
      rfl

end Sys2Proof.Machine
end

section
/-! ### One step for each arm (R15, R16, R20)

What a step taken for each arm in turn makes of the compartments they hold, when each step changes its arm's record,
the compartments of the number it holds and the count of their bank. -/

namespace Sys2Proof.Machine

/-! #### One compartment -/

/-- What becomes of a compartment when each arm of a list, the last one first, changes it if it holds its number. -/
inductive Sweep (held : ArmId → Option Nat) (p : ArmId → Bool) (R : ArmId → Comp → Comp → Prop) :
    List ArmId → Comp → Comp → Prop where
  | nil (c : Comp) : Sweep held p R [] c c
  | take {done : List ArmId} {c x y : Comp} {n : ArmId} (h : Sweep held p R done c x) (hp : p n = true)
      (hheld : held n = some c.number) (hR : R n x y) : Sweep held p R (n :: done) c y
  | skip {done : List ArmId} {c x : Comp} {n : ArmId} (h : Sweep held p R done c x)
      (hno : ¬(p n = true ∧ held n = some c.number)) : Sweep held p R (n :: done) c x

section Sweep
variable {held : ArmId → Option Nat} {p : ArmId → Bool} {R : ArmId → Comp → Comp → Prop} {done : List ArmId}
  {c y : Comp}

theorem Sweep.keeps (h : Sweep held p R done c y) {Q : Comp → Prop} (hQ : ∀ n x y, R n x y → Q x → Q y) (hc : Q c) :
    Q y := by
  induction h with
  | nil => exact hc
  | take _ _ _ hR ih => exact hQ _ _ _ hR (ih hc)
  | skip _ _ ih => exact ih hc

theorem Sweep.number (h : Sweep held p R done c y) (hR : ∀ n x y, R n x y → y.number = x.number) :
    y.number = c.number :=
  h.keeps (Q := fun x => x.number = c.number) (fun n x y hxy hx => (hR n x y hxy).trans hx) rfl

theorem Sweep.eq_of_none (h : Sweep held p R done c y) (hno : ∀ n ∈ done, p n = true → held n ≠ some c.number) : y = c := by
  induction h with
  | nil => rfl
  | take _ hp hheld _ _ => exact absurd hheld (hno _ List.mem_cons_self hp)
  | skip _ _ ih => exact ih fun n hn => hno n (List.mem_cons_of_mem _ hn)

/-- An arm's change stays, if no later one undoes it. -/
theorem Sweep.makes (h : Sweep held p R done c y) {n : ArmId} (hn : n ∈ done) (hp : p n = true)
    (hheld : held n = some c.number) {Q : Comp → Prop} (hmake : ∀ x y, R n x y → Q y)
    (hQ : ∀ n x y, R n x y → Q x → Q y) : Q y := by
  induction h with
  | nil => cases hn
  | take _ _ _ hR ih =>
    rcases List.mem_cons.1 hn with rfl | hn
    · exact hmake _ _ hR
    · exact hQ _ _ _ hR (ih hn hheld)
  | skip _ hno ih =>
    rcases List.mem_cons.1 hn with rfl | hn
    · exact absurd ⟨hp, hheld⟩ hno
    · exact ih hn hheld

/-- A compartment that one arm alone holds is changed by it alone. -/
theorem Sweep.one (h : Sweep held p R done c y) {n : ArmId} (hnodup : done.Nodup) (hn : n ∈ done) (hp : p n = true)
    (hheld : held n = some c.number) (halone : ∀ m, m ≠ n → held m ≠ some c.number) : R n c y := by
  induction h with
  | nil => cases hn
  | take h _ hheld' hR ih =>
    obtain ⟨hnot, hnodup⟩ := List.nodup_cons.1 hnodup
    rcases List.mem_cons.1 hn with rfl | hn
    · have hx := h.eq_of_none fun m hm _ => halone m fun hmn => hnot (hmn ▸ hm)
      exact hx ▸ hR
    · exact absurd hheld' (halone _ fun hmn => hnot (hmn ▸ hn))
  | skip h hno ih =>
    obtain ⟨hnot, hnodup⟩ := List.nodup_cons.1 hnodup
    rcases List.mem_cons.1 hn with rfl | hn
    · exact absurd ⟨hp, hheld⟩ hno
    · exact ih hnodup hn hheld halone

end Sweep

/-! #### One arm -/

/-- `u` is `t` with one arm's record changed, the compartments of the number it holds, and the count of the bank that
its compartment frees. -/
structure ArmStep (freed : Comp → Option Bank) (t u : State) (n : ArmId) (a : Arm → Arm) (R : Comp → Comp → Prop) :
    Prop where
  arm : ∀ m, u.arm m = if m = n then a (t.arm n) else t.arm m
  comps : ∃ F : Comp → Comp, u.session.comps = t.session.comps.map F ∧
    ∀ c, if (t.arm n).held = some c.number then R c (F c) else F c = c
  banks : u.banks = (uncaptureBank ((t.heldComp n).bind freed) t).banks
  dose : ∀ m k, m ≠ n → u.dose m k = t.dose m k
  session : u.session = { t.session with comps := u.session.comps, idleBase := u.session.idleBase }
  clock : u.clock = t.clock

/-- How many of the listed arms of a choice hold a compartment that frees the bank. -/
def State.freedIn (s : State) (freed : Comp → Option Bank) (done : List ArmId) (p : ArmId → Bool) (bank : Bank) : Nat :=
  (done.filter fun n => p n && ((s.heldComp n).bind freed) == some bank).length

/-- `t` is `s` with a step taken for the arms of a choice among those listed, the last one first. -/
structure Swept (freed : Comp → Option Bank) (s t : State) (done : List ArmId) (p : ArmId → Bool) (a : ArmId → Arm → Arm)
    (R : ArmId → Comp → Comp → Prop) : Prop where
  arm : ∀ m, t.arm m = if m ∈ done ∧ p m = true then a m (s.arm m) else s.arm m
  comps : ∃ F : Comp → Comp, t.session.comps = s.session.comps.map F ∧
    ∀ c, Sweep (fun n => (s.arm n).held) p R done c (F c)
  banks : s.holdsApart → t.banks =
    { s.banks with
      countA := s.banks.countA - s.freedIn freed done p .a, countB := s.banks.countB - s.freedIn freed done p .b }
  tables : t.banks.a = s.banks.a ∧ t.banks.b = s.banks.b ∧ t.banks.active = s.banks.active
  dose : ∀ m k, ¬(m ∈ done ∧ p m = true) → t.dose m k = s.dose m k
  session : t.session = { s.session with comps := t.session.comps, idleBase := t.session.idleBase }
  clock : t.clock = s.clock

section Swept
variable {freed : Comp → Option Bank} {s t u : State} {done : List ArmId} {p : ArmId → Bool} {a : ArmId → Arm → Arm}
  {R : ArmId → Comp → Comp → Prop} {n : ArmId}

theorem Swept.refl (freed : Comp → Option Bank) (s : State) (p : ArmId → Bool) (a : ArmId → Arm → Arm) (R : ArmId → Comp → Comp → Prop) :
    Swept freed s s [] p a R where
  arm _ := (if_neg fun h => nomatch h.1).symm
  comps := ⟨fun c => c, (List.map_id' _).symm, fun c => .nil c⟩
  banks _ := rfl
  tables := ⟨rfl, rfl, rfl⟩
  dose _ _ _ := rfl
  session := rfl
  clock := rfl

/-- The compartment found for a number, after each is changed and keeps its number. -/
theorem heldComp_of_map {F : Comp → Comp} (hheld : (t.arm n).held = (s.arm n).held)
    (hcomps : t.session.comps = s.session.comps.map F) (hF : ∀ c, (F c).number = c.number) :
    t.heldComp n = (s.heldComp n).map F := by
  rw [State.heldComp, State.heldComp, hheld, hcomps]
  cases (s.arm n).held with
  | none => rfl
  | some k =>
    have hsame : ((fun x : Comp => x.number == k) ∘ F) = fun x => x.number == k := funext fun x => by
      rw [Function.comp_apply, hF]
    rw [Option.bind_some, Option.bind_some, List.find?_map, hsame]

/-- An arm that took no step holds a compartment of the same number. -/
theorem Swept.heldComp_number (h : Swept freed s t done p a R) (hR : ∀ n x y, R n x y → y.number = x.number)
    (hn : ¬(n ∈ done ∧ p n = true)) :
    (t.heldComp n).map (fun c => c.number) = (s.heldComp n).map fun c => c.number := by
  obtain ⟨F, hF, hsweep⟩ := h.comps
  have hheld : (t.arm n).held = (s.arm n).held := by rw [h.arm, if_neg hn]
  have hnumber : ∀ c, (F c).number = c.number := fun c => (hsweep c).number hR
  rw [heldComp_of_map hheld hF hnumber, Option.map_map]
  exact congrArg (fun f => (s.heldComp n).map f) (funext hnumber)

/-- An arm that took no step holds the same compartment, if no other arm holds it. -/
theorem Swept.heldComp_of_apart (h : Swept freed s t done p a R) (hR : ∀ n x y, R n x y → y.number = x.number)
    (hn : ¬(n ∈ done ∧ p n = true)) (hapart : s.holdsApart) : t.heldComp n = s.heldComp n := by
  obtain ⟨F, hF, hsweep⟩ := h.comps
  have hheld : (t.arm n).held = (s.arm n).held := by rw [h.arm, if_neg hn]
  rw [heldComp_of_map hheld hF fun c => (hsweep c).number hR]
  cases hc : s.heldComp n with
  | none => rfl
  | some c =>
    have hnumber := held_of_heldComp hc
    have hone : F c = c := (hsweep c).eq_of_none fun m hm hp hmheld => by
      have hne : n ≠ m := fun hnm => hn ⟨hnm ▸ hm, hnm ▸ hp⟩
      exact hapart n m hne (by rw [hnumber]; exact Option.some_ne_none _) (hnumber.trans hmheld.symm)
    rw [Option.map_some, hone]

theorem Swept.skip (h : Swept freed s t done p a R) (hp : p n = false) : Swept freed s t (n :: done) p a R where
  arm m := by
    rw [h.arm m]
    refine if_congr ⟨fun hm => ⟨List.mem_cons_of_mem _ hm.1, hm.2⟩, fun hm => ⟨?_, hm.2⟩⟩ rfl rfl
    rcases List.mem_cons.1 hm.1 with rfl | hmem
    · exact absurd (hp.symm.trans hm.2) Bool.false_ne_true
    · exact hmem
  comps := by
    obtain ⟨F, hF, hsweep⟩ := h.comps
    exact ⟨F, hF, fun c => (hsweep c).skip fun hh => Bool.false_ne_true (hp.symm.trans hh.1)⟩
  banks hapart := by
    rw [h.banks hapart]
    simp only [State.freedIn, List.filter_cons, hp, Bool.false_and, Bool.false_eq_true, if_false]
  tables := h.tables
  dose m k hm := h.dose m k fun hh => hm ⟨List.mem_cons_of_mem _ hh.1, hh.2⟩
  session := h.session
  clock := h.clock

theorem Swept.step (h : Swept freed s t done p a R) (hR : ∀ n x y, R n x y → y.number = x.number) (hn : n ∉ done)
    (hp : p n = true) (hs : ArmStep freed t u n (a n) (R n)) : Swept freed s u (n :: done) p a R where
  arm m := by
    rw [hs.arm]
    by_cases hm : m = n
    · subst hm
      rw [if_pos rfl, if_pos ⟨List.mem_cons_self, hp⟩, h.arm, if_neg fun hh => hn hh.1]
    · rw [if_neg hm, h.arm]
      refine if_congr ⟨fun hh => ⟨List.mem_cons_of_mem _ hh.1, hh.2⟩, fun hh => ⟨?_, hh.2⟩⟩ rfl rfl
      exact (List.mem_cons.1 hh.1).resolve_left hm
  comps := by
    obtain ⟨F, hF, hsweep⟩ := h.comps
    obtain ⟨G, hG, hstep⟩ := hs.comps
    refine ⟨fun c => G (F c), by rw [hG, hF, List.map_map]; rfl, fun c => ?_⟩
    have hheld : (t.arm n).held = (s.arm n).held := by rw [h.arm, if_neg fun hh => hn hh.1]
    have hnumber := (hsweep c).number hR
    have hone := hstep (F c)
    rw [hheld, hnumber] at hone
    by_cases hc : (s.arm n).held = some c.number
    · rw [if_pos hc] at hone
      exact (hsweep c).take hp hc hone
    · rw [if_neg hc] at hone
      dsimp only
      rw [hone]
      exact (hsweep c).skip fun hh => hc hh.2
  banks hapart := by
    rw [hs.banks, h.heldComp_of_apart hR (fun hh => hn hh.1) hapart, uncaptureBank_eq]
    have hcount : ∀ bank : Bank, s.freedIn freed (n :: done) p bank =
        (if ((s.heldComp n).bind freed) = some bank then 1 else 0) + s.freedIn freed done p bank := by
      intro bank
      rw [State.freedIn, State.freedIn, List.filter_cons, hp, Bool.true_and]
      by_cases hb : ((s.heldComp n).bind freed) = some bank
      · rw [if_pos hb, if_pos (beq_iff_eq.2 hb), List.length_cons, Nat.add_comm]
      · rw [if_neg hb, if_neg fun hh => hb (beq_iff_eq.1 hh), Nat.zero_add]
    have hbanks := h.banks hapart
    rw [hcount, hcount]
    rcases (s.heldComp n).bind freed with _ | _ | _
    · simp [uncaptureBank, hbanks]
    · simp [uncaptureBank, hbanks]
      omega
    · simp [uncaptureBank, hbanks]
      omega
  tables := by
    rw [hs.banks]
    rcases (t.heldComp n).bind freed with _ | _ | _ <;> exact h.tables
  dose m k hm := by
    have hne : m ≠ n := fun hmn => hm ⟨hmn ▸ List.mem_cons_self, hmn ▸ hp⟩
    rw [hs.dose m k hne]
    exact h.dose m k fun hh => hm ⟨List.mem_cons_of_mem _ hh.1, hh.2⟩
  session := by
    rw [hs.session, h.session]
  clock := hs.clock.trans h.clock

/-- A step taken for each arm, 1 to 4: each is a step of its arm if it is chosen, and else nothing. -/
theorem swept_forArms {f : ArmId → State → State} (s : State) (hR : ∀ n x y, R n x y → y.number = x.number)
    (hf : ∀ n t done, Swept freed s t done p a R → n ∉ done →
      (p n = true → ArmStep freed t (f n t) n (a n) (R n)) ∧ (p n = false → f n t = t)) :
    Swept freed s (forArms f s) [.a4, .a3, .a2, .a1] p a R := by
  have hone : ∀ {t done} (n : ArmId), Swept freed s t done p a R → n ∉ done → Swept freed s (f n t) (n :: done) p a R := by
    intro t done n h hn
    obtain ⟨htake, hskip⟩ := hf n t done h hn
    cases hp : p n
    · rw [hskip hp]
      exact h.skip hp
    · exact h.step hR hn hp (htake hp)
  exact hone .a4 (hone .a3 (hone .a2 (hone .a1 (Swept.refl freed s p a R) (by decide)) (by decide)) (by decide)) (by decide)

theorem mem_allArms (n : ArmId) : n ∈ [ArmId.a4, .a3, .a2, .a1] := by cases n <;> decide

end Swept

/-! #### An ARMED arm gives its compartment back, a HALTED one is released (R49, R56) -/

/-- An arm's record once it gave its compartment back (R49). -/
def Arm.disarmed (a : Arm) : Arm := { a with state := .idle, held := none, armedDeadline := none }

/-- A compartment given back (R49). -/
def Comp.givenBack (c : Comp) : Comp := { c with state := .pending, arm := none, bank := none, additive := ⟨none, none⟩ }

/-- `y` is the compartment `x` released SHORT, with either verdict of the end check (R56, R108). -/
def Comp.EndsShort (totalizer : Nat) (x y : Comp) : Prop :=
  ∃ v w, y = ((({ x with state := .short } : Comp).closed totalizer).judged v).judged w

section
variable {t : State} {n : ArmId} {x y : Comp} {k : Nat}

theorem Comp.EndsShort.spec (h : x.EndsShort k y) :
    y.number = x.number ∧ y.state = .short ∧ y.flags.short = true ∧ y.closing = some (x.closing.getD k) ∧
      y.flags.halted = x.flags.halted := by
  obtain ⟨v, w, rfl⟩ := h
  refine ⟨rfl, rfl, ?_, rfl, rfl⟩
  simp [Comp.judged, Comp.closed]

theorem armStep_disarm (t : State) (n : ArmId) :
    ArmStep Comp.bank t (disarm n none t) n Arm.disarmed fun x y => y = x.givenBack := by
  refine ⟨fun m => disarm_arm n m none t, ?_, ?_, fun m k _ => ?_, ?_, (disarm_leaves t n none).1⟩
  · refine ⟨fun c => if (t.arm n).held = some c.number then c.givenBack else c, ?_, fun c => ?_⟩
    · rw [disarm, markIdle_comps, modArm_session]
      cases h : t.heldComp n with
      | none =>
        rw [returnToPending, h]
        refine (List.map_id' _).symm.trans (List.map_congr_left fun c hc => (if_neg fun hheld => ?_).symm)
        rw [State.heldComp, hheld, Option.bind_some, List.find?_eq_none] at h
        exact h c hc (beq_self_eq_true _)
      | some d =>
        rw [returnToPending, h]
        dsimp only
        rw [uncaptureBank_session, modHeld_of_heldComp h, held_of_heldComp h]
        refine List.map_congr_left fun c _ => if_congr ⟨fun hc => by rw [hc], fun hc => ?_⟩ rfl rfl
        exact (Option.some.inj hc).symm
    · by_cases hc : (t.arm n).held = some c.number
      · rw [if_pos hc]
        exact if_pos hc
      · rw [if_neg hc]
        exact if_neg hc
  · cases h : t.heldComp n with
    | none =>
      rw [disarm, returnToPending, h, markIdle_eq]
      rfl
    | some d =>
      rw [disarm_eq none h, markIdle_eq]
      rfl
  · exact congrArg (fun d => PerSlot.get (PerArm.get d m) k) (disarm_leaves t n none).2.2.2.2.2.2.1
  · cases h : t.heldComp n with
    | none =>
      rw [disarm, returnToPending, h, markIdle_eq]
      rfl
    | some d =>
      rw [disarm_eq none h, markIdle_eq]
      rfl

theorem armStep_release (h : (t.heldComp n).isSome = true) :
    ArmStep Comp.bank t (release n none (shortHeld n t)) n (fun a => a.released none) (Comp.EndsShort (t.arm n).totalizer) := by
  obtain ⟨c, h⟩ := Option.isSome_iff_exists.1 h
  have hheld := held_of_heldComp h
  have hshort : shortHeld n t = t.modComp c.number fun x => { x with state := .short } := modHeld_of_heldComp h _
  have hcomp : (shortHeld n t).heldComp n = some { c with state := .short } :=
    hshort ▸ heldComp_modComp h (fun x => { x with state := .short }) fun _ => rfl
  have hrelease := release_eq none hcomp
  refine ⟨fun m => ?_, ?_, ?_, fun m k hm => ?_, ?_, by simp⟩
  · rw [release_arm, hcomp, hshort]
    simp only [Option.isSome_some, and_true]
    rfl
  · refine ⟨fun x => if x.number = c.number then
        (shortHeld n t).judge n { c with state := .short }
          (({ x with state := .short } : Comp).closed (t.arm n).totalizer) else x, ?_, fun x => ?_⟩
    · rw [hrelease, markIdle_comps, hshort]
      exact congrArg (fun s : State => s.session.comps) (modComp_modComp t c.number (fun x => { x with state := .short })
        (fun x => (t.modComp c.number fun x => { x with state := .short }).judge n { c with state := .short }
          (x.closed (t.arm n).totalizer)) fun _ => rfl)
    · rw [hheld]
      dsimp only
      by_cases hx : x.number = c.number
      · rw [if_pos (by rw [hx]), if_pos hx]
        exact ⟨_, _, rfl⟩
      · rw [if_neg fun hc => hx (Option.some.inj hc).symm, if_neg hx]
  · rw [hrelease, markIdle_eq, h, hshort]
    rcases hb : c.bank with _ | _ | _ <;> simp [State.releasedWith, uncaptureBank, hb, State.modComp]
  · rw [hrelease, markIdle_eq, hshort]
    exact congrArg (fun d => PerSlot.get d k) ((get_set_arm _ _ _ _).trans (if_neg hm))
  · rw [hrelease, markIdle_eq, hshort]
    rfl

end

/-! #### Every ARMED arm gives its compartment back (R15, R16, R20) -/

theorem swept_disarmAll (s : State) :
    Swept Comp.bank s (disarmAll s) [.a4, .a3, .a2, .a1] (fun n => s.armState n == .armed) (fun _ => Arm.disarmed)
      (fun _ x y => y = x.givenBack) := by
  refine swept_forArms (f := fun n t => if t.armState n = .armed then disarm n none t else t) s
    (fun _ x y h => h ▸ rfl) fun n t done h hn => ?_
  have harm : t.arm n = s.arm n := (h.arm n).trans (if_neg fun hh => hn hh.1)
  have hstate : t.armState n = s.armState n := congrArg Arm.state harm
  refine ⟨fun hp => ?_, fun hp => if_neg fun ha => ?_⟩
  · rw [if_pos (hstate.trans (beq_iff_eq.1 hp))]
    exact armStep_disarm t n
  · exact Bool.false_ne_true (hp.symm.trans (beq_iff_eq.2 (hstate ▸ ha)))

/-- A step for each arm that makes the compartment of a HALTED arm of a choice SHORT and releases the arm. -/
theorem swept_release {f : ArmId → State → State} {q : Arm → Bool} (s : State)
    (hf : ∀ n t, f n t = if t.armState n = .halted ∧ q (t.arm n) = true then release n none (shortHeld n t) else t) :
    Swept Comp.bank s (forArms f s) [.a4, .a3, .a2, .a1]
      (fun n => s.armState n == .halted && q (s.arm n) && (s.heldComp n).isSome) (fun _ a => a.released none)
      (fun n => Comp.EndsShort (s.arm n).totalizer) := by
  have hR : ∀ (n : ArmId) (x y : Comp), x.EndsShort (s.arm n).totalizer y → y.number = x.number :=
    fun _ _ _ h => h.spec.1
  refine swept_forArms s hR fun n t done h hn => ?_
  have hno : ¬(n ∈ done ∧ (s.armState n == .halted && q (s.arm n) && (s.heldComp n).isSome) = true) := fun hh => hn hh.1
  have harm : t.arm n = s.arm n := (h.arm n).trans (if_neg hno)
  have hstate : t.armState n = s.armState n := congrArg Arm.state harm
  have hsome : (t.heldComp n).isSome = (s.heldComp n).isSome := by
    have := congrArg Option.isSome (h.heldComp_number hR hno)
    rwa [Option.isSome_map, Option.isSome_map] at this
  rw [hf, hstate, harm]
  refine ⟨fun hp => ?_, fun hp => ?_⟩
  · simp only [Bool.and_eq_true, beq_iff_eq] at hp
    obtain ⟨hp, hc⟩ := hp
    rw [if_pos hp, ← harm]
    exact armStep_release (hsome.trans hc)
  · by_cases hh : s.armState n = .halted ∧ q (s.arm n) = true
    · have hnone : (t.heldComp n).isSome = false := by
        rw [hsome]
        simpa [hh.1, hh.2] using hp
      rw [if_pos hh, shortHeld, State.modHeld]
      have hnone := Option.not_isSome_iff_eq_none.1 (Bool.eq_false_iff.1 hnone)
      cases hk : (t.arm n).held with
      | none => rw [release, hnone]
      | some k =>
        have hcomps : (t.modComp k fun c => { c with state := .short }) = t := by
          rw [State.heldComp, hk, Option.bind_some, List.find?_eq_none] at hnone
          have hmap : (t.session.comps.map fun c => if c.number = k then { c with state := .short } else c) =
              t.session.comps :=
            (List.map_congr_left fun c hc => if_neg fun hck => hnone c hc (beq_iff_eq.2 hck)).trans (List.map_id' _)
          exact congrArg (fun l => { t with session := { t.session with comps := l } }) hmap
        dsimp only
        rw [hcomps, release, hnone]
    · rw [if_neg hh]

end Sys2Proof.Machine
end

section
/-! ### START (R14, R50, R60) -/

namespace Sys2Proof.Machine

section
variable {s t : State} {n : ArmId}

theorem modHeld_comps (s : State) (n : ArmId) (f : Comp → Comp) :
    (s.modHeld n f).session.comps = s.session.comps.map fun c => if (s.arm n).held = some c.number then f c else c := by
  unfold State.modHeld
  cases (s.arm n).held with
  | none => simp
  | some k => exact List.map_congr_left fun c _ => if_congr (Iff.trans eq_comm Option.some_inj.symm) rfl rfl

theorem modHeld_eq (s : State) (n : ArmId) (f : Comp → Comp) :
    s.modHeld n f = { s with session := { s.session with comps := (s.modHeld n f).session.comps } } := by
  unfold State.modHeld
  cases (s.arm n).held <;> rfl

theorem queueValve_displays (n : ArmId) (p : Position) (s : State) :
    (queueValve n p s).cmdQueue.filter Cmd.isDisplay = s.cmdQueue.filter Cmd.isDisplay := by
  have hreplaced : ∀ q : List Cmd, (q.map fun c => c.superseded n p).filter Cmd.isDisplay = q.filter Cmd.isDisplay := by
    intro q
    have hsame : Cmd.isDisplay ∘ (fun c => c.superseded n p) = Cmd.isDisplay := funext fun c => c.isDisplay_superseded n p
    rw [List.filter_map, hsame]
    refine (List.map_congr_left fun c hc => ?_).trans (List.map_id' _)
    have hdisplay := (List.mem_filter.1 hc).2
    cases c with
    | valve => exact absurd hdisplay Bool.false_ne_true
    | shot => exact absurd hdisplay Bool.false_ne_true
    | display => rfl
  unfold queueValve
  (repeat' split)
  · rfl
  · rfl
  · exact hreplaced _
  · exact (List.filter_append _ _).trans (List.append_nil _)
  · rfl

/-- The record of an arm that START starts. -/
def Arm.started (a : Arm) : Arm := { a with state := .starting, commanded := .low, gStart := 0, armedDeadline := none }

/-- The record of an arm that START resumes, its compartment filled to `gross`. -/
def Arm.resumed (a : Arm) (gross : Nat) : Arm :=
  { a with
    state := .starting, commanded := .low, causes := a.causes.afterStart, gStart := gross, haltEntry := none
    haltDeadline := none }

/-- The gross volume of the compartment that an arm holds. -/
def State.heldGross (s : State) (n : ArmId) : Nat := ((s.heldComp n).map fun c => c.gross).getD 0

/-- What START makes of an ARMED or HALTED arm. -/
def State.startedArm (s : State) (n : ArmId) (a : Arm) : Arm :=
  if a.state = .armed then a.started
  else if a.canResume then a.resumed (s.heldGross n)
  else { a with causes := a.causes.afterStart }

/-- What START makes of the compartment of an ARMED or HALTED arm. -/
def State.startedComp (s : State) (n : ArmId) (c : Comp) : Comp :=
  if s.armState n = .armed then c.started (s.arm n).totalizer else c

theorem commandValve_commandQueue_displays (n : ArmId) (p : Position) (s : State) :
    (commandValve n p s).cmdQueue.filter Cmd.isDisplay = s.cmdQueue.filter Cmd.isDisplay := by
  rw [commandValve_cmdQueue, queueValve_displays]

theorem startArm_arm (n m : ArmId) (s : State) :
    (startArm n s).arm m = if m = n then (s.arm n).started else s.arm m := by
  unfold startArm
  simp only [arm_modArm, commandValve_arm, arm_modHeld, commandPosition_of_open _ (by decide : Position.low ≠ .closed)]
  by_cases hm : m = n
  · simp only [hm, if_true]
    rfl
  · simp only [if_neg hm]

theorem startArm_session (n : ArmId) (s : State) :
    (startArm n s).session = (s.modHeld n fun c => c.started (s.arm n).totalizer).session := by
  unfold startArm
  simp [commandValve_eq]

theorem startArm_displays (n : ArmId) (s : State) :
    (startArm n s).cmdQueue.filter Cmd.isDisplay = s.cmdQueue.filter Cmd.isDisplay := by
  unfold startArm
  refine (congrArg (List.filter Cmd.isDisplay) (modArm_cmdQueue _ _ _)).trans ?_
  rw [commandValve_commandQueue_displays]
  simp

theorem resumeArm_arm (n m : ArmId) (s : State) :
    (resumeArm n s).arm m =
      if m = n then
        (if (s.arm n).canResume then (s.arm n).resumed (s.heldGross n)
        else { s.arm n with causes := (s.arm n).causes.afterStart })
      else s.arm m := by
  unfold resumeArm
  by_cases hr : (s.arm n).canResume = true
  · simp only [hr, if_true, arm_modArm, commandValve_arm, commandPosition_of_open _ (by decide : Position.low ≠ .closed)]
    by_cases hm : m = n
    · simp only [hm, if_true, State.heldGross]
      cases s.heldComp n <;> rfl
    · simp only [if_neg hm]
  · simp only [hr, if_false, arm_modArm, Bool.false_eq_true]

theorem resumeArm_session (n : ArmId) (s : State) : (resumeArm n s).session = s.session := by
  unfold resumeArm
  by_cases hr : (s.arm n).canResume = true
  · simp [hr, commandValve_eq]
  · simp [hr]

theorem resumeArm_displays (n : ArmId) (s : State) :
    (resumeArm n s).cmdQueue.filter Cmd.isDisplay = s.cmdQueue.filter Cmd.isDisplay := by
  unfold resumeArm
  by_cases hr : (s.arm n).canResume = true
  · simp only [hr, if_true]
    refine (congrArg (List.filter Cmd.isDisplay) (modArm_cmdQueue _ _ _)).trans ?_
    rw [commandValve_commandQueue_displays]
    simp
  · simp [hr]

theorem startOne_displays (n : ArmId) (s : State) :
    (startOne n s).cmdQueue.filter Cmd.isDisplay = s.cmdQueue.filter Cmd.isDisplay := by
  unfold startOne
  split
  · exact startArm_displays n s
  split
  · exact resumeArm_displays n s
  · rfl

theorem startOne_arm (n m : ArmId) (s : State) (h : s.armState n = .armed ∨ s.armState n = .halted) :
    (startOne n s).arm m = if m = n then s.startedArm n (s.arm n) else s.arm m := by
  rw [State.startedArm, startOne]
  rcases h with h | h
  · have h' : (s.arm n).state = .armed := h
    rw [if_pos h, if_pos h', startArm_arm]
  · have h' : (s.arm n).state = .halted := h
    have hne : ¬(s.arm n).state = .armed := by rw [h']; decide
    rw [if_neg (show ¬s.armState n = .armed from hne), if_pos h, if_neg hne, resumeArm_arm]

theorem startOne_session (n : ArmId) (s : State) :
    (startOne n s).session =
      { s.session with comps := s.session.comps.map fun c =>
          if (s.arm n).held = some c.number then s.startedComp n c else c } := by
  unfold startOne State.startedComp
  by_cases ha : s.armState n = .armed
  · simp only [if_pos ha]
    rw [startArm_session, modHeld_eq, modHeld_comps]
  · simp only [if_neg ha, ite_self, List.map_id']
    split
    · exact resumeArm_session n s
    · rfl

theorem Comp.started_number (c : Comp) (k : Nat) : (c.started k).number = c.number := rfl

theorem startedComp_number (s : State) (n : ArmId) (c : Comp) : (s.startedComp n c).number = c.number := by
  unfold State.startedComp
  split <;> rfl

theorem swept_start (s : State) (hapart : s.holdsApart) :
    Swept (fun _ => none) s (forArms startOne s) [.a4, .a3, .a2, .a1]
      (fun n => s.armState n == .armed || s.armState n == .halted) s.startedArm (fun n x y => y = s.startedComp n x) := by
  have hR : ∀ (n : ArmId) (x y : Comp), y = s.startedComp n x → y.number = x.number :=
    fun n x y h => h ▸ startedComp_number s n x
  refine swept_forArms s hR fun n t done h hn => ?_
  have hno : ¬(n ∈ done ∧ (s.armState n == .armed || s.armState n == .halted) = true) := fun hh => hn hh.1
  have harm : t.arm n = s.arm n := (h.arm n).trans (if_neg hno)
  have hstate : t.armState n = s.armState n := congrArg Arm.state harm
  have hheld : t.heldComp n = s.heldComp n := h.heldComp_of_apart hR hno hapart
  refine ⟨fun hp => ?_, fun hp => ?_⟩
  · rw [Bool.or_eq_true, beq_iff_eq, beq_iff_eq, ← hstate] at hp
    have harms : t.startedArm n (t.arm n) = s.startedArm n (t.arm n) := by
      rw [State.startedArm, State.startedArm, State.heldGross, State.heldGross, hheld]
    have hcomp : ∀ c, t.startedComp n c = s.startedComp n c := fun c => by
      rw [State.startedComp, State.startedComp, hstate, harm]
    refine ⟨fun m => ?_, ?_, ?_, fun m k _ => ?_, ?_, by simp⟩
    · rw [startOne_arm n m t hp, harms]
    · refine ⟨_, congrArg Session.comps (startOne_session n t), fun c => ?_⟩
      by_cases hc : (t.arm n).held = some c.number
      · rw [if_pos hc]
        exact (if_pos hc).trans (hcomp c)
      · rw [if_neg hc]
        exact if_neg hc
    · rw [show (t.heldComp n).bind (fun _ => (none : Option Bank)) = none by cases t.heldComp n <;> rfl]
      simp [uncaptureBank]
    · simp [State.dose]
    · rw [startOne_session]
  · simp only [Bool.or_eq_false_iff, beq_eq_false_iff_ne, ne_eq] at hp
    rw [startOne, hstate, if_neg hp.1, if_neg hp.2]

end

/-! #### The key START -/

section
variable {s : State} {n : ArmId}

theorem startedArm_of_armed (h : s.armState n = .armed) : s.startedArm n (s.arm n) = (s.arm n).started := if_pos h

theorem startedArm_of_halted (h : s.armState n = .halted) :
    s.startedArm n (s.arm n) =
      if (s.arm n).canResume then (s.arm n).resumed (s.heldGross n)
      else { s.arm n with causes := (s.arm n).causes.afterStart } :=
  if_neg fun ha => by rw [show (s.arm n).state = .halted from h] at ha; exact absurd ha (by decide)

theorem canResume_iff (a : Arm) : a.canResume = true ↔ a.settled = true ∧ a.causes.afterStart = {} := by
  rw [Arm.canResume, Causes.isEmpty, Bool.and_eq_true, beq_iff_eq]

theorem startMoves_iff (s : State) (n : ArmId) :
    s.startMoves n = true ↔
      s.armState n = .armed ∨ s.armState n = .halted ∧ (s.arm n).settled = true ∧ (s.arm n).causes.afterStart = {} := by
  rw [State.startMoves, Bool.or_eq_true, Bool.and_eq_true, beq_iff_eq, beq_iff_eq, canResume_iff]

theorem forArms_startOne_session (s : State) :
    (forArms startOne s).session = { s.session with comps := (forArms startOne s).session.comps } := by
  have hkeeps : ∀ t : State, { (forArms startOne t).session with comps := [] } = { t.session with comps := [] } := fun t =>
    forArms_keeps (fun t : State => { t.session with comps := [] }) startOne (fun n t => by rw [startOne_session]) t
  exact congrArg (fun x : Session => { x with comps := (forArms startOne s).session.comps }) (hkeeps s)

/-- The state in which START has offered itself to each arm. -/
@[irreducible] def State.startedAll (s : State) : State := forArms startOne (renewDeadman (emptyDigits s))

theorem startKey_of_run (habort : s.session.hostAbort = false) (hmode : s.mode = .run)
    (hhealthy : s.permissive.healthy = true) :
    startKey s = if armIds.any fun n => s.startMoves n then display 16 s.startedAll else s.startedAll := by
  unfold startKey
  simp [habort, hmode, hhealthy, State.startedAll, msgLoading]

theorem startedAll_arm (hapart : s.holdsApart) (n : ArmId) :
    (s.startedAll).arm n =
      if s.armState n = .armed ∨ s.armState n = .halted then s.startedArm n (s.arm n) else s.arm n := by
  have harms : (renewDeadman (emptyDigits s)).arms = s.arms := by simp
  have hsame : ∀ m, (renewDeadman (emptyDigits s)).arm m = s.arm m := fun m => arm_of_arms harms m
  have hapart' : (renewDeadman (emptyDigits s)).holdsApart := fun n m hnm => by
    rw [hsame, hsame]
    exact hapart n m hnm
  have hheld : (renewDeadman (emptyDigits s)).heldComp n = s.heldComp n :=
    heldComp_congr (congrArg Arm.held (hsame n)) rfl
  have hstarted : (renewDeadman (emptyDigits s)).startedArm n (s.arm n) = s.startedArm n (s.arm n) := by
    rw [State.startedArm, State.startedArm, State.heldGross, State.heldGross, hheld]
  rw [State.startedAll, (swept_start _ hapart').arm n, hsame, hstarted]
  refine if_congr ?_ rfl rfl
  simp only [mem_allArms n, true_and, State.armState, hsame, Bool.or_eq_true, beq_iff_eq]

theorem startedAll_comp (hapart : s.holdsApart) {c : Comp} (hstate : s.armState n = .armed) (hc : s.heldComp n = some c) :
    c.started (s.arm n).totalizer ∈ s.startedAll.session.comps := by
  have harms : (renewDeadman (emptyDigits s)).arms = s.arms := by simp
  have hsame : ∀ m, (renewDeadman (emptyDigits s)).arm m = s.arm m := fun m => arm_of_arms harms m
  have hapart' : (renewDeadman (emptyDigits s)).holdsApart := fun n m hnm => by
    rw [hsame, hsame]
    exact hapart n m hnm
  have hheld := held_of_heldComp hc
  obtain ⟨F, hF, hsweep⟩ := (swept_start _ hapart').comps
  have hone : F c = (renewDeadman (emptyDigits s)).startedComp n c := by
    refine (hsweep c).one (n := n) (by decide) (mem_allArms n) ?_ (by rw [hsame, hheld]) fun m hm => ?_
    · rw [State.armState, hsame]
      exact Bool.or_eq_true_iff.2 (.inl (beq_iff_eq.2 hstate))
    · rw [hsame, ← hheld]
      exact fun h => hapart n m (Ne.symm hm) (by rw [hheld]; exact Option.some_ne_none _) h.symm
  have hstarted : (renewDeadman (emptyDigits s)).startedComp n c = c.started (s.arm n).totalizer := by
    rw [State.startedComp, State.armState, hsame]
    exact if_pos hstate
  rw [State.startedAll, hF, ← hstarted, ← hone]
  exact List.mem_map_of_mem (mem_of_heldComp hc)

theorem startedAll_same (s : State) :
    s.startedAll.session = { s.session with digits := [], comps := s.startedAll.session.comps } ∧
      s.startedAll.permissive =
        { s.permissive with
          deadman := .live, warnAt := some (s.clock.ms + BitVec.ofNat 32 75000)
          expireAt := some (s.clock.ms + BitVec.ofNat 32 90000) } ∧
      s.startedAll.cmdQueue.filter Cmd.isDisplay = s.cmdQueue.filter Cmd.isDisplay ∧
      s.startedAll = { s with
        arms := s.startedAll.arms, session := s.startedAll.session, permissive := s.startedAll.permissive
        cmdQueue := s.startedAll.cmdQueue } := by
  rw [State.startedAll]
  refine ⟨forArms_startOne_session _, by simp; rfl, ?_, ?_⟩
  · refine (forArms_keeps (fun t : State => t.cmdQueue.filter Cmd.isDisplay) startOne startOne_displays _).trans ?_
    simp
  · rw [state_eq_iff]
    simp

/-- What `startKey` makes of a state in RUN with health is what `startedAll` makes of it, and a DISPLAY. -/
theorem startKey_eq (habort : s.session.hostAbort = false) (hmode : s.mode = .run)
    (hhealthy : s.permissive.healthy = true) :
    startKey s = { s.startedAll with cmdQueue := (startKey s).cmdQueue } := by
  rw [startKey_of_run habort hmode hhealthy]
  generalize s.startedAll = u
  split
  · exact display_eq 16 _
  · rfl

end

end Sys2Proof.Machine
end

section
/-! ### STOP and END (R15, R16) -/

namespace Sys2Proof.Machine

/-! #### Counting the arms of a choice (R152) -/

section
variable {s t : State} {bank : Bank} {p q : ArmId → Bool}

theorem freedIn_eq_capturedBy (s : State) (p : ArmId → Bool) (bank : Bank) :
    s.freedIn Comp.bank [.a4, .a3, .a2, .a1] p bank = s.capturedBy bank p := by
  have hperm : List.Perm [ArmId.a4, .a3, .a2, .a1] [ArmId.a1, .a2, .a3, .a4] := List.reverse_perm [ArmId.a1, .a2, .a3, .a4]
  exact (hperm.filter _).length_eq

theorem capturedBy_congr
    (h : ∀ n, (p n && ((t.heldComp n).bind Comp.bank) == some bank) = (q n && ((s.heldComp n).bind Comp.bank) == some bank)) :
    t.capturedBy bank p = s.capturedBy bank q :=
  congrArg List.length (List.filter_congr fun n _ => h n)

theorem length_filter_or {α : Type} (l : List α) (f g : α → Bool) (h : ∀ x, f x = true → g x = false) :
    (l.filter fun x => f x || g x).length = (l.filter f).length + (l.filter g).length := by
  induction l with
  | nil => rfl
  | cons x l ih =>
    cases hf : f x
    · cases hg : g x <;> simp [hf, hg, ih]
      omega
    · simp [hf, h x hf, ih]
      omega

/-- Arms of two choices with no arm in common are counted apart. -/
theorem capturedBy_or (s : State) (bank : Bank) (h : ∀ n, p n = true → q n = false) :
    s.capturedBy bank (fun n => p n || q n) = s.capturedBy bank p + s.capturedBy bank q := by
  rw [State.capturedBy, State.capturedBy, State.capturedBy, ← length_filter_or]
  · exact congrArg List.length (List.filter_congr fun n _ => Bool.and_or_distrib_right _ _ _)
  · intro n hn
    rw [h n (Bool.and_eq_true_iff.1 hn).1, Bool.false_and]

/-- Two sweeps that free banks, one after the other. -/
theorem Swept.banks_of_two {a b : ArmId → Arm → Arm} {R T : ArmId → Comp → Comp → Prop} {u v : State} {r : ArmId → Bool}
    (h : Swept Comp.bank s t [.a4, .a3, .a2, .a1] p a R) (hs : s.holdsApart) (hbanks : u.banks = t.banks)
    (h' : Swept Comp.bank u v [.a4, .a3, .a2, .a1] q b T) (hu : u.holdsApart)
    (hcount : ∀ bank, s.capturedBy bank p + u.capturedBy bank q = s.capturedBy bank r) :
    v.banks =
      { s.banks with
        countA := s.banks.countA - s.capturedBy .a r, countB := s.banks.countB - s.capturedBy .b r } := by
  rw [h'.banks hu, hbanks, h.banks hs, ← hcount, ← hcount, ← Nat.sub_sub, ← Nat.sub_sub]
  simp only [freedIn_eq_capturedBy]

end

/-- Two changes of a session's compartments and idle base. -/
theorem session_trans {x y z : Session} (h : y = { x with comps := y.comps, idleBase := y.idleBase })
    (h' : z = { y with comps := z.comps, idleBase := z.idleBase }) :
    z = { x with comps := z.comps, idleBase := z.idleBase } :=
  h'.trans (by rw [h])

theorem session_of_comps {x y : Session} {comps : List Comp} (h : y = { x with comps := comps }) :
    y = { x with comps := y.comps, idleBase := y.idleBase } := by
  rw [h]

/-! #### What the ARMED arms give back -/

section
variable {s : State} {n : ArmId} {c : Comp}

theorem disarmAll_arm (s : State) (n : ArmId) :
    (disarmAll s).arm n = if s.armState n = .armed then (s.arm n).disarmed else s.arm n := by
  rw [(swept_disarmAll s).arm n]
  refine if_congr ?_ rfl rfl
  rw [beq_iff_eq]
  exact and_iff_right (mem_allArms n)

theorem disarmAll_armState (s : State) (n : ArmId) :
    (disarmAll s).armState n = if s.armState n = .armed then .idle else s.armState n := by
  rw [State.armState, disarmAll_arm]
  split <;> rfl

theorem disarmAll_held (s : State) (n : ArmId) :
    ((disarmAll s).arm n).held = if s.armState n = .armed then none else (s.arm n).held := by
  rw [disarmAll_arm]
  split <;> rfl

theorem holdsApart_of_held {s t : State} (h : s.holdsApart)
    (hheld : ∀ n, (t.arm n).held = none ∨ (t.arm n).held = (s.arm n).held) : t.holdsApart := by
  intro n m hnm hn hsame
  rcases hheld n with h1 | h1
  · exact hn h1
  · rcases hheld m with h2 | h2
    · exact hn (hsame.trans h2)
    · exact h n m hnm (h1 ▸ hn) ((h1 ▸ hsame).trans h2)

theorem disarmAll_apart (h : s.holdsApart) : (disarmAll s).holdsApart :=
  holdsApart_of_held h fun n => by
    rw [disarmAll_held]
    split
    · exact .inl rfl
    · exact .inr rfl

/-- The compartments: those of ARMED arms are given back, the others stay. -/
theorem disarmAll_comps (s : State) :
    ∃ F : Comp → Comp, (disarmAll s).session.comps = s.session.comps.map F ∧ (∀ c, (F c).number = c.number) ∧
      (∀ c n, s.armState n = .armed → (s.arm n).held = some c.number → F c = c.givenBack) ∧
      ∀ c, (∀ n, s.armState n = .armed → (s.arm n).held ≠ some c.number) → F c = c := by
  obtain ⟨F, hF, hsweep⟩ := (swept_disarmAll s).comps
  refine ⟨F, hF, fun c => (hsweep c).number fun _ x y h => h ▸ rfl, fun c n hn hheld => ?_, fun c hno => ?_⟩
  · have hkeep : (F c).givenBack = c.givenBack :=
      (hsweep c).keeps (Q := fun y => y.givenBack = c.givenBack) (fun _ x y h hx => h ▸ hx) rfl
    have hmake : F c = (F c).givenBack :=
      (hsweep c).makes (mem_allArms n) (beq_iff_eq.2 hn) hheld (Q := fun y => y = y.givenBack) (fun x y h => h ▸ rfl)
        fun _ x y h _ => h ▸ rfl
    exact hmake.trans hkeep
  · exact (hsweep c).eq_of_none fun n _ hn => hno n (beq_iff_eq.1 hn)

theorem disarmAll_heldComp (h : s.holdsApart) (hn : s.armState n ≠ .armed) : (disarmAll s).heldComp n = s.heldComp n :=
  (swept_disarmAll s).heldComp_of_apart (fun _ _ _ h => h ▸ rfl) (fun hh => hn (beq_iff_eq.1 hh.2)) h

/-- The compartments after a sweep of releases. -/
theorem released_comps {t : State} {q : ArmId → Bool}
    (h : Swept Comp.bank s t [.a4, .a3, .a2, .a1] q (fun _ a => a.released none)
      fun n => Comp.EndsShort (s.arm n).totalizer) :
    ∃ F : Comp → Comp, t.session.comps = s.session.comps.map F ∧ (∀ c, (F c).number = c.number) ∧
      (∀ c, (F c).flags.halted = c.flags.halted) ∧ (∀ c, c.state ≠ .pending → (F c).state ≠ .pending) ∧
      (∀ c n, q n = true → (s.arm n).held = some c.number → (F c).state = .short ∧ (F c).flags.short = true) ∧
      (∀ (c : Comp) n, q n = true → (s.arm n).held = some c.number → s.holdsApart → c.EndsShort (s.arm n).totalizer (F c)) ∧
      ∀ c, (∀ n, q n = true → (s.arm n).held ≠ some c.number) → F c = c := by
  obtain ⟨F, hF, hsweep⟩ := h.comps
  refine ⟨F, hF, fun c => ?_, fun c => ?_, fun c hc => ?_, fun c n hn hheld => ?_, fun c n hn hheld hapart => ?_,
    fun c hno => ?_⟩
  · exact (hsweep c).number fun n x y hR => hR.spec.1
  · exact (hsweep c).keeps (Q := fun y => y.flags.halted = c.flags.halted)
      (fun n x y hR hx => hR.spec.2.2.2.2.trans hx) rfl
  · exact (hsweep c).keeps (Q := fun y => y.state ≠ .pending)
      (fun n x y hR _ => by rw [hR.spec.2.1]; decide) hc
  · exact (hsweep c).makes (mem_allArms n) hn hheld (Q := fun y => y.state = .short ∧ y.flags.short = true)
      (fun x y hR => ⟨hR.spec.2.1, hR.spec.2.2.1⟩) fun _ x y hR _ => ⟨hR.spec.2.1, hR.spec.2.2.1⟩
  · exact (hsweep c).one (by decide) (mem_allArms n) hn hheld fun m hm hmheld =>
      hapart n m (Ne.symm hm) (by rw [hheld]; exact Option.some_ne_none _) (hheld.trans hmheld.symm)
  · exact (hsweep c).eq_of_none fun n _ hn => hno n hn

/-- A PENDING compartment is NOT LOADED when the session ends (R16, R20). -/
def Comp.endPending (c : Comp) : Comp := if c.state = .pending then { c with state := .notLoaded } else c

theorem pendingNotLoaded_comps (s : State) : (pendingNotLoaded s).session.comps = s.session.comps.map Comp.endPending := rfl

theorem endPending_number (c : Comp) : c.endPending.number = c.number := by
  unfold Comp.endPending
  split <;> rfl

theorem endPending_bank (c : Comp) : c.endPending.bank = c.bank := by
  unfold Comp.endPending
  split <;> rfl

theorem endPending_state (c : Comp) : c.endPending.state ≠ .pending := by
  unfold Comp.endPending
  split
  · exact CompState.noConfusion
  · assumption

theorem endPending_of_pending (h : c.state = .pending) : c.endPending = { c with state := .notLoaded } := if_pos h

theorem endPending_of_not (h : c.state ≠ .pending) : c.endPending = c := if_neg h

theorem endPending_givenBack (c : Comp) :
    c.givenBack.endPending = { c with state := .notLoaded, arm := none, bank := none, additive := ⟨none, none⟩ } := rfl

end

/-! #### STOP -/

/-- STOP before its DISPLAY (R15). -/
@[irreducible] def State.stoppedAll (s : State) : State := disarmAll (offerMoving .driverStop (emptyDigits s))

section
variable {s : State} {n : ArmId}

theorem stopKey_eq (s : State) : stopKey s = display 17 s.stoppedAll := by
  rw [State.stoppedAll]
  rfl

theorem haltMoving_arm (s : State) (n : ArmId) :
    (offerMoving .driverStop (emptyDigits s)).arm n =
      if (s.armState n).isMoving = true then s.haltedArm n { (s.arm n).causes with driverStop := true } else s.arm n :=
  (offered_moving (emptyDigits s) .driverStop).arms n

theorem haltMoving_armState (s : State) (n : ArmId) :
    (offerMoving .driverStop (emptyDigits s)).armState n = if (s.armState n).isMoving = true then .halted else s.armState n := by
  rw [State.armState, haltMoving_arm]
  split <;> rfl

theorem haltMoving_armed (s : State) (n : ArmId) :
    (offerMoving .driverStop (emptyDigits s)).armState n = .armed ↔ s.armState n = .armed := by
  rw [haltMoving_armState]
  cases s.armState n <;> simp [ArmState.isMoving]

theorem haltMoving_apart (h : s.holdsApart) : (offerMoving .driverStop (emptyDigits s)).holdsApart :=
  holdsApart_of_held h fun n => .inr ((offered_moving (emptyDigits s) .driverStop).held n)

theorem haltMoving_comps (s : State) :
    ∃ F : Comp → Comp, (offerMoving .driverStop (emptyDigits s)).session.comps = s.session.comps.map F ∧
      ∀ c, (F c).number = c.number ∧ (F c).bank = c.bank := by
  have hsame := congrArg (fun t : State => t.session.comps) (offered_moving (emptyDigits s) .driverStop).same
  refine ⟨_, hsame, fun c => ?_⟩
  dsimp only
  split <;> exact ⟨rfl, rfl⟩

theorem haltMoving_bank (s : State) (n : ArmId) :
    ((offerMoving .driverStop (emptyDigits s)).heldComp n).bind Comp.bank = (s.heldComp n).bind Comp.bank := by
  obtain ⟨F, hF, hkeep⟩ := haltMoving_comps s
  rw [heldComp_of_map (s := s) ((offered_moving (emptyDigits s) .driverStop).held n) hF fun c => (hkeep c).1]
  cases s.heldComp n with
  | none => rfl
  | some c => exact (hkeep c).2

/-- The arms after STOP (R15). -/
theorem stoppedAll_arm (s : State) (n : ArmId) :
    ((s.armState n).isMoving = true →
      s.stoppedAll.arm n = s.haltedArm n { (s.arm n).causes with driverStop := true }) ∧
    (s.armState n = .armed → s.stoppedAll.arm n = (s.arm n).disarmed) ∧
    ((s.armState n).isMoving = false → s.armState n ≠ .armed → s.stoppedAll.arm n = s.arm n) := by
  have harm := disarmAll_arm (offerMoving .driverStop (emptyDigits s)) n
  rw [← State.stoppedAll] at harm
  rw [if_congr (haltMoving_armed s n) rfl rfl, haltMoving_arm] at harm
  refine ⟨fun hmoving => ?_, fun harmed => ?_, fun hmoving harmed => ?_⟩
  · rw [harm, if_neg fun h => by rw [h] at hmoving; exact Bool.false_ne_true hmoving, if_pos hmoving]
  · rw [harm, if_pos harmed, if_neg (by rw [harmed]; decide)]
  · rw [harm, if_neg harmed, if_neg (by rw [hmoving]; decide)]

/-- The compartments that STOP gives back (R15). -/
theorem stoppedAll_givenBack {c : Comp} (h : s.armState n = .armed) (hc : s.heldComp n = some c) :
    ∃ y ∈ s.stoppedAll.session.comps, y.number = c.number ∧ y.state = .pending ∧ y.arm = none ∧ y.bank = none ∧
      y.additive = ⟨none, none⟩ := by
  obtain ⟨F, hF, hkeep⟩ := haltMoving_comps s
  obtain ⟨G, hG, -, hback, -⟩ := disarmAll_comps (offerMoving .driverStop (emptyDigits s))
  have hheld : ((offerMoving .driverStop (emptyDigits s)).arm n).held = some (F c).number := by
    rw [(hkeep c).1]
    exact ((offered_moving (emptyDigits s) .driverStop).held n).trans (held_of_heldComp hc)
  refine ⟨(F c).givenBack, ?_, (hkeep c).1, rfl, rfl, rfl, rfl⟩
  rw [State.stoppedAll, hG, hF, ← hback (F c) n ((haltMoving_armed s n).2 h) hheld]
  exact List.mem_map_of_mem (List.mem_map_of_mem (mem_of_heldComp hc))

theorem stoppedAll_banks (h : s.holdsApart) :
    s.stoppedAll.banks =
      { s.banks with
        countA := s.banks.countA - s.capturedBy .a fun n => s.armState n == .armed
        countB := s.banks.countB - s.capturedBy .b fun n => s.armState n == .armed } := by
  have hcount : ∀ bank, (offerMoving .driverStop (emptyDigits s)).freedIn Comp.bank [.a4, .a3, .a2, .a1]
      (fun n => (offerMoving .driverStop (emptyDigits s)).armState n == .armed) bank =
      s.capturedBy bank fun n => s.armState n == .armed := by
    intro bank
    rw [freedIn_eq_capturedBy]
    refine capturedBy_congr fun n => ?_
    rw [haltMoving_bank]
    congr 1
    rw [Bool.eq_iff_iff, beq_iff_eq, beq_iff_eq, haltMoving_armed]
  have hbanks : (offerMoving .driverStop (emptyDigits s)).banks = s.banks := by simp
  rw [State.stoppedAll, (swept_disarmAll _).banks (haltMoving_apart h), hcount, hcount, hbanks]

theorem stoppedAll_same (s : State) :
    s.stoppedAll.session =
      { s.session with
        digits := [], comps := s.stoppedAll.session.comps, idleBase := s.stoppedAll.session.idleBase } ∧
      s.stoppedAll = { s with
        arms := s.stoppedAll.arms, session := s.stoppedAll.session, banks := s.stoppedAll.banks
        cmdQueue := s.stoppedAll.cmdQueue } := by
  rw [State.stoppedAll]
  refine ⟨?_, ?_⟩
  · have hsession := congrArg State.session (offered_moving (emptyDigits s) .driverStop).same
    exact session_trans (x := (emptyDigits s).session) (session_of_comps hsession) (swept_disarmAll _).session
  · rw [state_eq_iff]
    simp

end

/-! #### END -/

/-- END once the ARMED arms are given back and the HALTED ones released (R16). -/
@[irreducible] def State.endedAll (s : State) : State := forArms endHalted (disarmAll s)

section
variable {s : State} {n : ArmId}

theorem endKey_of_inactive (habort : s.session.hostAbort = false) (h : ∀ n, (s.armState n).isActive = false) :
    endKey s = enterEnding (pendingNotLoaded (emptyDigits s).endedAll) := by
  have hbay : s.bayActive = false := by
    rw [State.bayActive, Bool.eq_false_iff, Ne, any_armIds_iff]
    rintro ⟨n, hn⟩
    exact Bool.false_ne_true ((h n).symm.trans hn)
  unfold endKey
  simp [habort, hbay, State.endedAll]

theorem endKey_of_active (habort : s.session.hostAbort = false) (h : ∃ n, (s.armState n).isActive = true) :
    endKey s = display 20 (emptyDigits s) := by
  have hbay : s.bayActive = true := (any_armIds_iff _).2 h
  unfold endKey
  simp [habort, hbay, msgArmsActive]

theorem swept_endHalted (s : State) :
    Swept Comp.bank s (forArms endHalted s) [.a4, .a3, .a2, .a1]
      (fun n => s.armState n == .halted && (s.heldComp n).isSome) (fun _ a => a.released none)
      (fun n => Comp.EndsShort (s.arm n).totalizer) := by
  have hf : ∀ n t, endHalted n t = if t.armState n = .halted ∧ (fun _ => true) (t.arm n) = true then
      release n none (shortHeld n t) else t := fun n t => if_congr (and_iff_left rfl).symm rfl rfl
  have h := swept_release (f := endHalted) (q := fun _ => true) s hf
  simpa only [Bool.and_true] using h

theorem disarmAll_halted (s : State) (n : ArmId) : (disarmAll s).armState n = .halted ↔ s.armState n = .halted := by
  rw [disarmAll_armState]
  split
  next h => rw [h]; decide
  next => rfl

theorem disarmAll_arm_of_halted (h : s.armState n = .halted) : (disarmAll s).arm n = s.arm n := by
  rw [disarmAll_arm, if_neg (by rw [h]; decide)]

/-- The arms after END (R16). -/
theorem endedAll_arm (h : s.holdsApart) (n : ArmId) :
    (s.armState n = .armed → s.endedAll.arm n = (s.arm n).disarmed) ∧
    (∀ c, s.armState n = .halted → s.heldComp n = some c → s.endedAll.arm n = (s.arm n).released none) ∧
    (s.armState n = .idle ∨ s.armState n = .blocked → s.endedAll.arm n = s.arm n) := by
  have harm := (swept_endHalted (disarmAll s)).arm n
  rw [← State.endedAll] at harm
  rw [if_congr (and_iff_right (mem_allArms n)) rfl rfl] at harm
  simp only [Bool.and_eq_true, beq_iff_eq, disarmAll_halted] at harm
  refine ⟨fun ha => ?_, fun c ha hc => ?_, fun ha => ?_⟩
  · rw [harm, if_neg (fun hh => by rw [ha] at hh; exact absurd hh.1 (by decide)), disarmAll_arm, if_pos ha]
  · have hheld := disarmAll_heldComp h (n := n) (by rw [ha]; decide)
    rw [harm, if_pos ⟨ha, by rw [hheld, hc]; rfl⟩, disarmAll_arm_of_halted ha]
  · have hne : s.armState n ≠ .halted ∧ s.armState n ≠ .armed := by
      rcases ha with ha | ha <;> rw [ha] <;> decide
    rw [harm, if_neg fun hh => hne.1 hh.1, disarmAll_arm, if_neg hne.2]

/-- The compartments after END, those PENDING not yet NOT LOADED (R16). -/
theorem endedAll_comps (h : s.holdsApart) :
    ∃ F : Comp → Comp, s.endedAll.session.comps = s.session.comps.map F ∧
      (∀ c n, s.armState n = .armed → (s.arm n).held = some c.number → F c = c.givenBack) ∧
      (∀ c n, s.armState n = .halted → s.heldComp n = some c → c.EndsShort (s.arm n).totalizer (F c)) ∧
      ∀ c, (∀ n, (s.arm n).held ≠ some c.number) → F c = c := by
  obtain ⟨F, hF, hnumber, hback, hsame⟩ := disarmAll_comps s
  obtain ⟨G, hG, -, -, -, -, hshort, hstay⟩ := released_comps (swept_endHalted (disarmAll s))
  have hheld : ∀ n k, ((disarmAll s).arm n).held = some k → (s.arm n).held = some k := by
    intro n k hk
    rw [disarmAll_held] at hk
    split at hk
    · exact nomatch hk
    · exact hk
  refine ⟨fun c => G (F c), by rw [State.endedAll, hG, hF, List.map_map]; rfl, fun c n ha hn => ?_, fun c n ha hc => ?_,
    fun c hno => ?_⟩
  · have hfree : G (F c) = F c := hstay _ fun m hm hmheld => by
      rw [hnumber] at hmheld
      have hne : n ≠ m := fun hnm => by
        rw [← hnm, disarmAll_held, if_pos ha] at hmheld
        exact nomatch hmheld
      exact h n m hne (by rw [hn]; exact Option.some_ne_none _) (hn.trans (hheld m _ hmheld).symm)
    exact hfree.trans (hback c n ha hn)
  · have hn := held_of_heldComp hc
    have hkeep : F c = c := hsame c fun m hm hmheld => by
      have hne : n ≠ m := fun hnm => by
        rw [← hnm, ha] at hm
        exact absurd hm (by decide)
      exact h n m hne (by rw [hn]; exact Option.some_ne_none _) (hn.trans hmheld.symm)
    have hq : ((disarmAll s).armState n == .halted && ((disarmAll s).heldComp n).isSome) = true := by
      rw [disarmAll_heldComp h (by rw [ha]; decide), hc, Option.isSome_some, Bool.and_true, beq_iff_eq, disarmAll_halted]
      exact ha
    dsimp only
    rw [hkeep, ← disarmAll_arm_of_halted ha]
    exact hshort c n hq (by rw [disarmAll_arm_of_halted ha, hn]) (disarmAll_apart h)
  · dsimp only
    rw [hsame c fun n _ => hno n]
    exact hstay c fun n _ hn => hno n (hheld n _ hn)

theorem endedAll_banks (h : s.holdsApart) :
    s.endedAll.banks =
      { s.banks with
        countA := s.banks.countA - s.capturedBy .a fun n => s.armState n == .armed || s.armState n == .halted
        countB := s.banks.countB - s.capturedBy .b fun n => s.armState n == .armed || s.armState n == .halted } := by
  rw [State.endedAll]
  refine (swept_disarmAll s).banks_of_two h rfl (swept_endHalted (disarmAll s)) (disarmAll_apart h) fun bank => ?_
  rw [capturedBy_or s bank fun n hn => by rw [beq_iff_eq.1 hn]; decide]
  congr 1
  refine capturedBy_congr fun n => ?_
  by_cases ha : s.armState n = .halted
  · rw [(disarmAll_halted s n).2 ha, ha, disarmAll_heldComp h (by rw [ha]; decide)]
    cases s.heldComp n <;> rfl
  · rw [beq_false_of_ne ha, beq_false_of_ne fun hd => ha ((disarmAll_halted s n).1 hd)]
    rfl

/-- What entry to ENDING makes of a state with nothing PENDING left (R16, R21). -/
theorem endedAll_same (s : State) :
    s.endedAll.session =
      { s.session with comps := s.endedAll.session.comps, idleBase := s.endedAll.session.idleBase } ∧
      s.endedAll = { s with
        arms := s.endedAll.arms, session := s.endedAll.session, banks := s.endedAll.banks
        dosing := s.endedAll.dosing, status := s.endedAll.status } := by
  rw [State.endedAll]
  refine ⟨?_, ?_⟩
  · exact session_trans (swept_disarmAll s).session (swept_endHalted (disarmAll s)).session
  · rw [state_eq_iff]
    simp

end

end Sys2Proof.Machine
end

section
/-! ### The keys START, STOP and END (R14 to R16) -/

namespace Sys2Proof.Machine

section
variable {s : State}

theorem compileBegun_of_notes {s t : State} (h : t.notes = s.notes) : t.compileBegun = s.compileBegun := by
  rw [State.compileBegun, State.compileBegun, h]

/-- END of an OPEN session with no active arm, field by field (R16, R21). -/
theorem endedAll_enterEnding (s : State) :
    enterEnding (pendingNotLoaded s.endedAll) =
      { s with
        arms := s.endedAll.arms
        session :=
          { s.session with
            state := .ending, closeTime := some (s.clock.day, s.clock.second), idleBase := none
            comps := s.endedAll.session.comps.map Comp.endPending }
        banks := s.endedAll.banks, dosing := s.endedAll.dosing, notes := s.compileBegun, status := s.endedAll.status } := by
  obtain ⟨hsession, hsame⟩ := endedAll_same s
  have hnotes : (pendingNotLoaded s.endedAll).compileBegun = s.compileBegun := compileBegun_of_notes
    ((pendingNotLoaded_leaves _).2.2.2.2.2.2.2.2.2.2.1.trans (by rw [hsame]))
  have hended : (pendingNotLoaded s.endedAll).session =
      { s.session with
        comps := s.endedAll.session.comps.map Comp.endPending, idleBase := s.endedAll.session.idleBase } :=
    congrArg (fun x : Session => { x with comps := s.endedAll.session.comps.map Comp.endPending }) hsession
  rw [enterEnding_eq, hnotes, hended]
  generalize s.endedAll = u at *
  rw [hsame]
  rfl

/-- START in RUN with health, arm by arm (R14, R50, R60). -/
theorem startKey_arms (habort : s.session.hostAbort = false) (hmode : s.mode = .run)
    (hhealthy : s.permissive.healthy = true) (hapart : s.holdsApart) (n : ArmId) :
    (s.armState n = .armed → ∀ c, s.heldComp n = some c →
      (startKey s).arm n = (s.arm n).started ∧ c.started (s.arm n).totalizer ∈ (startKey s).session.comps) ∧
    (s.armState n = .halted →
      ((s.arm n).settled = true → (s.arm n).causes.afterStart = {} → ∀ c, s.heldComp n = some c →
        (startKey s).arm n = { (s.arm n).resumed c.gross with causes := {} }) ∧
      (((s.arm n).settled = false ∨ (s.arm n).causes.afterStart ≠ {}) →
        (startKey s).arm n = { s.arm n with causes := (s.arm n).causes.afterStart })) ∧
    (s.armState n ≠ .armed → s.armState n ≠ .halted → (startKey s).arm n = s.arm n) := by
  have heq := startKey_eq habort hmode hhealthy
  have harm : (startKey s).arm n = s.startedAll.arm n := by rw [heq]; rfl
  have hcomps : (startKey s).session.comps = s.startedAll.session.comps := by rw [heq]
  rw [harm, hcomps, startedAll_arm hapart]
  refine ⟨fun ha c hc => ⟨?_, startedAll_comp hapart ha hc⟩, fun hh => ⟨fun hsettled hleft c hc => ?_, fun hstay => ?_⟩,
    fun ha hh => if_neg (not_or.2 ⟨ha, hh⟩)⟩
  · rw [if_pos (.inl ha), startedArm_of_armed ha]
  · rw [if_pos (.inr hh), startedArm_of_halted hh, if_pos ((canResume_iff _).2 ⟨hsettled, hleft⟩), State.heldGross, hc,
      ← hleft]
    rfl
  · rw [if_pos (.inr hh), startedArm_of_halted hh, if_neg fun hr => ?_]
    obtain ⟨hsettled, hleft⟩ := (canResume_iff _).1 hr
    rcases hstay with hno | hno
    · exact Bool.false_ne_true (hno.symm.trans hsettled)
    · exact hno hleft

theorem startKey_same (habort : s.session.hostAbort = false) (hmode : s.mode = .run)
    (hhealthy : s.permissive.healthy = true) :
    startKey s = { s with
      arms := (startKey s).arms, session := (startKey s).session, permissive := (startKey s).permissive
      cmdQueue := (startKey s).cmdQueue } := by
  have heq := startKey_eq habort hmode hhealthy
  obtain ⟨-, -, -, hsame⟩ := startedAll_same s
  generalize s.startedAll = u at *
  rw [hsame] at heq
  rw [heq]

/-- Whether START asks for LOADING (R14). -/
theorem startKey_display (habort : s.session.hostAbort = false) (hmode : s.mode = .run)
    (hhealthy : s.permissive.healthy = true) :
    ((∃ n, s.startMoves n = true) → startKey s = display 16 s.startedAll) ∧
    ((¬∃ n, s.startMoves n = true) → startKey s = s.startedAll) := by
  rw [startKey_of_run habort hmode hhealthy]
  exact ⟨fun h => if_pos ((any_armIds_iff _).2 h), fun h => if_neg fun hany => h ((any_armIds_iff _).1 hany)⟩

theorem haltedArm_moving {n : ArmId} (h : (s.armState n).isMoving = true) (causes : Causes) :
    (s.haltedArm n causes).closeTime = some s.clock.ms ∧ (s.haltedArm n causes).haltEntry = some s.clock.ms := by
  rw [State.haltedArm, if_pos h]
  exact ⟨rfl, rfl⟩

end

/-- Settles O55: each key is a sweep of its own step over the arms, followed field by field. -/
theorem startMovesArmedAndSettledArms : Obligations.StartMovesArmedAndSettledArms := by
  refine ⟨fun s habort => ⟨fun hmode => ?_, fun hmode hhealthy => ?_, fun hmode hhealthy hapart => ?_⟩,
    fun s habort => ⟨?_, ?_⟩, fun s hopen => ?_, fun s hapart => ⟨⟨s.stoppedAll, stopKey_eq s, fun n => ?_,
      stoppedAll_banks hapart, (stoppedAll_same s).1, (stoppedAll_same s).2⟩, endKey_of_active, fun habort hidle => ?_⟩⟩
  case refine_1 =>
    have hopen : ¬s.session.hostAbort = true := by rw [habort]; decide
    exact (if_neg hopen).trans (if_pos hmode)
  case refine_2 =>
    have hopen : ¬s.session.hostAbort = true := by rw [habort]; decide
    exact (if_neg hopen).trans ((if_neg (not_not.2 hmode)).trans (if_pos (by simp [hhealthy])))
  case refine_3 =>
    have heq := startKey_eq habort hmode hhealthy
    obtain ⟨hsession, hpermissive, hdisplays, -⟩ := startedAll_same s
    obtain ⟨hmoves, hstays⟩ := startKey_display habort hmode hhealthy
    have harms := startKey_arms habort hmode hhealthy hapart
    intro t
    refine ⟨?_, fun n => ?_⟩
    · exact (congrArg State.permissive heq).trans hpermissive
    · obtain ⟨harmed, hhalted, hother⟩ := harms n
      refine ⟨fun ha c hc => ?_, hhalted, hother, ?_, ?_, ?_⟩
      · obtain ⟨harm, hcomp⟩ := harmed ha c hc
        exact ⟨harm, _, hcomp, rfl, rfl, rfl, rfl, rfl, rfl⟩
      · exact (congrArg State.session heq).trans (hsession.trans (by rw [congrArg State.session heq]))
      · refine ⟨s.startedAll, fun ⟨m, hm⟩ => hmoves ⟨m, (startMoves_iff s m).2 hm⟩,
          fun hno => hstays fun ⟨m, hm⟩ => hno ⟨m, (startMoves_iff s m).1 hm⟩, hdisplays⟩
      · exact startKey_same habort hmode hhealthy
  case refine_4 => exact if_pos habort
  case refine_5 => exact if_pos habort
  case refine_6 =>
    have hmark : markKey s =
        { s with session := { s.session with lastKey := some s.clock.ms, idleBase := some s.clock.ms } } := by
      have hbase : (if s.session.state = .opened then some s.now else s.session.idleBase) = some s.now := if_pos hopen
      exact congrArg (fun i => { s with session := { s.session with lastKey := some s.clock.ms, idleBase := i } }) hbase
    unfold keyEvent
    simp only [hopen, hmark]
    exact ⟨rfl, rfl, rfl⟩
  case refine_7 =>
    obtain ⟨hmoving, harmed, hother⟩ := stoppedAll_arm s n
    refine ⟨fun h => ?_, fun h => ⟨harmed h, fun c hc => stoppedAll_givenBack h hc⟩, hother⟩
    obtain ⟨hclose, hentry⟩ := haltedArm_moving h { (s.arm n).causes with driverStop := true }
    rw [State.armState, hmoving h]
    exact ⟨rfl, haltedArm_commanded s n _ h, haltedArm_held s n _, rfl, hclose, hentry⟩
  case refine_8 =>
    obtain ⟨F, hF, hback, hshort, hstay⟩ := endedAll_comps (s := emptyDigits s) hapart
    have heq : endKey s = _ := (endKey_of_inactive habort hidle).trans (endedAll_enterEnding _)
    have hcomps : (endKey s).session.comps = (s.session.comps.map F).map Comp.endPending := by
      rw [heq]
      exact congrArg (List.map Comp.endPending) hF
    have hsame : endKey s = { s with
        arms := (endKey s).arms, session := (endKey s).session, banks := (endKey s).banks
        dosing := (endKey s).dosing, notes := (endKey s).notes, status := (endKey s).status } := by
      rw [heq]
      rfl
    have hmem : ∀ c ∈ s.session.comps, (F c).endPending ∈ (endKey s).session.comps := fun c hc => by
      rw [hcomps]
      exact List.mem_map_of_mem (List.mem_map_of_mem hc)
    have harm : ∀ n, (endKey s).arm n = (emptyDigits s).endedAll.arm n := fun n => by
      rw [heq]
      rfl
    have harms := endedAll_arm (s := emptyDigits s) hapart
    intro t
    refine ⟨congrArg (fun u : State => u.session.state) heq, congrArg (fun u : State => u.session.closeTime) heq,
      congrArg (fun u : State => u.session.digits) heq, congrArg State.notes heq, fun y hy => ?_, fun n => ⟨fun ha => ?_,
      fun c hh hc => ?_, fun hother => ?_⟩, fun c hc hpending hno => ?_, ?_, ?_⟩
    · rw [hcomps] at hy
      obtain ⟨c, -, rfl⟩ := List.mem_map.1 hy
      exact endPending_state c
    · refine ⟨(harm n).trans ((harms n).1 ha), fun c hc => ⟨_, hmem c (mem_of_heldComp hc), ?_⟩⟩
      rw [hback c n ha (held_of_heldComp hc)]
      exact ⟨rfl, rfl, rfl, rfl⟩
    · have hreleased : t.arm n = _ := (harm n).trans ((harms n).2.1 c hh hc)
      obtain ⟨hnumber, hstate, hflag, hclosing, -⟩ := (hshort c n hh hc).spec
      refine ⟨congrArg Arm.state hreleased, congrArg Arm.held hreleased, congrArg Arm.causes hreleased,
        (congrArg Arm.totalizer hreleased).trans rfl, _, hmem c (mem_of_heldComp hc), ?_⟩
      rw [endPending_of_not (by rw [hstate]; decide)]
      exact ⟨hnumber, hstate, hflag, fun hnone => by rw [hclosing, hnone]; rfl⟩
    · exact (harm n).trans ((harms n).2.2 hother)
    · have hout := hmem c hc
      rwa [hstay c hno, endPending_of_pending hpending] at hout
    · exact (congrArg State.banks heq).trans (endedAll_banks (s := emptyDigits s) hapart)
    · exact hsame

end Sys2Proof.Machine
end

section
/-! ### SESSION ABORT (R20) -/

namespace Sys2Proof.Machine

/-! #### HOST STOP offered to each arm -/

section
variable {s t : State} {n : ArmId}

/-- What HOST STOP makes of an arm that loads. -/
def State.hostStopped (s : State) (n : ArmId) : Arm :=
  if (s.armState n).isActive then s.haltedArm n { (s.arm n).causes with hostStop := true }
  else { s.arm n with causes := { (s.arm n).causes with hostStop := true } }

/-- What HOST STOP makes of the compartment of an arm that loads. -/
def State.hostFlagged (s : State) (n : ArmId) (c : Comp) : Comp :=
  if (s.armState n).isActive then { c with flags := c.flags.withHalted } else c

theorem hostFlagged_number (s : State) (n : ArmId) (c : Comp) : (s.hostFlagged n c).number = c.number := by
  unfold State.hostFlagged
  split <;> rfl

theorem armStep_offerHostStop (h : (s.armState n).isLoading = true) :
    ArmStep (fun _ => none) s (offerCause n .hostStop s) n (fun _ => s.hostStopped n)
      (fun x y => y = s.hostFlagged n x) := by
  have hfree : s.banks = (uncaptureBank ((s.heldComp n).bind fun _ => none) s).banks := by cases s.heldComp n <;> rfl
  by_cases hact : (s.armState n).isActive = true
  · have harm : s.hostStopped n = s.haltedArm n ((s.arm n).causes.put .hostStop true) := if_pos hact
    have hcomp : ∀ c, s.hostFlagged n c = { c with flags := c.flags.withHalted } := fun c => if_pos hact
    rw [offerCause_of_active n .hostStop s hact]
    refine ⟨fun m => ?_, ⟨_, flagged_self s n _, fun c => ?_⟩, hfree, fun _ _ _ => rfl, rfl, rfl⟩
    · rw [harm]
      exact arm_of_set (s := s) rfl m
    · by_cases hc : (s.arm n).held = some c.number
      · rw [if_pos hc, hcomp]
        exact if_pos hc
      · rw [if_neg hc]
        exact if_neg hc
  · have hhalt : s.armState n = .halted := by
      cases hst : s.armState n <;> rw [hst] at h hact <;> simp_all [ArmState.isLoading, ArmState.isActive]
    have harm : s.hostStopped n = { s.arm n with causes := (s.arm n).causes.put .hostStop true } := if_neg hact
    have hcomp : ∀ c, s.hostFlagged n c = c := fun c => if_neg hact
    rw [offerCause_of_halted n .hostStop s hhalt]
    refine ⟨fun m => ?_, ⟨_, flagged_self s n _, fun c => ?_⟩, hfree, fun _ _ _ => rfl, rfl, rfl⟩
    · rw [harm]
      exact arm_of_set (s := s) rfl m
    · by_cases hc : (s.arm n).held = some c.number
      · rw [if_pos hc, hcomp]
        exact if_pos hc
      · rw [if_neg hc]
        exact if_neg hc

theorem swept_offerHostStop (s : State) :
    Swept (fun _ => none) s (forArms (fun n t => offerCause n .hostStop t) s) [.a4, .a3, .a2, .a1]
      (fun n => (s.armState n).isLoading) (fun n _ => s.hostStopped n) (fun n x y => y = s.hostFlagged n x) := by
  have hR : ∀ (n : ArmId) (x y : Comp), y = s.hostFlagged n x → y.number = x.number :=
    fun n x y h => h ▸ hostFlagged_number s n x
  refine swept_forArms s hR fun n t done h hn => ?_
  have harm : t.arm n = s.arm n := (h.arm n).trans (if_neg fun hh => hn hh.1)
  have hstate : t.armState n = s.armState n := congrArg Arm.state harm
  have hstopped : t.hostStopped n = s.hostStopped n := by
    rw [State.hostStopped, State.hostStopped, hstate, harm, haltedArm_congr _ harm h.clock]
  have hflagged : t.hostFlagged n = s.hostFlagged n := by
    funext c
    rw [State.hostFlagged, State.hostFlagged, hstate]
  refine ⟨fun hp => ?_, fun hp => offerCause_of_not_loading n .hostStop t (hstate ▸ hp)⟩
  have hstep := armStep_offerHostStop (s := t) (n := n) (hstate ▸ hp)
  rwa [hstopped, hflagged] at hstep

/-! #### The abort before anything is released -/

theorem isLoading_of_isActive {x : ArmState} (h : x.isActive = true) : x.isLoading = true := by
  cases x <;> revert h <;> decide

theorem endPending_closing (c : Comp) : c.endPending.closing = c.closing := by
  unfold Comp.endPending
  split <;> rfl

/-- SESSION ABORT once HOST STOP has been offered to each arm (R20). -/
@[irreducible] def State.abortOffered (s : State) : State :=
  forArms (fun n t => offerCause n .hostStop t)
    (pendingNotLoaded (disarmAll (s.modSession fun x => { x with hostAbort := true })))

theorem armedGone_arm (s : State) (n : ArmId) :
    (pendingNotLoaded (disarmAll (s.modSession fun x => { x with hostAbort := true }))).arm n =
      if s.armState n = .armed then (s.arm n).disarmed else s.arm n := by
  rw [arm_of_arms (pendingNotLoaded_leaves _).2.2.2.2.2.2.1 n, disarmAll_arm]
  rfl

theorem abortOffered_arm (s : State) (n : ArmId) :
    (s.armState n = .armed → s.abortOffered.arm n = (s.arm n).disarmed) ∧
    ((s.armState n).isLoading = true → s.abortOffered.arm n = s.hostStopped n) ∧
    (s.armState n = .idle ∨ s.armState n = .blocked → s.abortOffered.arm n = s.arm n) := by
  have hbase := armedGone_arm s n
  have harm := (swept_offerHostStop
    (pendingNotLoaded (disarmAll (s.modSession fun x => { x with hostAbort := true })))).arm n
  have hclock : (pendingNotLoaded (disarmAll (s.modSession fun x => { x with hostAbort := true }))).clock = s.clock := by
    simp
  rw [State.abortOffered]
  generalize pendingNotLoaded (disarmAll (s.modSession fun x => { x with hostAbort := true })) = u at *
  rw [if_congr (and_iff_right (mem_allArms n)) rfl rfl] at harm
  refine ⟨fun ha => ?_, fun hl => ?_, fun ha => ?_⟩
  · rw [if_pos ha] at hbase
    rw [harm, State.armState, hbase]
    rfl
  · rw [if_neg fun ha => by rw [ha] at hl; exact Bool.false_ne_true hl] at hbase
    have hstate : u.armState n = s.armState n := congrArg Arm.state hbase
    rw [harm, hstate, if_pos hl, State.hostStopped, State.hostStopped, hstate, hbase, haltedArm_congr _ hbase hclock]
  · rw [if_neg fun hh => by rw [hh] at ha; exact absurd ha (by decide)] at hbase
    rw [harm, State.armState, hbase, if_neg fun hl => ?_]
    rcases ha with ha | ha <;> rw [show (s.arm n).state = _ from ha] at hl <;> exact Bool.false_ne_true hl

theorem abortOffered_held (s : State) (n : ArmId) :
    (s.abortOffered.arm n).held = if s.armState n = .armed then none else (s.arm n).held := by
  obtain ⟨harmed, hloading, hother⟩ := abortOffered_arm s n
  by_cases ha : s.armState n = .armed
  · rw [if_pos ha, harmed ha]
    rfl
  · rw [if_neg ha]
    by_cases hl : (s.armState n).isLoading = true
    · rw [hloading hl, State.hostStopped]
      split
      · exact haltedArm_held s n _
      · rfl
    · rw [hother]
      cases hst : s.armState n <;> rw [hst] at ha hl <;> simp_all [ArmState.isLoading]

theorem abortOffered_apart (h : s.holdsApart) : s.abortOffered.holdsApart :=
  holdsApart_of_held h fun n => by
    rw [abortOffered_held]
    split
    · exact .inl rfl
    · exact .inr rfl

/-- The compartments once HOST STOP has been offered (R20). -/
theorem abortOffered_comps (s : State) :
    ∃ F : Comp → Comp, s.abortOffered.session.comps = s.session.comps.map F ∧
      (∀ c, (F c).number = c.number ∧ (F c).closing = c.closing ∧ (F c).state ≠ .pending) ∧
      (∀ c n, (s.armState n).isActive = true → (s.arm n).held = some c.number → (F c).flags.halted = true) ∧
      (s.holdsApart → ∀ c n, s.armState n = .armed → (s.arm n).held = some c.number → F c = c.givenBack.endPending) ∧
      (s.holdsApart → ∀ c n, s.armState n ≠ .armed → (s.arm n).held = some c.number → (F c).bank = c.bank) ∧
      ∀ c, (∀ n, (s.arm n).held ≠ some c.number) → F c = c.endPending := by
  obtain ⟨D, hD, hnumber, hback, hstay⟩ := disarmAll_comps (s.modSession fun x => { x with hostAbort := true })
  have hgone : ∀ n, s.armState n ≠ .armed →
      (pendingNotLoaded (disarmAll (s.modSession fun x => { x with hostAbort := true }))).arm n = s.arm n := fun n ha =>
    (armedGone_arm s n).trans (if_neg ha)
  have hheld : ∀ n k, ((pendingNotLoaded (disarmAll (s.modSession fun x => { x with hostAbort := true }))).arm n).held =
      some k → s.armState n ≠ .armed ∧ (s.arm n).held = some k := fun n k hk => by
    rw [armedGone_arm] at hk
    split at hk
    · exact nomatch hk
    next ha => exact ⟨ha, hk⟩
  have hcomps : (pendingNotLoaded (disarmAll (s.modSession fun x => { x with hostAbort := true }))).session.comps =
      (s.session.comps.map D).map Comp.endPending := by rw [pendingNotLoaded_comps, hD]; rfl
  obtain ⟨G, hG, hsweep⟩ := (swept_offerHostStop
    (pendingNotLoaded (disarmAll (s.modSession fun x => { x with hostAbort := true })))).comps
  rw [State.abortOffered]
  generalize pendingNotLoaded (disarmAll (s.modSession fun x => { x with hostAbort := true })) = u at *
  have hflag : ∀ {x y : Comp} {n}, y = u.hostFlagged n x → ∃ f, y = { x with flags := f } := fun {x y n} h => by
    rw [h, State.hostFlagged]
    split
    · exact ⟨_, rfl⟩
    · exact ⟨_, rfl⟩
  have hkeep : ∀ c, ∃ f, G c = { c with flags := f } := fun c =>
    (hsweep c).keeps (Q := fun y => ∃ f, y = { c with flags := f }) (fun n x y hR ⟨f, hf⟩ => by
      obtain ⟨g, hg⟩ := hflag hR
      exact ⟨g, by rw [hg, hf]⟩) ⟨_, rfl⟩
  have hfree : ∀ c, (∀ n, (u.arm n).held ≠ some c.number) → G c = c := fun c hno =>
    (hsweep c).eq_of_none fun n _ _ => hno n
  refine ⟨fun c => G (D c).endPending, by rw [hG, hcomps, List.map_map, List.map_map]; rfl, fun c => ?_,
    fun c n ha hn => ?_, fun h c n ha hn => ?_, fun h c n ha hn => ?_, fun c hno => ?_⟩
  · obtain ⟨f, hf⟩ := hkeep (D c).endPending
    have hclosing : (D c).endPending.closing = c.closing := by
      rw [endPending_closing]
      by_cases ha : ∃ n, s.armState n = .armed ∧ (s.arm n).held = some c.number
      · obtain ⟨n, ha, hn⟩ := ha
        rw [hback c n ha hn]
        rfl
      · rw [hstay c fun n hn hheld => ha ⟨n, hn, hheld⟩]
    dsimp only
    rw [hf]
    exact ⟨(endPending_number _).trans (hnumber c), hclosing, endPending_state _⟩
  · have hne : s.armState n ≠ .armed := fun h => by rw [h] at ha; exact Bool.false_ne_true ha
    have hstate : u.armState n = s.armState n := congrArg Arm.state (hgone n hne)
    have hnum : (u.arm n).held = some (D c).endPending.number := by rw [hgone n hne, endPending_number, hnumber, hn]
    refine (hsweep _).makes (n := n) (mem_allArms n) ?_ hnum (Q := fun y => y.flags.halted = true) (fun x y hR => ?_)
      fun m x y hR hx => ?_
    · rw [hstate]
      exact isLoading_of_isActive ha
    · rw [hR, State.hostFlagged, hstate, if_pos ha]
      rfl
    · rw [hR, State.hostFlagged]
      split
      · rfl
      · exact hx
  · dsimp only
    rw [hback c n ha hn]
    refine hfree _ fun m hm => ?_
    obtain ⟨hma, hmheld⟩ := hheld m _ hm
    have hmheld : (s.arm m).held = some c.number := hmheld
    exact h n m (fun hnm => hma (hnm ▸ ha)) (by rw [hn]; exact Option.some_ne_none _) (hn.trans hmheld.symm)
  · obtain ⟨f, hf⟩ := hkeep (D c).endPending
    have hkept : D c = c := hstay c fun m hm hmheld =>
      h n m (fun hnm => ha (hnm ▸ hm)) (by rw [hn]; exact Option.some_ne_none _) (hn.trans hmheld.symm)
    dsimp only
    rw [hf, hkept]
    exact endPending_bank c
  · dsimp only
    rw [hstay c fun n _ => hno n]
    refine hfree _ fun n hn => ?_
    rw [endPending_number] at hn
    exact hno n (hheld n _ hn).2

theorem abortOffered_same (s : State) :
    s.abortOffered.session =
      { s.session with
        hostAbort := true, comps := s.abortOffered.session.comps, idleBase := s.abortOffered.session.idleBase } ∧
      s.abortOffered = { s with
        arms := s.abortOffered.arms, session := s.abortOffered.session, banks := s.abortOffered.banks
        cmdQueue := s.abortOffered.cmdQueue } := by
  have hdisarm := (swept_disarmAll (s.modSession fun x => { x with hostAbort := true })).session
  rw [State.abortOffered]
  refine ⟨?_, ?_⟩
  · exact session_trans (session_trans hdisarm
      (session_of_comps (y := (pendingNotLoaded (disarmAll (s.modSession fun x => { x with hostAbort := true }))).session) rfl))
      (swept_offerHostStop _).session
  · rw [state_eq_iff]
    simp

/-- The arms that SESSION ABORT releases at once: those already settled (R20, R62). -/
def State.abortReleases (s : State) (n : ArmId) : Bool :=
  (s.armState n == .closing || s.armState n == .halted) && (s.arm n).settled

theorem abortOffered_settled (s : State) (n : ArmId) :
    (s.abortOffered.armState n == .halted && (s.abortOffered.arm n).settled) = s.abortReleases n := by
  obtain ⟨harmed, hloading, hother⟩ := abortOffered_arm s n
  have hstate : s.armState n = (s.arm n).state := rfl
  unfold State.abortReleases State.armState
  cases hst : s.armState n
  case armed => rw [harmed hst, ← hstate, hst]; rfl
  case idle => rw [hother (.inl hst), ← hstate, hst]; rfl
  case blocked => rw [hother (.inr hst), ← hstate, hst]; rfl
  all_goals
    rw [hloading (by rw [hst]; rfl), ← hstate, hst]
    simp [State.hostStopped, State.haltedArm, hst, ArmState.isActive, ArmState.isMoving, ← hstate]

/-! #### The releases, and the entry to ENDING -/

/-- SESSION ABORT once the settled arms are released (R20). -/
@[irreducible] def State.abortReleased (s : State) : State := forArms abortHalted s.abortOffered

theorem abortOpen_eq (s : State) :
    abortOpen s = if s.abortReleased.noArmHeld then enterEnding s.abortReleased else s.abortReleased := by
  rw [State.abortReleased, State.abortOffered]
  rfl

theorem swept_abortHalted (s : State) :
    Swept Comp.bank s.abortOffered s.abortReleased [.a4, .a3, .a2, .a1]
      (fun n => s.abortReleases n && (s.abortOffered.heldComp n).isSome) (fun _ a => a.released none)
      (fun n => Comp.EndsShort (s.abortOffered.arm n).totalizer) := by
  have h := swept_release (f := abortHalted) (q := Arm.settled) s.abortOffered fun _ _ => rfl
  rw [State.abortReleased]
  simpa only [abortOffered_settled] using h

theorem abortReleases_loading (h : s.abortReleases n = true) : (s.armState n).isLoading = true := by
  unfold State.abortReleases at h
  cases hst : s.armState n <;> rw [hst] at h <;> simp_all [ArmState.isLoading]

theorem abortOffered_heldComp (h : s.armState n ≠ .armed) :
    (s.abortOffered.heldComp n).isSome = (s.heldComp n).isSome := by
  obtain ⟨F, hF, hkeep, -⟩ := abortOffered_comps s
  rw [heldComp_of_map (s := s) ((abortOffered_held s n).trans (if_neg h)) hF fun c => (hkeep c).1, Option.isSome_map]

theorem abortReleased_arm (s : State) (n : ArmId) :
    (s.abortReleases n = false → s.abortReleased.arm n = s.abortOffered.arm n) ∧
    (∀ c, s.abortReleases n = true → s.heldComp n = some c →
      s.abortReleased.arm n = (s.hostStopped n).released none) := by
  have harm := (swept_abortHalted s).arm n
  rw [if_congr (and_iff_right (mem_allArms n)) rfl rfl] at harm
  refine ⟨fun hno => ?_, fun c hr hc => ?_⟩
  · rw [harm, hno]
    rfl
  · have hl := abortReleases_loading hr
    have hsome : (s.abortOffered.heldComp n).isSome = true := by
      rw [abortOffered_heldComp fun ha => by rw [ha] at hl; exact Bool.false_ne_true hl, hc]
      rfl
    rw [harm, hr, hsome, (abortOffered_arm s n).2.1 hl]
    rfl

theorem hostStopped_released (h : s.abortReleases n = true) :
    (s.hostStopped n).released none =
      { s.arm n with
        state := .idle, held := none, causes := {}, blockCause := none, closeTime := none
        haltEntry := none, settleDeadline := none, haltDeadline := none, closedSeen := false
        settled := false, zeroRun := 0 } := by
  have hstill : ¬(s.armState n).isMoving = true := by
    unfold State.abortReleases at h
    cases hst : s.armState n <;> rw [hst] at h <;> simp_all [ArmState.isMoving]
  rw [State.hostStopped, State.haltedArm, if_neg hstill]
  split <;> rfl

/-- The compartments once the settled arms are released (R20, R56). -/
theorem abortReleased_comps (s : State) :
    ∃ F : Comp → Comp, s.abortReleased.session.comps = s.session.comps.map F ∧
      (∀ c, (F c).number = c.number ∧ (F c).state ≠ .pending) ∧
      (∀ c n, (s.armState n).isActive = true → (s.arm n).held = some c.number → (F c).flags.halted = true) ∧
      (s.holdsApart → ∀ c n, s.armState n = .armed → (s.arm n).held = some c.number → F c = c.givenBack.endPending) ∧
      (∀ c n, s.abortReleases n = true → s.heldComp n = some c →
        (F c).state = .short ∧ (F c).flags.short = true ∧
          (s.holdsApart → (F c).closing = some (c.closing.getD (s.arm n).totalizer))) ∧
      ∀ c, (∀ n, (s.arm n).held ≠ some c.number) → F c = c.endPending := by
  obtain ⟨F, hF, hkeep, hactive, harmed, -, hfree⟩ := abortOffered_comps s
  obtain ⟨G, hG, hnumber, hhalted, hpending, hshort, hends, hstay⟩ := released_comps (swept_abortHalted s)
  have hheld : ∀ n k, (s.abortOffered.arm n).held = some k → s.armState n ≠ .armed ∧ (s.arm n).held = some k := by
    intro n k hk
    rw [abortOffered_held] at hk
    split at hk
    · exact nomatch hk
    next ha => exact ⟨ha, hk⟩
  refine ⟨fun c => G (F c), by rw [hG, hF, List.map_map]; rfl,
    fun c => ⟨(hnumber _).trans (hkeep c).1, hpending _ (hkeep c).2.2⟩,
    fun c n ha hn => (hhalted _).trans (hactive c n ha hn), fun h c n ha hn => ?_, fun c n hr hc => ?_, fun c hno => ?_⟩
  · rw [← harmed h c n ha hn]
    refine hstay _ fun m _ hm => ?_
    rw [(hkeep c).1] at hm
    obtain ⟨hma, hmheld⟩ := hheld m _ hm
    exact h n m (fun hnm => hma (hnm ▸ ha)) (by rw [hn]; exact Option.some_ne_none _) (hn.trans hmheld.symm)
  · have hl := abortReleases_loading hr
    have hne : s.armState n ≠ .armed := fun ha => by rw [ha] at hl; exact Bool.false_ne_true hl
    have hq : (s.abortReleases n && (s.abortOffered.heldComp n).isSome) = true := by
      rw [hr, abortOffered_heldComp hne, hc]
      rfl
    have hn : (s.abortOffered.arm n).held = some (F c).number := by
      rw [abortOffered_held, if_neg hne, (hkeep c).1, held_of_heldComp hc]
    have htotalizer : (s.abortOffered.arm n).totalizer = (s.arm n).totalizer := by
      rw [(abortOffered_arm s n).2.1 hl, State.hostStopped, State.haltedArm]
      (repeat' split) <;> rfl
    obtain ⟨hstate, hflag⟩ := hshort _ n hq hn
    refine ⟨hstate, hflag, fun h => ?_⟩
    obtain ⟨-, -, -, hclosing, -⟩ := (hends _ n hq hn (abortOffered_apart h)).spec
    rw [hclosing, (hkeep c).2.1, htotalizer]
  · dsimp only
    rw [hfree c hno]
    refine hstay _ fun n _ hn => ?_
    rw [endPending_number] at hn
    exact hno n (hheld n _ hn).2

theorem abortOffered_banks (h : s.holdsApart) :
    s.abortOffered.banks =
      { s.banks with
        countA := s.banks.countA - s.capturedBy .a fun n => s.armState n == .armed
        countB := s.banks.countB - s.capturedBy .b fun n => s.armState n == .armed } := by
  have hbanks : s.abortOffered.banks = (disarmAll (s.modSession fun x => { x with hostAbort := true })).banks := by
    rw [State.abortOffered]
    simp
  rw [hbanks, (swept_disarmAll (s.modSession fun x => { x with hostAbort := true })).banks h, freedIn_eq_capturedBy,
    freedIn_eq_capturedBy]
  rfl

/-- The capture counts fall by what was given back and released (R20, R152). -/
theorem abortReleased_banks (h : s.holdsApart) :
    s.abortReleased.banks =
      { s.banks with
        countA := s.banks.countA - s.capturedBy .a fun n => s.armState n == .armed || s.abortReleases n
        countB := s.banks.countB - s.capturedBy .b fun n => s.armState n == .armed || s.abortReleases n } := by
  obtain ⟨F, hF, hkeep, -, -, hbank, -⟩ := abortOffered_comps s
  have hcount : ∀ bank, (s.abortOffered.capturedBy bank fun n => s.abortReleases n && (s.abortOffered.heldComp n).isSome) =
      s.capturedBy bank s.abortReleases := by
    refine fun bank => capturedBy_congr fun n => ?_
    by_cases hr : s.abortReleases n = true
    · have hl := abortReleases_loading hr
      have hne : s.armState n ≠ .armed := fun ha => by rw [ha] at hl; exact Bool.false_ne_true hl
      rw [heldComp_of_map (s := s) ((abortOffered_held s n).trans (if_neg hne)) hF fun c => (hkeep c).1]
      cases hc : s.heldComp n with
      | none => simp
      | some c =>
        rw [Option.map_some, Option.bind_some, Option.bind_some, hbank h c n hne (held_of_heldComp hc)]
        simp
    · rw [Bool.eq_false_iff.2 hr]
      rfl
  have hor : ∀ bank, (s.capturedBy bank fun n => s.armState n == .armed || s.abortReleases n) =
      (s.capturedBy bank fun n => s.armState n == .armed) + s.capturedBy bank s.abortReleases := fun bank =>
    capturedBy_or s bank fun n hn => by
      rw [State.abortReleases, beq_iff_eq.1 hn]
      rfl
  rw [(swept_abortHalted s).banks (abortOffered_apart h), abortOffered_banks h, freedIn_eq_capturedBy,
    freedIn_eq_capturedBy, hcount, hcount, hor, hor, Nat.sub_sub, Nat.sub_sub]

theorem abortReleased_same (s : State) :
    s.abortReleased.session =
      { s.session with
        hostAbort := true, comps := s.abortReleased.session.comps, idleBase := s.abortReleased.session.idleBase } ∧
      s.abortReleased = { s with
        arms := s.abortReleased.arms, session := s.abortReleased.session, banks := s.abortReleased.banks
        dosing := s.abortReleased.dosing, cmdQueue := s.abortReleased.cmdQueue, status := s.abortReleased.status } := by
  obtain ⟨hsession, hsame⟩ := abortOffered_same s
  refine ⟨session_trans (x := { s.session with hostAbort := true }) hsession (swept_abortHalted s).session, ?_⟩
  have hall : s.abortReleased = { s.abortOffered with
      arms := s.abortReleased.arms, session := s.abortReleased.session, banks := s.abortReleased.banks
      dosing := s.abortReleased.dosing, cmdQueue := s.abortReleased.cmdQueue, status := s.abortReleased.status } := by
    rw [State.abortReleased, state_eq_iff]
    simp
  rw [hsame] at hall
  exact hall

theorem abortReleased_tables (s : State) :
    s.abortReleased.banks.a = s.banks.a ∧ s.abortReleased.banks.b = s.banks.b ∧
      s.abortReleased.banks.active = s.banks.active := by
  obtain ⟨ha, hb, hactive⟩ := (swept_abortHalted s).tables
  obtain ⟨ha', hb', hactive'⟩ := (swept_disarmAll (s.modSession fun x => { x with hostAbort := true })).tables
  have hbanks : s.abortOffered.banks = (disarmAll (s.modSession fun x => { x with hostAbort := true })).banks := by
    rw [State.abortOffered]
    simp
  rw [hbanks] at ha hb hactive
  exact ⟨ha.trans ha', hb.trans hb', hactive.trans hactive'⟩

theorem abortReleased_dose (h : s.abortReleases n = false) (k : Slot) : s.abortReleased.dose n k = s.dose n k := by
  have hdose := (swept_abortHalted s).dose n k fun hh => by
    rw [h] at hh
    exact Bool.false_ne_true hh.2
  have hkeep : s.abortOffered.dosing = s.dosing := by
    rw [State.abortOffered]
    simp
  rw [hdose, State.dose, State.dose, hkeep]

end

end Sys2Proof.Machine
end

section
/-! ### The command SESSION ABORT (R20, R190) -/

namespace Sys2Proof.Machine

section
variable {s : State}

theorem abortOpen_of_freed (h : ∀ n, (s.abortReleased.armState n).isHeld = false) :
    abortOpen s =
      { s.abortReleased with
        session :=
          { s.abortReleased.session with
            state := .ending, closeTime := some (s.clock.day, s.clock.second), idleBase := none }
        notes := s.compileBegun } := by
  have hclock : s.abortReleased.clock = s.clock := by rw [(abortReleased_same s).2]
  have hnotes : s.abortReleased.compileBegun = s.compileBegun :=
    compileBegun_of_notes (by rw [(abortReleased_same s).2])
  rw [abortOpen_eq, if_pos ((noArmHeld_iff _).2 h), enterEnding_eq, hnotes]
  exact congrArg (fun k : Clock =>
    { s.abortReleased with
      session :=
        { s.abortReleased.session with state := .ending, closeTime := some (k.day, k.second), idleBase := none }
      notes := s.compileBegun }) hclock

theorem abortOpen_of_held (h : ∃ n, (s.abortReleased.armState n).isHeld = true) : abortOpen s = s.abortReleased := by
  obtain ⟨n, hn⟩ := h
  rw [abortOpen_eq, if_neg fun hno => Bool.false_ne_true (((noArmHeld_iff _).1 hno n).symm.trans hn)]

/-- What entry to ENDING leaves of the state in which the settled arms are released. -/
theorem abortOpen_keeps (s : State) :
    abortOpen s = { s.abortReleased with session := (abortOpen s).session, notes := (abortOpen s).notes } ∧
      (abortOpen s).session =
        { s.abortReleased.session with
          state := (abortOpen s).session.state, closeTime := (abortOpen s).session.closeTime
          idleBase := (abortOpen s).session.idleBase } := by
  rw [abortOpen_eq]
  generalize s.abortReleased = u
  split
  · rw [enterEnding_eq]
    exact ⟨rfl, rfl⟩
  · exact ⟨rfl, rfl⟩

theorem abortReleases_of_not {n : ArmId}
    (h : ¬((s.armState n = .closing ∨ s.armState n = .halted) ∧ (s.arm n).settled = true)) : s.abortReleases n = false := by
  refine Bool.eq_false_iff.2 fun hr => h ?_
  simpa only [State.abortReleases, Bool.and_eq_true, Bool.or_eq_true, beq_iff_eq] using hr

/-- The arms after SESSION ABORT, those released apart (R20). -/
theorem abortReleased_others (s : State) (n : ArmId) :
    (s.armState n = .armed → s.abortReleased.arm n = (s.arm n).disarmed) ∧
    ((s.armState n).isMoving = true ∨ s.armState n = .closing ∧ (s.arm n).settled = false →
      s.abortReleased.arm n = s.haltedArm n { (s.arm n).causes with hostStop := true }) ∧
    (s.armState n = .halted → (s.arm n).settled = false →
      s.abortReleased.arm n = { s.arm n with causes := { (s.arm n).causes with hostStop := true } }) ∧
    (s.armState n = .idle ∨ s.armState n = .blocked → s.abortReleased.arm n = s.arm n) := by
  obtain ⟨harmed, hloading, hother⟩ := abortOffered_arm s n
  obtain ⟨hkept, -⟩ := abortReleased_arm s n
  have hrest : s.armState n ≠ .closing → s.armState n ≠ .halted → s.abortReleases n = false := fun h1 h2 =>
    abortReleases_of_not fun h => h.1.elim h1 h2
  have hsettled : (s.arm n).settled = false → s.abortReleases n = false := fun h => abortReleases_of_not fun hh =>
    Bool.false_ne_true (h.symm.trans hh.2)
  refine ⟨fun ha => ?_, fun ha => ?_, fun ha hno => ?_, fun ha => ?_⟩
  · rw [hkept (hrest (by rw [ha]; decide) (by rw [ha]; decide)), harmed ha]
  · have hact : (s.armState n).isActive = true := ha.elim isActive_of_isMoving fun h => by rw [h.1]; rfl
    have hno : s.abortReleases n = false := ha.elim
      (fun h => hrest (fun hc => by rw [hc] at h; exact Bool.false_ne_true h)
        (fun hc => by rw [hc] at h; exact Bool.false_ne_true h)) fun h => hsettled h.2
    rw [hkept hno, hloading (isLoading_of_isActive hact), State.hostStopped, if_pos hact]
  · rw [hkept (hsettled hno), hloading (by rw [ha]; rfl), State.hostStopped, if_neg (by rw [ha]; decide)]
  · have hne : s.armState n ≠ .closing ∧ s.armState n ≠ .halted := by
      rcases ha with ha | ha <;> rw [ha] <;> decide
    rw [hkept (hrest hne.1 hne.2), hother ha]

theorem sessionAbort_refused (h : s.session.state = .vacant ∨ s.session.state = .ending ∨
    s.session.state = .opened ∧ s.session.hostAbort = true) : sessionAbort s = (s, .refused .wrongState) := by
  unfold sessionAbort
  rcases h with h | h | ⟨h, habort⟩
  · rw [h]
  · rw [h]
  · simp only [h, habort, if_true]

theorem sessionAbort_codeEntry (h : s.session.state = .codeEntry) : sessionAbort s = (returnVacant s, .done) := by
  unfold sessionAbort
  rw [h]

theorem sessionAbort_opened (h : s.session.state = .opened) (habort : s.session.hostAbort = false) :
    sessionAbort s = (abortOpen s, .done) := by
  unfold sessionAbort
  simp only [h, habort, Bool.false_eq_true, if_false]

end

/-- Settles O27: the abort is a sweep that gives back, one that offers HOST STOP and one that releases. -/
theorem sessionAbortEndsTheSession : Obligations.SessionAbortEndsTheSession := by
  refine fun s hcan => ⟨fun argument hne => ?_, fun hstate => ?_, fun hstate => ?_, fun hopen habort => ?_⟩
  case refine_1 =>
    exact congrArg Host.Outcome.next (hostSet_command_refused hcan (withZero_of_ne hne sessionAbort s.heardHost))
  case refine_2 =>
    exact congrArg Host.Outcome.next (hostSet_command_refused hcan
      ((withZero_zero sessionAbort s.heardHost).trans (sessionAbort_refused (s := s.heardHost) hstate)))
  case refine_3 =>
    have hrun := (withZero_zero sessionAbort s.heardHost).trans (sessionAbort_codeEntry (s := s.heardHost) hstate)
    rw [returnVacant_eq] at hrun
    exact congrArg Host.Outcome.next (hostSet_command_done hcan hrun (heardHost_has_room s hcan))
  case refine_4 =>
    have hrun := (withZero_zero sessionAbort s.heardHost).trans (sessionAbort_opened (s := s.heardHost) hopen habort)
    have hroom : (abortOpen s.heardHost).up.outgoing.length < 8 := by
      rw [(abortOpen_leaves _).2.2.2.2.2.2.2.2.2.2.2.2.1]
      exact heardHost_has_room s hcan
    have hexec : exec (.sessionAbort 0) s = .next ((abortOpen s.heardHost).answersDone 0x18) :=
      congrArg Host.Outcome.next (hostSet_command_done hcan hrun hroom)
    obtain ⟨hopenSame, hopenSession⟩ := abortOpen_keeps s.heardHost
    obtain ⟨hsession, hsame⟩ := abortReleased_same s.heardHost
    obtain ⟨F, hF, hkeep, hactive, harmed, hreleased, hfree⟩ := abortReleased_comps s.heardHost
    intro releases
    have hfreed := abortOpen_of_freed (s := s.heardHost)
    have hstill := abortOpen_of_held (s := s.heardHost)
    have hreleasedArm := abortReleased_arm s.heardHost
    have hothers := abortReleased_others s.heardHost
    generalize hu : abortOpen s.heardHost = u at *
    have hcomps : u.session.comps = s.session.comps.map F := by
      rw [hopenSession]
      exact hF
    have harms : ∀ n, u.arm n = s.heardHost.abortReleased.arm n := fun n => by
      rw [hopenSame]
      rfl
    have htables := abortReleased_tables s.heardHost
    have hwhole : u = { s.heardHost with
        arms := u.arms, session := u.session, banks := u.banks, dosing := u.dosing, notes := u.notes
        cmdQueue := u.cmdQueue, status := u.status } := by
      rw [hsame] at hopenSame
      rw [hopenSame]
    have hup : u.up = s.heardHost.up := by rw [hwhole]
    have hbanks : u.banks = s.heardHost.abortReleased.banks := by rw [hopenSame]
    have hmem : ∀ c ∈ s.session.comps, F c ∈ u.session.comps := fun c hc => by
      rw [hcomps]
      exact List.mem_map_of_mem hc
    have hheld : ∀ n, (u.answersDone 0x18).armState n = s.heardHost.abortReleased.armState n := fun n =>
      congrArg Arm.state (harms n)
    refine ⟨u.answersDone 0x18, hexec, fun n => ⟨fun ha => ?_, fun ha => ?_, fun ha hno => ?_, fun c hr hc => ?_, fun ha => ?_,
      fun hr k => ?_, fun c ha hc => ?_⟩, fun c hc => ?_, fun c hc hpending hno => ?_, fun hapart => ⟨fun n c ha hc => ?_, ?_⟩,
      fun hno => ?_, fun hsome => ?_, ?_, ?_, ?_, ?_, ?_, ?_⟩
    · exact (harms n).trans ((hothers n).1 ha)
    · exact (harms n).trans ((hothers n).2.1 ha)
    · exact (harms n).trans ((hothers n).2.2.1 ha hno)
    · obtain ⟨hshort, hflag, hclosing⟩ := hreleased c n hr hc
      refine ⟨(harms n).trans (((hreleasedArm n).2 c hr hc).trans (hostStopped_released hr)),
        _, hmem c (mem_of_heldComp hc), (hkeep c).1, hshort, hflag, fun hnone hapart => ?_⟩
      rw [hclosing hapart, hnone]
      rfl
    · exact (harms n).trans ((hothers n).2.2.2 ha)
    · have hdose : u.dose n k = s.heardHost.abortReleased.dose n k := by
        rw [hopenSame]
        rfl
      exact hdose.trans (abortReleased_dose (s := s.heardHost) hr k)
    · exact ⟨_, hmem c (mem_of_heldComp hc), (hkeep c).1, hactive c n ha (held_of_heldComp hc)⟩
    · have hc : c ∈ u.session.comps := hc
      rw [hcomps] at hc
      obtain ⟨d, -, rfl⟩ := List.mem_map.1 hc
      exact (hkeep d).2
    · have hout := hmem c hc
      rwa [hfree c hno, endPending_of_pending hpending] at hout
    · have hout := hmem c (mem_of_heldComp hc)
      rwa [harmed hapart c n ha (held_of_heldComp hc)] at hout
    · exact hbanks.trans (abortReleased_banks (s := s.heardHost) hapart)
    · have hfin := hfreed fun n => (congrArg ArmState.isHeld (hheld n)).symm.trans (hno n)
      exact ⟨congrArg (fun v : State => v.session.state) hfin, congrArg (fun v : State => v.session.closeTime) hfin,
        congrArg (fun v : State => v.session.idleBase) hfin, congrArg State.notes hfin⟩
    · obtain ⟨n, hn⟩ := hsome
      have hfin := hstill ⟨n, by rw [← hheld n]; exact hn⟩
      have hstate : u.session.state = .opened := by rw [hfin, hsession]; exact hopen
      have hclose : u.session.closeTime = s.session.closeTime := by rw [hfin, hsession]; rfl
      have hnotes : u.notes = s.notes := by rw [hfin, hsame]; rfl
      exact ⟨hstate, hclose, hnotes⟩
    · rw [hsession] at hopenSession
      have hend : u.session = { s.session with
          hostAbort := true, state := u.session.state, closeTime := u.session.closeTime, comps := u.session.comps
          idleBase := u.session.idleBase } := by
        rw [hopenSession]
        rfl
      exact hend
    · exact (congrArg Banks.a hbanks).trans htables.1
    · exact (congrArg Banks.b hbanks).trans htables.2.1
    · exact (congrArg Banks.active hbanks).trans htables.2.2
    · exact congrArg (fun w : Upstream =>
        { w with
          outgoing := w.outgoing ++
            ([{ frame := { dir := .response, kind := 1, tag := 0, addr := 0x18, payload := [u.attention] } }] :
              List Outgoing) }) hup
    · rw [hwhole]
      rfl

end Sys2Proof.Machine
end

section
/-! ### The arithmetic of metering (R77 to R79, R83, R84, R96) -/

namespace Sys2Proof.Machine

/-! #### Volume correction -/

theorem roundHalfEven_nearest (x : Int) :
    2 * (100 * roundHalfEven x 100 - x).natAbs ≤ 100 ∧
      (2 * (100 * roundHalfEven x 100 - x).natAbs = 100 → roundHalfEven x 100 % 2 = 0) := by
  simp only [roundHalfEven]
  split
  · omega
  · split
    · omega
    · split <;> omega

theorem vcf_range {beta : Nat} {t : Int} (hbeta : beta ≤ 1500) (hlow : -4000 ≤ t) (hhigh : t ≤ 6000) :
    932500 ≤ vcf beta t ∧ vcf beta t ≤ 1082500 := by
  obtain ⟨hnear, -⟩ := roundHalfEven_nearest ((beta : Int) * (t - 1500))
  have hbelow : -8250000 ≤ (beta : Int) * (t - 1500) := by nlinarith
  have habove : (beta : Int) * (t - 1500) ≤ 6750000 := by nlinarith
  rw [vcf]
  generalize (beta : Int) * (t - 1500) = x at *
  omega

theorem vcf_zero (t : Int) : vcf 0 t = 1000000 := by
  rw [vcf, Nat.cast_zero, zero_mul]
  rfl

/-! #### One segment of a curve -/

section
variable {p q : CurvePoint} {rate : Nat}

/-- The rise of the straight line within a segment, rounded, lies between no rise and the whole of it. -/
theorem segmentRise_between (hp : p.rate ≤ rate) (hq : rate < q.rate) :
    min 0 ((q.factor : Int) - p.factor) ≤
        roundHalfAway (((q.factor : Int) - p.factor) * ((rate : Int) - p.rate)) (q.rate - p.rate) ∧
      roundHalfAway (((q.factor : Int) - p.factor) * ((rate : Int) - p.rate)) (q.rate - p.rate) ≤
        max 0 ((q.factor : Int) - p.factor) := by
  obtain ⟨hnear, -⟩ := roundHalfAway_nearest (((q.factor : Int) - p.factor) * ((rate : Int) - p.rate))
    (d := q.rate - p.rate) (by omega)
  generalize roundHalfAway _ _ = rise at hnear ⊢
  obtain ⟨d, hd⟩ : ∃ d : Nat, d = q.rate - p.rate := ⟨_, rfl⟩
  obtain ⟨m, hm⟩ : ∃ m : Nat, m = rate - p.rate := ⟨_, rfl⟩
  have hmd : (m : Int) < d := by omega
  have hm0 : (0 : Int) ≤ m := by omega
  have hcast : (rate : Int) - p.rate = m := by omega
  rw [hcast, ← hd] at hnear
  generalize (q.factor : Int) - p.factor = f at hnear ⊢
  have hnear : -(d : Int) ≤ 2 * (d * rise - f * m) ∧ 2 * (d * rise - f * m) ≤ d := by omega
  obtain ⟨hlow, hhigh⟩ := hnear
  refine ⟨?_, ?_⟩
  · by_contra hno
    have h0 : rise + 1 ≤ 0 ∧ rise + 1 ≤ f := by omega
    rcases le_total 0 f with hf | hf <;> nlinarith
  · by_contra hno
    have h0 : 1 ≤ rise ∧ f + 1 ≤ rise := by omega
    rcases le_total 0 f with hf | hf <;> nlinarith

theorem segmentFactor_eq (hp : p.rate ≤ rate) (hq : rate < q.rate) :
    (segmentFactor p q rate : Int) =
      p.factor + roundHalfAway (((q.factor : Int) - p.factor) * ((rate : Int) - p.rate)) (q.rate - p.rate) := by
  obtain ⟨hlow, -⟩ := segmentRise_between hp hq
  rw [segmentFactor]
  exact Int.toNat_of_nonneg (by omega)

/-- The rounded line keeps its distance from the line itself. -/
theorem segmentFactor_nearest (hp : p.rate ≤ rate) (hq : rate < q.rate) :
    ∃ rise : Int, (segmentFactor p q rate : Int) = p.factor + rise ∧
      2 * (((q.rate : Int) - p.rate) * rise - ((q.factor : Int) - p.factor) * ((rate : Int) - p.rate)).natAbs ≤
        ((q.rate : Int) - p.rate).natAbs ∧
      (2 * (((q.rate : Int) - p.rate) * rise - ((q.factor : Int) - p.factor) * ((rate : Int) - p.rate)).natAbs =
          ((q.rate : Int) - p.rate).natAbs →
        (((q.factor : Int) - p.factor) * ((rate : Int) - p.rate)).natAbs < (((q.rate : Int) - p.rate) * rise).natAbs) := by
  have hnear := roundHalfAway_nearest (((q.factor : Int) - p.factor) * ((rate : Int) - p.rate))
    (d := q.rate - p.rate) (by omega)
  have hcast : ((q.rate - p.rate : Nat) : Int) = (q.rate : Int) - p.rate := by omega
  have habs : ((q.rate : Int) - p.rate).natAbs = q.rate - p.rate := by omega
  rw [hcast] at hnear
  rw [habs]
  exact ⟨_, segmentFactor_eq hp hq, hnear⟩

theorem segmentFactor_between (hp : p.rate ≤ rate) (hq : rate < q.rate) :
    min p.factor q.factor ≤ segmentFactor p q rate ∧ segmentFactor p q rate ≤ max p.factor q.factor := by
  have heq := segmentFactor_eq hp hq
  obtain ⟨hlow, hhigh⟩ := segmentRise_between hp hq
  omega

theorem segmentFactor_start (p q : CurvePoint) : segmentFactor p q p.rate = p.factor := by
  have hzero : ((q.factor : Int) - p.factor) * ((p.rate : Int) - p.rate) = 0 := by rw [sub_self, mul_zero]
  rw [segmentFactor, hzero, roundHalfAway, if_pos le_rfl]
  have hdiv : (2 * (0 : Int).natAbs + (q.rate - p.rate)) / (2 * (q.rate - p.rate)) = 0 := by
    rw [Int.natAbs_zero, mul_zero, zero_add]
    rcases Nat.eq_zero_or_pos (q.rate - p.rate) with h | h
    · rw [h]
    · exact Nat.div_eq_of_lt (by omega)
  rw [hdiv]
  simp

end

/-! #### A whole curve -/

section
variable {rate : Nat}

/-- From the last point's rate on, a curve has that point's factor. -/
theorem curveFrom_last {p l : CurvePoint} {rest : List CurvePoint}
    (hsorted : (p :: rest).Pairwise fun p q => p.rate < q.rate) (hl : (p :: rest).getLast? = some l)
    (hrate : l.rate ≤ rate) : curveFrom p rate rest = l.factor := by
  induction rest generalizing p with
  | nil =>
    cases hl
    rfl
  | cons q rest ih =>
    obtain ⟨-, htail⟩ := List.pairwise_cons.1 hsorted
    have hl : (q :: rest).getLast? = some l := by rwa [List.getLast?_cons_cons] at hl
    have hq : q.rate ≤ l.rate := by
      rcases List.mem_cons.1 (List.mem_of_getLast? hl) with rfl | hmem
      · exact le_rfl
      · exact le_of_lt ((List.pairwise_cons.1 htail).1 l hmem)
    exact (if_neg (by omega)).trans (ih htail hl)

/-- Between two points next to each other, a curve is their segment. -/
theorem curveFrom_segment {p x y : CurvePoint} {rest : List CurvePoint} {i : Nat}
    (hsorted : (p :: rest).Pairwise fun p q => p.rate < q.rate) (hx : (p :: rest)[i]? = some x)
    (hy : (p :: rest)[i + 1]? = some y) (hlow : x.rate ≤ rate) (hhigh : rate < y.rate) :
    curveFrom p rate rest = segmentFactor x y rate := by
  induction rest generalizing p i with
  | nil => simp at hy
  | cons q rest ih =>
    obtain ⟨-, htail⟩ := List.pairwise_cons.1 hsorted
    cases i with
    | zero =>
      obtain rfl : p = x := Option.some.inj hx
      obtain rfl : q = y := Option.some.inj hy
      exact if_pos hhigh
    | succ i =>
      have hx : (q :: rest)[i]? = some x := hx
      have hq : q.rate ≤ x.rate := by
        rcases List.mem_cons.1 (List.mem_of_getElem? hx) with rfl | hmem
        · exact le_rfl
        · exact le_of_lt ((List.pairwise_cons.1 htail).1 x hmem)
      exact (if_neg (by omega)).trans (ih htail hx hy)

theorem curveFactor_head {points : List CurvePoint} {p : CurvePoint} (hp : points.head? = some p) (hrate : rate ≤ p.rate) :
    curveFactor points rate = p.factor := by
  cases points with
  | nil => exact nomatch hp
  | cons q rest =>
    obtain rfl : q = p := Option.some.inj hp
    exact if_pos hrate

theorem curveFactor_last {points : List CurvePoint} {p : CurvePoint}
    (hsorted : points.Pairwise fun p q => p.rate < q.rate) (hp : points.getLast? = some p) (hrate : p.rate ≤ rate) :
    curveFactor points rate = p.factor := by
  cases points with
  | nil => exact nomatch hp
  | cons q rest =>
    by_cases hq : rate ≤ q.rate
    · rcases List.mem_cons.1 (List.mem_of_getLast? hp) with rfl | hmem
      · exact if_pos hq
      · have hlt := (List.pairwise_cons.1 hsorted).1 p hmem
        omega
    · exact (if_neg hq).trans (curveFrom_last hsorted hp hrate)

theorem curveFactor_segment {points : List CurvePoint} {x y : CurvePoint} {i : Nat}
    (hsorted : points.Pairwise fun p q => p.rate < q.rate) (hx : points[i]? = some x) (hy : points[i + 1]? = some y)
    (hlow : x.rate ≤ rate) (hhigh : rate < y.rate) : curveFactor points rate = segmentFactor x y rate := by
  cases points with
  | nil => exact nomatch hx
  | cons q rest =>
    by_cases hq : rate ≤ q.rate
    · rcases List.mem_cons.1 (List.mem_of_getElem? hx) with rfl | hmem
      · have hrate : rate = x.rate := by omega
        rw [hrate, segmentFactor_start]
        exact if_pos le_rfl
      · have hlt := (List.pairwise_cons.1 hsorted).1 x hmem
        omega
    · exact (if_neg hq).trans (curveFrom_segment hsorted hx hy hlow hhigh)

end

/-- Settles O51: each division keeps its remainder, and each rounding stays within half a unit. -/
theorem meteringArithmeticLosesNothing : Obligations.MeteringArithmeticLosesNothing := by
  refine ⟨fun k residue delta factor hk => ⟨Nat.div_add_mod' _ _, Nat.mod_lt _ (by omega)⟩, fun incG factor residue => ?_,
    fun beta t => ⟨_, rfl, roundHalfEven_nearest _⟩, fun beta t hbeta hlow hhigh => ?_,
    fun points rate hsorted => ⟨fun p hp => curveFactor_head hp, fun p hp => curveFactor_last hsorted hp,
      fun i p q hp hq hlow hhigh => ?_⟩, fun s n c rate bank p points hbank hproduct hcurve => ?_,
    fun p q rate hp hq => ?_, fun gross ratio => ?_⟩
  · have hnum : ((incG : Int) * (factor : Int) + residue).toNat = incG * factor + residue := by
      rw [← Int.natCast_mul, ← Int.natCast_add, Int.toNat_natCast]
    simp only [standardStep, hnum]
    exact ⟨Nat.div_add_mod' _ _, Nat.mod_lt _ (by decide)⟩
  · obtain ⟨hbelow, habove⟩ := vcf_range hbeta hlow hhigh
    exact ⟨hbelow, habove, vcf_zero t⟩
  · rw [curveFactor_segment hsorted hp hq hlow hhigh]
    exact segmentFactor_nearest hlow hhigh
  · have hproductOf : s.productOf c = some p := by rw [State.productOf, hbank, Option.bind_some, hproduct]
    have hcurveOf : s.curveOf n c = points := by
      rw [State.curveOf, hbank, hproductOf]
      exact congrArg (fun x : Option (List CurvePoint) => x.getD []) hcurve
    refine ⟨by rw [State.meterFactor, hcurveOf], ?_⟩
    rw [State.betaOf, hproductOf]
  · obtain ⟨hbelow, habove⟩ := segmentFactor_between hp hq
    exact ⟨hbelow, habove, segmentFactor_start p q⟩
  · rw [owedFor]
    generalize gross * ratio = x
    omega

end Sys2Proof.Machine
end

section
/-! ### Admission and the driver code (R36 to R40, R5 to R9) -/

namespace Sys2Proof.Machine

/-! #### Entry to OPEN (R9) -/

section
variable {s : State} {card : Nat} {p : Permit} {o : Order} {i : Nat} {x : NoteSlot}

theorem findOrder_card (h : findOrder s.store.orders card = some o) : o.card = card := by
  have := List.find?_some h
  simpa using this

theorem findPermit_card (h : findPermit s.store.permits card = some p) : p.card = card := by
  have := List.find?_some h
  simpa using this

/-- The lowest-numbered FREE slot is reserved (R9). -/
theorem reserveSlot_eq (hx : s.notes.slots[i]? = some x) (hfree : x.state = .free)
    (hfirst : ∀ j y, j < i → s.notes.slots[j]? = some y → y.state ≠ .free) :
    reserveSlot s =
      { s with
        notes := { s.notes with slots := s.notes.slots.set i { x with state := .reserved }, held := some i } } := by
  obtain ⟨hi, hget⟩ := List.getElem?_eq_some_iff.1 hx
  have hindex : s.notes.slots.findIdx? (fun x => x.state == .free) = some i := by
    refine List.findIdx?_eq_some_iff_getElem.2 ⟨hi, by rw [hget, hfree]; rfl, fun j hj hfound => ?_⟩
    exact hfirst j _ hj (List.getElem?_eq_getElem (by omega)) (beq_iff_eq.1 hfound)
  have hset : (s.notes.slots.modify i fun y => { y with state := .reserved }) =
      s.notes.slots.set i { x with state := .reserved } := by
    rw [List.modify_eq_set_getElem?, hx]
    rfl
  rw [reserveSlot, hindex, ← hset]
  rfl

/-- The state an order opens, its slot not yet reserved. -/
theorem enterOpen_eq (hcard : s.session.card = some card) (ho : findOrder s.store.orders card = some o)
    (hx : s.notes.slots[i]? = some x) (hfree : x.state = .free)
    (hfirst : ∀ j y, j < i → s.notes.slots[j]? = some y → y.state ≠ .free) :
    enterOpen s =
      { s with
        session :=
          { s.session with
            state := .opened, orderRef := some o.ref, vehicle := o.vehicle
            comps := o.entries.map fun e => { number := e.number, product := e.product, preset := e.preset * 1000 }
            openTime := some (s.clock.day, s.clock.second), hostAbort := false, hostLostDuring := false, digits := []
            lastKey := some s.clock.ms, idleBase := some s.clock.ms, codeDeadline := none }
        store := { s.store with orders := s.store.orders.filter fun y => y.card != card }
        notes := { s.notes with slots := s.notes.slots.set i { x with state := .reserved }, held := some i } } := by
  have hfound : s.session.card.bind (fun card => findOrder s.store.orders card) = some o := by
    rw [hcard, Option.bind_some, ho]
  rw [enterOpen, hfound]
  dsimp only
  rw [findOrder_card ho]
  exact reserveSlot_eq (s := (dropOrder card s).modSession _) hx hfree hfirst

/-! #### The checks of an order (R36, R38) -/

/-- Every product of an order is in the active bank, its class permitted. -/
def State.permits (s : State) (p : Permit) (o : Order) : Prop :=
  ∀ e ∈ o.entries, ∃ r, (s.banks.tables s.banks.active).product? e.product = some r ∧ p.classes.getLsbD r.cls = true

theorem productsPermitted_iff (p : Permit) (o : Order) (s : State) :
    productsPermitted p o s = true ↔ s.permits p o := by
  rw [productsPermitted, List.all_eq_true]
  refine forall₂_congr fun e _ => ?_
  cases (s.banks.tables s.banks.active).product? e.product <;> simp

theorem orderChecks_noOrder (h : ∀ o ∈ s.store.orders, o.card ≠ p.card) : orderChecks p s = some 7 := by
  rw [orderChecks, findOrder_eq_none _ _ h]
  rfl

theorem orderChecks_notPermitted (ho : findOrder s.store.orders p.card = some o) (h : ¬s.permits p o) :
    orderChecks p s = some 8 := by
  have hno := Bool.eq_false_iff.2 fun hh => h ((productsPermitted_iff p o s).1 hh)
  rw [orderChecks, ho]
  simp [hno, msgProductNotPermitted]

theorem orderChecks_overLoad (ho : findOrder s.store.orders p.card = some o) (h : s.permits p o)
    (hload : p.maxLoad < (o.entries.map fun e => e.preset).sum) : orderChecks p s = some 9 := by
  have hover : withinMaxLoad p o = false := decide_eq_false (by omega)
  rw [orderChecks, ho]
  simp [(productsPermitted_iff p o s).2 h, hover, msgOverMaxLoad]

theorem orderChecks_passes (ho : findOrder s.store.orders p.card = some o) (h : s.permits p o)
    (hload : (o.entries.map fun e => e.preset).sum ≤ p.maxLoad) : orderChecks p s = none := by
  have hwithin : withinMaxLoad p o = true := decide_eq_true hload
  rw [orderChecks, ho]
  simp [(productsPermitted_iff p o s).2 h, hwithin]

/-! #### Admission (R36) -/

theorem admission_offline (card : Nat) (h : s.mode ≠ .run ∨ s.status.hostLost = true) :
    admission card s = .error 12 := by
  rw [admission]
  by_cases hmode : s.mode ≠ .run
  · exact if_pos hmode
  · exact (if_neg hmode).trans (if_pos (h.resolve_left hmode))

/-- Admission on line: the checks of the permit, then those of the order, then the note slots. -/
theorem admission_online (card : Nat) (hmode : s.mode = .run) (hhost : s.status.hostLost = false) :
    (findPermit s.store.permits card = none → admission card s = .error 5) ∧
    ∀ p, findPermit s.store.permits card = some p →
      (∀ m, permitChecks p s.clock.day = some m → admission card s = .error m) ∧
      (permitChecks p s.clock.day = none →
        (∀ m, orderChecks p s = some m → admission card s = .error m) ∧
        (orderChecks p s = none →
          ((∀ x ∈ s.notes.slots, x.state ≠ .free) → admission card s = .error 10) ∧
          ((∃ x ∈ s.notes.slots, x.state = .free) → admission card s = .ok p))) := by
  have hfree : s.freeSlots = 0 ↔ ∀ x ∈ s.notes.slots, x.state ≠ .free := by
    rw [State.freeSlots, List.length_eq_zero_iff, List.filter_eq_nil_iff]
    simp
  refine ⟨fun hp => ?_, fun p hp => ⟨fun m hm => ?_, fun hm => ⟨fun k hk => ?_, fun hk => ⟨fun hfull => ?_, fun hroom => ?_⟩⟩⟩⟩
  · simp [admission, hmode, hhost, hp, msgPermitInvalid]
  · simp [admission, hmode, hhost, hp, hm]
  · simp [admission, hmode, hhost, hp, hm, hk]
  · simp [admission, hmode, hhost, hp, hm, hk, hfree.2 hfull, msgNotesFull]
  · have hsome : s.freeSlots ≠ 0 := fun h0 => by
      obtain ⟨x, hx, hxfree⟩ := hroom
      exact hfree.1 h0 x hx hxfree
    simp [admission, hmode, hhost, hp, hm, hk, hsome]

theorem cardEvent_vacant (h : s.session.state = .vacant) :
    (∀ m, admission card s = .error m → cardEvent card s = display m s) ∧
    (∀ p, admission card s = .ok p → cardEvent card s = admitCard card p s) := by
  refine ⟨fun m hm => ?_, fun p hp => ?_⟩
  · rw [cardEvent, h]
    dsimp only
    rw [hm]
  · rw [cardEvent, h]
    dsimp only
    rw [hp]

theorem cardEvent_occupied (h : s.session.state ≠ .vacant) :
    cardEvent card s = if s.session.card = some card then s else display 11 s := by
  rw [cardEvent]
  cases hst : s.session.state with
  | vacant => exact absurd hst h
  | codeEntry => rfl
  | opened => rfl
  | ending => rfl

theorem permitChecks_active (hstatus : p.status = .active) (today : Nat) :
    permitChecks p today = if today ≤ p.expiry then none else some 6 := by
  rw [permitChecks, hstatus]
  rfl

theorem admitCard_coded {code : List Nat} (hcode : p.code = some code) :
    admitCard card p s = display 2
      { s with
        session :=
          { s.session with
            state := .codeEntry, card := some card, carrier := some p.carrier, digits := []
            codeDeadline := some (s.clock.ms + BitVec.ofNat 32 30000) } } := by
  rw [admitCard, hcode]
  rfl

theorem admitCard_open (hcode : p.code = none) (ho : findOrder s.store.orders card = some o)
    (hx : s.notes.slots[i]? = some x) (hfree : x.state = .free)
    (hfirst : ∀ j y, j < i → s.notes.slots[j]? = some y → y.state ≠ .free) :
    admitCard card p s = display 1
      { s with
        session :=
          { s.session with
            state := .opened, card := some card, carrier := some p.carrier
            orderRef := some o.ref, vehicle := o.vehicle
            openTime := some (s.clock.day, s.clock.second), hostAbort := false
            hostLostDuring := false, digits := [], lastKey := some s.clock.ms
            idleBase := some s.clock.ms, codeDeadline := none
            comps := o.entries.map fun e =>
              { number := e.number, product := e.product, preset := e.preset * 1000 } }
        store := { s.store with orders := s.store.orders.filter fun y => y.card != card }
        notes := { s.notes with slots := s.notes.slots.set i { x with state := .reserved }, held := some i } } := by
  have hopen := enterOpen_eq (s := s.modSession fun x => { x with card := some card, carrier := some p.carrier })
    (card := card) rfl ho hx hfree hfirst
  rw [admitCard, hcode]
  exact congrArg (display 1) hopen

/-- What becomes of a card in VACANT (R5, R36). -/
theorem cardEvent_online (hstate : s.session.state = .vacant) (hmode : s.mode = .run) (hhost : s.status.hostLost = false) :
    ((∀ p ∈ s.store.permits, p.card ≠ card) → cardEvent card s = display 5 s) ∧
    ∀ p, findPermit s.store.permits card = some p →
      (p.status = .locked → cardEvent card s = display 4 s) ∧
      (p.status = .suspended → cardEvent card s = display 5 s) ∧
      (p.status = .active → p.expiry < s.clock.day → cardEvent card s = display 6 s) ∧
      (p.status = .active → s.clock.day ≤ p.expiry →
        ((∀ o ∈ s.store.orders, o.card ≠ card) → cardEvent card s = display 7 s) ∧
        ∀ o, findOrder s.store.orders card = some o →
          (¬s.permits p o → cardEvent card s = display 8 s) ∧
          (s.permits p o → p.maxLoad < (o.entries.map fun e => e.preset).sum → cardEvent card s = display 9 s) ∧
          (s.permits p o → (o.entries.map fun e => e.preset).sum ≤ p.maxLoad →
            ((∀ x ∈ s.notes.slots, x.state ≠ .free) → cardEvent card s = display 10 s) ∧
            ((∃ x ∈ s.notes.slots, x.state = .free) → cardEvent card s = admitCard card p s))) := by
  obtain ⟨herror, hok⟩ := cardEvent_vacant (card := card) hstate
  obtain ⟨hnone, hsome⟩ := admission_online card hmode hhost
  refine ⟨fun hno => herror 5 (hnone (findPermit_eq_none hno)), fun p hp => ?_⟩
  obtain ⟨hpermit, horder⟩ := hsome p hp
  refine ⟨fun hst => herror 4 (hpermit 4 (by rw [permitChecks, hst]; rfl)),
    fun hst => herror 5 (hpermit 5 (by rw [permitChecks, hst]; rfl)),
    fun hst hexpired => herror 6 (hpermit 6 ((permitChecks_active hst _).trans (if_neg (by omega)))),
    fun hst hvalid => ?_⟩
  obtain ⟨hchecks, hslots⟩ := horder ((permitChecks_active hst _).trans (if_pos hvalid))
  have hcard := findPermit_card hp
  refine ⟨fun hno => herror 7 (hchecks 7 (orderChecks_noOrder (hcard ▸ hno))), fun o ho => ?_⟩
  have ho' : findOrder s.store.orders p.card = some o := hcard ▸ ho
  refine ⟨fun hnot => herror 8 (hchecks 8 (orderChecks_notPermitted ho' hnot)),
    fun hperm hload => herror 9 (hchecks 9 (orderChecks_overLoad ho' hperm hload)), fun hperm hload => ?_⟩
  obtain ⟨hfull, hroom⟩ := hslots (orderChecks_passes ho' hperm hload)
  exact ⟨fun h => herror 10 (hfull h), fun h => hok p (hroom h)⟩

end

end Sys2Proof.Machine
end

section
/-! ### Selection of a compartment (R11, R12, R42) -/

namespace Sys2Proof.Machine

section
variable {s : State} {number : Nat} {c : Comp} {a : ArmId}

/-- A key in OPEN sets the last key time and the idle base (R4). -/
theorem markKey_opened (h : s.session.state = .opened) :
    markKey s =
      { s with session := { s.session with lastKey := some s.clock.ms, idleBase := some s.clock.ms } } := by
  have hbase : (if s.session.state = .opened then some s.now else s.session.idleBase) = some s.now := if_pos h
  exact congrArg (fun i => { s with session := { s.session with lastKey := some s.clock.ms, idleBase := i } }) hbase

theorem keyEvent_opened (h : s.session.state = .opened) (k : Key) :
    keyEvent k s =
      openKey k { s with session := { s.session with lastKey := some s.clock.ms, idleBase := some s.clock.ms } } := by
  rw [keyEvent, h]
  exact congrArg (openKey k) (markKey_opened h)

/-- The permit of a card permits a product's class, if the active bank has it (R42). -/
def State.rechecks (s : State) (card product : Nat) : Prop :=
  ∃ p, findPermit s.store.permits card = some p ∧ p.status = .active ∧ s.clock.day ≤ p.expiry ∧
    ∀ r, (s.banks.tables s.banks.active).product? product = some r → p.classes.getLsbD r.cls = true

theorem classPermitted_iff (p : Permit) (product : Nat) (s : State) :
    classPermitted p product s = true ↔
      ∀ r, (s.banks.tables s.banks.active).product? product = some r → p.classes.getLsbD r.cls = true := by
  rw [classPermitted]
  cases (s.banks.tables s.banks.active).product? product <;> simp

theorem recheck_iff (card product : Nat) (s : State) : recheck card product s = true ↔ s.rechecks card product := by
  rw [recheck, State.rechecks]
  cases findPermit s.store.permits card with
  | none => simp
  | some p => simp [classPermitted_iff, and_assoc]

/-- The conditions of arm choice (R12). -/
def State.suits (s : State) (r : Product) (a : ArmId) : Prop :=
  s.armState a = .idle ∧ (∃ v, (s.arm a).lastValve = some v ∧ v.coupler = true) ∧
    (∃ u, (s.config a).meter = some u ∧ s.nodeOk u = true) ∧
    (∃ u, (s.config a).valve = some u ∧ s.nodeOk u = true) ∧ r.curve.get a ≠ 0

theorem couplerConnected_iff (s : State) (a : ArmId) :
    s.couplerConnected a = true ↔ ∃ v, (s.arm a).lastValve = some v ∧ v.coupler = true := by
  rw [State.couplerConnected]
  cases (s.arm a).lastValve <;> simp

theorem tagOk_iff (s : State) (t : Option Tag) : s.tagOk t = true ↔ ∃ u, t = some u ∧ s.nodeOk u = true := by
  cases t <;> simp [State.tagOk]

theorem armSuits_iff {product : Nat} {r : Product}
    (hr : (s.banks.tables s.banks.active).product? product = some r) (a : ArmId) :
    s.armSuits product a = true ↔ s.suits r a := by
  have hcurve : s.hasCurve product a = true ↔ r.curve.get a ≠ 0 := by
    rw [State.hasCurve, hr]
    exact bne_iff_ne
  rw [State.armSuits, State.suits, Bool.and_eq_true, Bool.and_eq_true, Bool.and_eq_true, Bool.and_eq_true, beq_iff_eq,
    couplerConnected_iff, tagOk_iff, tagOk_iff, hcurve]
  simp only [and_assoc]

/-- The first arm of a choice, arms taken from 1 to 4. -/
theorem find?_armIds {p : ArmId → Bool} (ha : p a = true) (hfirst : ∀ m, armNumber m < armNumber a → p m = false) :
    armIds.find? p = some a := by
  cases a with
  | a1 => simp [armIds, ha]
  | a2 => simp [armIds, ha, hfirst .a1 (by decide)]
  | a3 => simp [armIds, ha, hfirst .a1 (by decide), hfirst .a2 (by decide)]
  | a4 => simp [armIds, ha, hfirst .a1 (by decide), hfirst .a2 (by decide), hfirst .a3 (by decide)]

theorem captureBank_banks (bank : Bank) (s : State) :
    (captureBank bank s).banks =
      { s.banks with
        countA := s.banks.countA + (if bank = .a then 1 else 0)
        countB := s.banks.countB + (if bank = .b then 1 else 0) } := by
  cases bank <;> rfl

/-- An arm taken for a compartment, as a whole (R12, R95, R152). -/
theorem takeArm_eq (a : ArmId) (c : Comp) (s : State) :
    takeArm a c s =
      { s with
        session :=
          { s.session with
            comps := s.session.comps.map fun x =>
              if x.number = c.number then
                { x with
                  state := .armed, arm := some a, bank := some s.banks.active
                  additive :=
                    ⟨(s.banks.prescription s.banks.active x.product .s1).map fun _ => {},
                      (s.banks.prescription s.banks.active x.product .s2).map fun _ => {}⟩ }
              else x }
        arms := s.arms.set a
          { s.arm a with
            state := .armed, held := some c.number, causes := {}, closedSeen := false, settled := false
            zeroRun := 0, closeTime := none, haltEntry := none
            armedDeadline := some (s.clock.ms + BitVec.ofNat 32 120000) }
        banks :=
          { s.banks with
            countA := s.banks.countA + (if s.banks.active = .a then 1 else 0)
            countB := s.banks.countB + (if s.banks.active = .b then 1 else 0) } } := by
  have hsetup : ∀ (t : State) bank, additiveSetup (captureBank bank t).banks bank = additiveSetup t.banks bank := by
    intro t bank
    cases bank <;> rfl
  unfold takeArm
  dsimp only
  rw [hsetup]
  have hcomps := modComp_modComp s c.number (fun x => { x with state := .armed, arm := some a, bank := some s.banks.active })
    (fun x => { x with additive := additiveSetup s.banks s.banks.active x.product }) fun _ => rfl
  have htaken := congrArg (fun u : State =>
    { s with
      session := u.session, arms := s.arms.set a ((s.arm a).takeComp c.number (s.ahead 120000))
      banks := (captureBank s.banks.active s).banks }) hcomps
  rw [captureBank_banks] at htaken
  exact (congrArg (fun x : Banks =>
    { s with
      session := ((s.modComp c.number fun x => { x with state := .armed, arm := some a, bank := some s.banks.active }).modComp
        c.number fun x => { x with additive := additiveSetup s.banks s.banks.active x.product }).session
      arms := s.arms.set a ((s.arm a).takeComp c.number (s.ahead 120000)), banks := x })
    (captureBank_banks s.banks.active s)).trans htaken

/-- What ENTER of a number makes of a session without HOST ABORT, check by check (R11). -/
theorem selectComp_pending {card : Nat} (hcard : s.session.card = some card) (habort : s.session.hostAbort = false)
    (hc : s.session.comps.find? (fun x => x.number == number && x.state == .pending) = some c) :
    (¬s.rechecks card c.product → selectComp number s = display 19 s) ∧
    (s.rechecks card c.product → (s.banks.tables s.banks.active).product? c.product = none →
      selectComp number s = display 8 s) ∧
    ∀ r, s.rechecks card c.product → (s.banks.tables s.banks.active).product? c.product = some r →
      (s.status.hostLost = true → selectComp number s = display 12 s) ∧
      (s.status.hostLost = false → (∀ a, ¬s.suits r a) → selectComp number s = display 14 s) ∧
      ∀ a, s.status.hostLost = false → s.suits r a → (∀ m, armNumber m < armNumber a → ¬s.suits r m) →
        selectComp number s = display 15 (takeArm a c s) := by
  have hcard' : s.session.card.getD 0 = card := by rw [hcard]; rfl
  have hfalse : ∀ {r : Product} {m : ArmId}, (s.banks.tables s.banks.active).product? c.product = some r →
      ¬s.suits r m → s.armSuits c.product m = false := fun hr hm =>
    Bool.eq_false_iff.2 fun hh => hm ((armSuits_iff hr _).1 hh)
  refine ⟨fun hno => ?_, fun hyes hr => ?_, fun r hyes hr => ⟨fun hlost => ?_, fun hhost hnone => ?_,
    fun a hhost ha hfirst => ?_⟩⟩
  · have hno := Bool.eq_false_iff.2 fun hh => hno ((recheck_iff card c.product s).1 hh)
    simp [selectComp, habort, hc, hcard', hno, msgPermitWithdrawn]
  · simp [selectComp, habort, hc, hcard', (recheck_iff card c.product s).2 hyes, hr, msgProductNotPermitted]
  · simp [selectComp, habort, hc, hcard', (recheck_iff card c.product s).2 hyes, hr, hlost, msgSystemOffline]
  · have hfind : armIds.find? (fun n => s.armSuits c.product n) = none :=
      List.find?_eq_none.2 fun m _ => by rw [hfalse hr (hnone m)]; exact Bool.false_ne_true
    simp [selectComp, habort, hc, hcard', (recheck_iff card c.product s).2 hyes, hr, hhost, hfind, msgNoArm]
  · have hfind : armIds.find? (fun n => s.armSuits c.product n) = some a :=
      find?_armIds ((armSuits_iff hr a).2 ha) fun m hm => hfalse hr (hfirst m hm)
    simp [selectComp, habort, hc, hcard', (recheck_iff card c.product s).2 hyes, hr, hhost, hfind, msgPressStart]

theorem selectComp_none (habort : s.session.hostAbort = false)
    (h : ∀ c ∈ s.session.comps, ¬(c.number = number ∧ c.state = .pending)) : selectComp number s = display 13 s := by
  have hnone : s.session.comps.find? (fun x => x.number == number && x.state == .pending) = none :=
    List.find?_eq_none.2 fun c hc => by
      rw [Bool.and_eq_true, beq_iff_eq, beq_iff_eq]
      exact h c hc
  simp [selectComp, habort, hnone, msgSelectCompartment]

theorem find?_between {before after : List Comp} (h : s.session.comps = before ++ c :: after) (hnumber : c.number = number)
    (hpending : c.state = .pending) (hbefore : ∀ x ∈ before, ¬(x.number = number ∧ x.state = .pending)) :
    s.session.comps.find? (fun x => x.number == number && x.state == .pending) = some c := by
  have hnone : before.find? (fun x => x.number == number && x.state == .pending) = none :=
    List.find?_eq_none.2 fun x hx => by
      rw [Bool.and_eq_true, beq_iff_eq, beq_iff_eq]
      exact hbefore x hx
  rw [h, List.find?_append, hnone, Option.none_or, List.find?_cons_of_pos]
  rw [Bool.and_eq_true, beq_iff_eq, beq_iff_eq]
  exact ⟨hnumber, hpending⟩

end

/-- Settles O53, check by check. -/
theorem admissionChecksInOrder : Obligations.AdmissionChecksInOrder := by
  refine ⟨fun s card => ⟨cardEvent_occupied, fun hvacant => ⟨fun hoff => ?_, fun hmode hhost => ?_⟩⟩, fun s hopen => ?_⟩
  · exact (cardEvent_vacant hvacant).1 12 (admission_offline card hoff)
  · obtain ⟨hnone, hsome⟩ := cardEvent_online (card := card) hvacant hmode hhost
    refine ⟨hnone, fun p hp => ?_⟩
    obtain ⟨hlocked, hsuspended, hexpired, hactive⟩ := hsome p hp
    refine ⟨hlocked, hsuspended, hexpired, fun hst hvalid => ?_⟩
    obtain ⟨hnoOrder, horder⟩ := hactive hst hvalid
    refine ⟨hnoOrder, fun o ho => ?_⟩
    obtain ⟨hnot, hover, hpass⟩ := horder o ho
    refine ⟨hnot, hover, fun hperm hload => ?_⟩
    obtain ⟨hfull, hroom⟩ := hpass hperm hload
    refine ⟨hfull, fun i x hx hfree hfirst => ?_⟩
    have hadmit := hroom ⟨x, List.mem_of_getElem? hx, hfree⟩
    exact ⟨fun code hcode => hadmit.trans (admitCard_coded hcode),
      fun hcode => hadmit.trans (admitCard_open hcode ho hx hfree hfirst)⟩
  · have hkey := fun k => keyEvent_opened hopen k
    intro entry
    refine ⟨fun d => ⟨fun hshort => (hkey _).trans (if_pos hshort), fun hlong => (hkey _).trans (if_neg (not_lt.2 hlong))⟩,
      fun hempty => ?_, fun card hcard hdigits habort => ?_⟩
    · refine (hkey _).trans ?_
      by_cases hd : s.session.digits = []
      · refine (if_pos hd).trans ?_
        rw [← hd]
      · exact (if_neg hd).trans (if_pos (hempty.resolve_left hd))
    · have henter : keyEvent .enter s = selectComp (s.session.digits.foldl (fun v d => v * 10 + d) 0) (entry []) :=
        (hkey _).trans (if_neg hdigits)
      refine ⟨fun hno => henter.trans (selectComp_none (s := entry []) habort hno), fun before c after hcomps hnumber
        hpending hbefore => ?_⟩
      have hfind := find?_between (s := entry []) hcomps hnumber hpending hbefore
      obtain ⟨hnot, hnoProduct, hproduct⟩ := selectComp_pending (s := entry []) hcard habort hfind
      refine ⟨fun h => henter.trans (hnot h), fun h hr => henter.trans (hnoProduct h hr), fun r h hr => ?_⟩
      obtain ⟨hlost, hnoArm, harm⟩ := hproduct r h hr
      refine ⟨fun hl => henter.trans (hlost hl), fun hl hn => henter.trans (hnoArm hl hn), fun a hl ha hfirst => ?_⟩
      exact henter.trans ((harm a hl ha hfirst).trans (congrArg (display 15) (takeArm_eq a c (entry []))))

end Sys2Proof.Machine
end

section
/-! ### The driver code (R38 to R40, R7, R8) -/

namespace Sys2Proof.Machine

section
variable {s : State} {card : Nat} {p : Permit} {entered : Option (List Nat)}

/-- The state in which the code check has written the failed attempts and the status of a card's permit (R39, R40). -/
def State.written (s : State) (card attempts : Nat) (status : PermitStatus) : State :=
  { s with
    store :=
      { s.store with
        permits := s.store.permits.map fun q =>
          if q.card = card then { q with attempts := attempts, status := status } else q } }

theorem codeCheck_withdrawn (entered : Option (List Nat)) :
    ((∀ p ∈ s.store.permits, p.card ≠ card) → codeCheck card entered s = (s, .withdrawn 5)) ∧
    ∀ p, findPermit s.store.permits card = some p →
      (p.status = .suspended → codeCheck card entered s = (s, .withdrawn 5)) ∧
      (p.status = .locked → codeCheck card entered s = (s, .withdrawn 4)) := by
  refine ⟨fun hno => ?_, fun p hp => ⟨fun hst => ?_, fun hst => ?_⟩⟩
  · rw [codeCheck, findPermit_eq_none hno]
    rfl
  · rw [codeCheck, hp]
    dsimp only
    rw [hst]
    rfl
  · rw [codeCheck, hp]
    dsimp only
    rw [hst]
    rfl

/-- Whether a submitted code is the permit's (R39). -/
def Permit.accepts (p : Permit) (entered : Option (List Nat)) : Bool :=
  match p.code with
  | none => true
  | some driver => codeMatches driver entered

theorem Permit.accepts_iff (p : Permit) (entered : Option (List Nat)) :
    p.accepts entered = true ↔ p.code = none ∨ entered.isSome = true ∧ entered = p.code := by
  rw [Permit.accepts]
  cases p.code with
  | none => simp
  | some driver => cases entered <;> simp [codeMatches]

theorem codeCheck_active (hp : findPermit s.store.permits card = some p) (hst : p.status = .active)
    (entered : Option (List Nat)) :
    codeCheck card entered s =
      if p.accepts entered then (s.written card 0 .active, .correct)
      else if p.attempts + 1 < 3 then (s.written card (p.attempts + 1) .active, .wrong)
      else
        ({ s.written card 3 .locked with
            status := { s.status with flags := { s.status.flags with lockout := true } } }, .lockedOut) := by
  have hcard := findPermit_card hp
  have hcharge : chargeAttempt p s =
      if p.attempts + 1 < 3 then (s.written card (p.attempts + 1) .active, .wrong)
      else
        ({ s.written card 3 .locked with
            status := { s.status with flags := { s.status.flags with lockout := true } } }, .lockedOut) := by
    rw [chargeAttempt, hcard, hst]
    rfl
  rw [codeCheck, hp]
  dsimp only
  rw [hst, ← hcharge, hcard]
  rfl

/-- What the code check leaves of a state: all but the permits and the flag LOCKOUT (R39, R40). -/
theorem codeCheck_keeps (card : Nat) (entered : Option (List Nat)) (s : State) :
    (codeCheck card entered s).1 =
        { s with store := (codeCheck card entered s).1.store, status := (codeCheck card entered s).1.status } ∧
      (codeCheck card entered s).1.store.orders = s.store.orders ∧
      (codeCheck card entered s).1.status.hostLost = s.status.hostLost := by
  cases hp : findPermit s.store.permits card with
  | none =>
    rw [codeCheck, hp]
    exact ⟨rfl, rfl, rfl⟩
  | some p =>
    obtain ⟨hsuspended, hlocked⟩ := (codeCheck_withdrawn (s := s) (card := card) entered).2 p hp
    cases hst : p.status with
    | suspended =>
      rw [hsuspended hst]
      exact ⟨rfl, rfl, rfl⟩
    | locked =>
      rw [hlocked hst]
      exact ⟨rfl, rfl, rfl⟩
    | active =>
      rw [codeCheck_active hp hst]
      (repeat' split) <;> exact ⟨rfl, rfl, rfl⟩

theorem findPermit_written (s : State) (card attempts : Nat) (status : PermitStatus) :
    findPermit (s.written card attempts status).store.permits card =
      (findPermit s.store.permits card).map fun p => { p with attempts := attempts, status := status } := by
  have hsame : ((fun p : Permit => p.card == card) ∘ fun q : Permit =>
      if q.card = card then { q with attempts := attempts, status := status } else q) = fun p => p.card == card := by
    funext q
    rw [Function.comp_apply]
    split <;> rfl
  refine (List.find?_map ..).trans ?_
  rw [hsame]
  cases hp : s.store.permits.find? fun p => p.card == card with
  | none => rw [findPermit, hp]; rfl
  | some p =>
    have hcard : p.card = card := by simpa using List.find?_some hp
    rw [findPermit, hp, Option.map_some, Option.map_some, if_pos hcard]

/-- A correct code leaves the permit found with its class and its maximum load. -/
theorem findPermit_of_correct (hcorrect : (codeCheck card entered s).2 = .correct)
    (hp : findPermit s.store.permits card = some p) :
    ∃ q, findPermit (codeCheck card entered s).1.store.permits card = some q ∧ q.classes = p.classes ∧
      q.maxLoad = p.maxLoad := by
  obtain ⟨hsuspended, hlocked⟩ := (codeCheck_withdrawn (s := s) (card := card) entered).2 p hp
  cases hst : p.status with
  | suspended => rw [hsuspended hst] at hcorrect; exact nomatch hcorrect
  | locked => rw [hlocked hst] at hcorrect; exact nomatch hcorrect
  | active =>
    rw [codeCheck_active hp hst] at hcorrect ⊢
    by_cases haccepts : p.accepts entered = true
    · rw [if_pos haccepts]
      exact ⟨{ p with attempts := 0, status := .active }, (findPermit_written s card 0 .active).trans (by rw [hp]; rfl),
        rfl, rfl⟩
    · rw [if_neg haccepts] at hcorrect
      split at hcorrect <;> exact nomatch hcorrect

/-! #### The keys of CODE ENTRY (R7, R8) -/

theorem keyEvent_codeEntry (h : s.session.state = .codeEntry) (k : Key) :
    keyEvent k s = codeKey k { s with session := { s.session with lastKey := some s.clock.ms } } := by
  have hbase : (if s.session.state = .opened then some s.now else s.session.idleBase) = s.session.idleBase :=
    if_neg (by rw [h]; decide)
  have hmark : markKey s = { s with session := { s.session with lastKey := some s.clock.ms } } :=
    congrArg (fun i => { s with session := { s.session with lastKey := some s.clock.ms, idleBase := i } }) hbase
  rw [keyEvent, h]
  exact congrArg (codeKey k) hmark

/-- The state in which a code is checked: the entry empty, the deadline 30 s ahead (R7). -/
def State.submitting (s : State) : State :=
  { s with
    session :=
      { s.session with
        digits := [], lastKey := some s.clock.ms, codeDeadline := some (s.clock.ms + BitVec.ofNat 32 30000) } }

theorem keyEvent_submits (h : s.session.state = .codeEntry) (hcard : s.session.card = some card) {k : Key}
    (hk : k = .enter ∧ s.session.digits ≠ [] ∧ entered = some s.session.digits ∨
      (∃ d, k = .digit d) ∧ 6 ≤ s.session.digits.length ∧ entered = none) :
    keyEvent k s = takeOutcome (codeCheck card entered s.submitting).2 (codeCheck card entered s.submitting).1 := by
  have hgetD : s.session.card.getD 0 = card := by rw [hcard]; rfl
  have hsubmit : submitCode entered { s with session := { s.session with lastKey := some s.clock.ms } } =
      takeOutcome (codeCheck card entered s.submitting).2 (codeCheck card entered s.submitting).1 := by
    rw [← hgetD]
    rfl
  rw [keyEvent_codeEntry h, ← hsubmit]
  rcases hk with ⟨rfl, hdigits, rfl⟩ | ⟨⟨d, rfl⟩, hfull, rfl⟩
  · exact if_neg hdigits
  · exact if_neg (not_lt.2 hfull)

/-- A state returned to VACANT after its DISPLAY, the session's reader tag and mode those of `s` (R1, R8). -/
def State.vacatedTo (w s : State) : State :=
  { w with
    session := { readerTag := s.session.readerTag }, notes := { w.notes with held := none }
    mode := if s.mode = .servicePending then .service else s.mode
    permissive := if s.mode = .servicePending then { s.permissive with bayPermit := false } else s.permissive }

theorem returnVacant_codeCheck (card m : Nat) (entered : Option (List Nat)) (s : State) :
    returnVacant (display m (codeCheck card entered s.submitting).1) =
      (display m (codeCheck card entered s.submitting).1).vacatedTo s := by
  obtain ⟨hkeep, -, -⟩ := codeCheck_keeps card entered s.submitting
  rw [returnVacant_display, State.vacatedTo]
  generalize (codeCheck card entered s.submitting).1 = v at *
  have hsession : v.session.readerTag = s.session.readerTag := by rw [hkeep]; rfl
  have hmode : v.mode = s.mode := by rw [hkeep]; rfl
  have hpermissive : v.permissive = s.permissive := by rw [hkeep]; rfl
  rw [hsession, hmode, hpermissive]

theorem permits_congr {t : State} {q : Permit} {o : Order} (hbanks : t.banks = s.banks) (hclasses : q.classes = p.classes) :
    t.permits q o ↔ s.permits p o := by
  rw [State.permits, State.permits, hbanks, hclasses]

theorem takeOutcome_correct_fails {t : State} {m : Nat} (h : repeatedChecks (t.session.card.getD 0) t = some m) :
    takeOutcome .correct t = returnVacant (display m t) := by
  rw [takeOutcome, h]

theorem takeOutcome_correct_passes {t : State} (h : repeatedChecks (t.session.card.getD 0) t = none) :
    takeOutcome .correct t = display 1 (enterOpen t) := by
  rw [takeOutcome, h]
  rfl

theorem repeatedChecks_lost {t : State} (card : Nat) (h : t.status.hostLost = true) : repeatedChecks card t = some 12 := by
  rw [repeatedChecks, h]
  rfl

theorem repeatedChecks_of_permit {t : State} (h : t.status.hostLost = false)
    (hp : findPermit t.store.permits card = some p) : repeatedChecks card t = orderChecks p t := by
  rw [repeatedChecks, h, hp]
  rfl

/-- A correct code repeats the checks of host lost and of the order, and opens the session (R8, R38). -/
theorem takeOutcome_correct (hcard : s.session.card = some card)
    (hout : (codeCheck card entered s.submitting).2 = .correct) (hp : findPermit s.store.permits card = some p) :
    let v := (codeCheck card entered s.submitting).1
    (s.status.hostLost = true → takeOutcome .correct v = returnVacant (display 12 v)) ∧
    (s.status.hostLost = false →
      ((∀ o ∈ s.store.orders, o.card ≠ card) → takeOutcome .correct v = returnVacant (display 7 v)) ∧
      ∀ o, findOrder s.store.orders card = some o →
        (¬s.permits p o → takeOutcome .correct v = returnVacant (display 8 v)) ∧
        (s.permits p o → p.maxLoad < (o.entries.map fun x => x.preset).sum →
          takeOutcome .correct v = returnVacant (display 9 v)) ∧
        (s.permits p o → (o.entries.map fun x => x.preset).sum ≤ p.maxLoad →
          ∀ (i : Nat) (x : NoteSlot), s.notes.slots[i]? = some x → x.state = .free →
            (∀ j y, j < i → s.notes.slots[j]? = some y → y.state ≠ .free) →
            takeOutcome .correct v = display 1
              { v with
                session :=
                  { s.session with
                    state := .opened, orderRef := some o.ref, vehicle := o.vehicle
                    openTime := some (s.clock.day, s.clock.second), hostAbort := false
                    hostLostDuring := false, digits := [], lastKey := some s.clock.ms
                    idleBase := some s.clock.ms, codeDeadline := none
                    comps := o.entries.map fun x =>
                      { number := x.number, product := x.product, preset := x.preset * 1000 } }
                store := { v.store with orders := s.store.orders.filter fun y => y.card != card }
                notes :=
                  { s.notes with
                    slots := s.notes.slots.set i { x with state := .reserved }, held := some i } })) := by
  obtain ⟨q, hq, hclasses, hload⟩ := findPermit_of_correct hout hp
  obtain ⟨hkeep, horders, hhost⟩ := codeCheck_keeps card entered s.submitting
  dsimp only
  generalize (codeCheck card entered s.submitting).1 = v at *
  have hsession : v.session = s.submitting.session := by rw [hkeep]
  have hclock : v.clock = s.clock := by rw [hkeep]; rfl
  have hnotes : v.notes = s.notes := by rw [hkeep]; rfl
  have hbanks : v.banks = s.banks := by rw [hkeep]; rfl
  have horders : v.store.orders = s.store.orders := horders
  have hqcard := findPermit_card hq
  have hcard' : v.session.card = some card := by rw [hsession]; exact hcard
  have hgetD : v.session.card.getD 0 = card := by rw [hcard']; rfl
  refine ⟨fun hlost => takeOutcome_correct_fails (repeatedChecks_lost _ (hhost.trans hlost)), fun honline => ?_⟩
  have hchecks : repeatedChecks (v.session.card.getD 0) v = orderChecks q v := by
    rw [hgetD]
    exact repeatedChecks_of_permit (hhost.trans honline) hq
  refine ⟨fun hno => takeOutcome_correct_fails (hchecks.trans (orderChecks_noOrder ?_)), fun o ho => ?_⟩
  · rw [horders, hqcard]
    exact hno
  · have ho' : findOrder v.store.orders q.card = some o := by rw [horders, hqcard, ho]
    have hsame := permits_congr (s := s) (t := v) (p := p) (q := q) (o := o) hbanks hclasses
    refine ⟨fun hnot => takeOutcome_correct_fails (hchecks.trans (orderChecks_notPermitted ho' fun h => hnot (hsame.1 h))),
      fun hperm hover => takeOutcome_correct_fails (hchecks.trans (orderChecks_overLoad ho' (hsame.2 hperm) (hload ▸ hover))),
      fun hperm hwithin i x hx hfree hfirst => ?_⟩
    rw [takeOutcome_correct_passes (hchecks.trans (orderChecks_passes ho' (hsame.2 hperm) (hload ▸ hwithin))),
      enterOpen_eq hcard' (by rw [horders, ho]) (by rw [hnotes]; exact hx) hfree (by rw [hnotes]; exact hfirst),
      hsession, hclock, hnotes, horders]
    rfl

end

/-- Settles O54: the check, then what its outcome does. -/
theorem driverCodeIsCheckedAndCharged : Obligations.DriverCodeIsCheckedAndCharged := by
  refine ⟨fun s card entered => ?_, fun s card hentry hcard => ?_⟩
  case refine_1 =>
    obtain ⟨hnone, hsome⟩ := codeCheck_withdrawn (s := s) (card := card) entered
    refine ⟨hnone, fun p hp => ?_⟩
    obtain ⟨hsuspended, hlocked⟩ := hsome p hp
    refine ⟨hsuspended, hlocked, fun hst => ⟨fun hok => ?_, fun hcode hwrong => ⟨fun hfew => ?_, fun hmany => ?_⟩⟩⟩
    · rw [codeCheck_active hp hst, if_pos ((p.accepts_iff entered).2 hok)]
      rfl
    all_goals
      have hno : ¬p.accepts entered = true := fun h => by
        rcases (p.accepts_iff entered).1 h with hnocode | ⟨-, hsame⟩
        · rw [hnocode] at hcode
          exact Bool.false_ne_true hcode
        · exact hwrong hsame
    · rw [codeCheck_active hp hst, if_neg hno, if_pos hfew]
      rfl
    · rw [codeCheck_active hp hst, if_neg hno, if_neg (by omega)]
      rfl
  case refine_2 =>
    have hkey := keyEvent_codeEntry hentry
    refine ⟨fun d hd => (hkey _).trans (if_pos hd), fun hd => ?_, fun k hk => ?_, fun k entered hk => ?_⟩
    · refine (hkey .enter).trans ((if_pos hd).trans ?_)
      rw [← hd]
    · rcases hk with rfl | rfl | rfl <;> exact hkey _
    · have hsubmit := keyEvent_submits hentry hcard hk
      have hvacant := fun m => returnVacant_codeCheck card m entered s
      intro u v vacated
      refine ⟨fun hout => ?_, fun hout => ?_, fun m hout => ?_, fun hout p hp => ?_⟩
      · have hout : (codeCheck card entered s.submitting).2 = .wrong := hout
        rw [hsubmit, hout]
        rfl
      · have hout : (codeCheck card entered s.submitting).2 = .lockedOut := hout
        rw [hsubmit, hout]
        exact hvacant 4
      · have hout : (codeCheck card entered s.submitting).2 = .withdrawn m := hout
        rw [hsubmit, hout]
        exact hvacant m
      · have hout : (codeCheck card entered s.submitting).2 = .correct := hout
        obtain ⟨hlost, honline⟩ := takeOutcome_correct hcard hout hp
        rw [hsubmit, hout]
        refine ⟨fun hl => (hlost hl).trans (hvacant 12), fun hh => ?_⟩
        obtain ⟨hnoOrder, horder⟩ := honline hh
        refine ⟨fun hno => (hnoOrder hno).trans (hvacant 7), fun o ho => ?_⟩
        obtain ⟨hnot, hover, hpass⟩ := horder o ho
        exact ⟨fun h => (hnot h).trans (hvacant 8), fun h hl => (hover h hl).trans (hvacant 9),
          fun h hl i x hx hfree hfirst => hpass h hl i x hx hfree hfirst⟩

end Sys2Proof.Machine
end

section
/-! ### What a sample's later steps leave of its accounts (R85, R87) -/

namespace Sys2Proof.Machine

/-- The accounts that metering keeps of a compartment. -/
def Comp.account (c : Comp) : Nat × Nat × Nat × Nat × Nat × Int :=
  (c.number, c.gross, c.grossRes, c.standard, c.standardRes, c.tempSum)

/-- `t` has the accounts of `s`, those of its compartments and those of one arm. -/
structure Accounted (n : ArmId) (s t : State) : Prop where
  comps : t.session.comps.map Comp.account = s.session.comps.map Comp.account
  totalizer : (t.arm n).totalizer = (s.arm n).totalizer
  unassigned : (t.arm n).unassigned = (s.arm n).unassigned

section
variable {n : ArmId} {s t u : State}

theorem Accounted.refl (n : ArmId) (s : State) : Accounted n s s := ⟨rfl, rfl, rfl⟩

theorem Accounted.trans (h : Accounted n s t) (h' : Accounted n t u) : Accounted n s u :=
  ⟨h'.comps.trans h.comps, h'.totalizer.trans h.totalizer, h'.unassigned.trans h.unassigned⟩

theorem accounted_modArm (f : Arm → Arm) (htotal : (f (s.arm n)).totalizer = (s.arm n).totalizer)
    (hun : (f (s.arm n)).unassigned = (s.arm n).unassigned) : Accounted n s (s.modArm n f) :=
  ⟨rfl, by rw [arm_modArm, if_pos rfl, htotal], by rw [arm_modArm, if_pos rfl, hun]⟩

theorem accounted_modHeld (m : ArmId) (f : Comp → Comp) (hf : ∀ c, (f c).account = c.account) (s : State) :
    Accounted n s (s.modHeld m f) :=
  ⟨modHeld_keeps Comp.account m f hf s, by rw [arm_modHeld], by rw [arm_modHeld]⟩

theorem accounted_shortHeld (n : ArmId) (s : State) : Accounted n s (shortHeld n s) :=
  accounted_modHeld n (fun c => { c with state := .short }) (fun _ => rfl) s

/-- The records that a commanded position leaves. -/
theorem commandPosition_accounts (a : Arm) (p : Position) (now settleAt : Ms) :
    (a.commandPosition p now settleAt).totalizer = a.totalizer ∧
      (a.commandPosition p now settleAt).unassigned = a.unassigned ∧ (a.commandPosition p now settleAt).trip = a.trip := by
  unfold Arm.commandPosition
  split <;> exact ⟨rfl, rfl, rfl⟩

theorem halt_accounts (a : Arm) (now settleAt haltAt : Ms) :
    (a.halt now settleAt haltAt).totalizer = a.totalizer ∧ (a.halt now settleAt haltAt).unassigned = a.unassigned := by
  unfold Arm.halt
  split
  · obtain ⟨htotal, hun, -⟩ := commandPosition_accounts a .closed now settleAt
    exact ⟨htotal, hun⟩
  · exact ⟨rfl, rfl⟩

theorem offered_accounts (a : Arm) (c : Cause) (now settleAt haltAt : Ms) :
    (a.offered c now settleAt haltAt).totalizer = a.totalizer ∧
      (a.offered c now settleAt haltAt).unassigned = a.unassigned := by
  unfold Arm.offered
  split
  · exact halt_accounts _ now settleAt haltAt
  split
  · exact ⟨rfl, rfl⟩
  · exact ⟨rfl, rfl⟩

theorem flagged_accounts (s : State) (choice : ArmId → Bool) (f : CompFlags → CompFlags) :
    (s.flagged choice f).map Comp.account = s.session.comps.map Comp.account := by
  rw [flagged_eq, List.map_map]
  refine List.map_congr_left fun c _ => ?_
  rw [Function.comp_apply]
  split <;> rfl

theorem accounted_offerCause (n : ArmId) (c : Cause) (s : State) : Accounted n s (offerCause n c s) := by
  have harm := offerCause_arm n n c s
  rw [if_pos rfl] at harm
  obtain ⟨htotal, hun⟩ := offered_accounts (s.arm n) c s.now (s.ahead 15000) (s.ahead 600000)
  refine ⟨?_, by rw [harm, htotal], by rw [harm, hun]⟩
  by_cases hact : (s.armState n).isActive = true
  · rw [offerCause_of_active n c s hact]
    dsimp only
    exact flagged_accounts s _ _
  · by_cases hhalt : s.armState n = .halted
    · rw [offerCause_of_halted n c s hhalt]
      dsimp only
      exact flagged_accounts s _ _
    · have hsame : offerCause n c s = s := (if_neg hact).trans (if_neg hhalt)
      rw [hsame]

theorem accounted_moveStage (n : ArmId) (p : Position) (st : ArmState) (s : State) : Accounted n s (moveStage n p st s) := by
  have harm : (moveStage n p st s).arm n =
      { (s.arm n).commandPosition p s.now (s.ahead 15000) with state := st } := by
    rw [moveStage, arm_modArm, if_pos rfl, commandValve_arm, if_pos rfl]
  obtain ⟨htotal, hun, -⟩ := commandPosition_accounts (s.arm n) p s.now (s.ahead 15000)
  refine ⟨?_, by rw [harm, ← htotal], by rw [harm, ← hun]⟩
  rw [moveStage_eq]

theorem accounted_stagingTest (n : ArmId) (s : State) : Accounted n s (stagingTest n s) := by
  unfold stagingTest
  (repeat' split)
  · exact .refl n s
  · exact accounted_moveStage n _ _ s
  · exact accounted_moveStage n _ _ s
  · exact accounted_moveStage n _ _ s
  · exact .refl n s
  · exact .refl n s

theorem accounted_recomputeOwed (n : ArmId) (k : Slot) (s : State) : Accounted n s (recomputeOwed n k s) := by
  unfold recomputeOwed
  (repeat' split)
  · exact .refl n s
  · exact .refl n s
  · exact accounted_modHeld n (fun c => c.modAdditive k _) (fun _ => rfl) s

theorem accounted_commandShot (n : ArmId) (k : Slot) (t : Tag) (size : Nat) (s : State) :
    Accounted n s (commandShot n k t size s) := by
  unfold commandShot
  refine Accounted.trans ?_ (accounted_modHeld n _ ?_ _)
  · exact ⟨rfl, rfl, rfl⟩
  · exact fun _ => rfl

theorem accounted_paceSlot (n : ArmId) (k : Slot) (s : State) : Accounted n s (paceSlot n k s) := by
  unfold paceSlot
  (repeat' split)
  · exact .refl n s
  · exact .refl n s
  · exact accounted_commandShot n k _ _ s
  · exact .refl n s
  · exact .refl n s

theorem accounted_releaseExamine (n : ArmId) (blk : Option BlockCause) (s : State) :
    Accounted n s (releaseExamine n blk s) := by
  have harm := releaseExamine_arm n n blk s
  cases hc : s.heldComp n with
  | none =>
    have hsame : releaseExamine n blk s = examine s := by rw [releaseExamine, release, hc]
    rw [hsame]
    exact ⟨by rw [examine_comps], by rw [arm_of_arms (examine_arms s)], by rw [arm_of_arms (examine_arms s)]⟩
  | some c =>
    rw [hc, if_pos ⟨rfl, rfl⟩] at harm
    refine ⟨?_, by rw [harm]; rfl, by rw [harm]; rfl⟩
    rw [releaseExamine, examine_comps, release_comps Comp.account n blk s c hc fun _ _ => rfl]
    exact List.map_congr_left fun x _ => by split <;> rfl

theorem accounted_completeComp (n : ArmId) (s : State) : Accounted n s (completeComp n s) := by
  unfold completeComp
  split
  · exact .refl n s
  · refine Accounted.trans (Accounted.trans ?_ (accounted_modHeld n _ ?_ _)) (accounted_releaseExamine n none _)
    · exact accounted_modArm _ rfl rfl
    · exact fun _ => rfl

theorem accounted_settleTest (n : ArmId) (s : State) : Accounted n s (settleTest n s) := by
  have hsettled : Accounted n s (s.modArm n fun a => { a with settled := true, settleDeadline := none }) :=
    accounted_modArm _ rfl rfl
  unfold settleTest
  split
  · dsimp only
    cases s.armState n
    case closing => exact hsettled.trans (accounted_completeComp n _)
    case halted =>
      dsimp only
      split
      · exact (hsettled.trans (accounted_shortHeld n _)).trans (accounted_releaseExamine n none _)
      · exact hsettled
    all_goals exact hsettled
  · exact .refl n s

end

end Sys2Proof.Machine
end

section
/-! ### A sample after the baseline (R73 to R76, R85 to R88) -/

namespace Sys2Proof.Machine

section
variable {s : State} {n : ArmId} {tag : Tag} {count c0 : Nat} {t0 : Ms} {c : Comp}

/-- The meter record of an accepted sample (R76). -/
def State.sampled (s : State) (n : ArmId) (count : Nat) : State :=
  { s with metering := s.metering.set n { s.meter n with baseline := some (count, s.clock.ms), run := 0 } }

theorem sampled_meter (s : State) (n : ArmId) (count : Nat) :
    (s.sampled n count).meter n = { s.meter n with baseline := some (count, s.clock.ms), run := 0 } :=
  (get_set_arm s.metering n n _).trans (if_pos rfl)

theorem meterReport_implausible (hmeter : (s.config n).meter = some tag) (hnode : s.nodeLost tag = false)
    (hbase : (s.meter n).baseline = some (c0, t0)) {ok : Bool}
    (h : ok = false ∨ 2 * (s.config n).maxFlow <
      flowRate (pulseDelta count c0) (s.config n).kFactor (clampInterval (s.elapsed t0))) :
    meterReport n tag count ok s = implausibleSample n s := by
  unfold meterReport
  rw [if_pos ⟨hmeter, by rw [hnode]; exact Bool.false_ne_true⟩]
  cases ok with
  | false => rfl
  | true =>
    rw [if_neg (by decide), hbase]
    exact if_pos (h.resolve_left (by decide))

theorem meterReport_accepted (hmeter : (s.config n).meter = some tag) (hnode : s.nodeLost tag = false)
    (hbase : (s.meter n).baseline = some (c0, t0))
    (h : flowRate (pulseDelta count c0) (s.config n).kFactor (clampInterval (s.elapsed t0)) ≤
      2 * (s.config n).maxFlow) :
    meterReport n tag count true s = acceptedSample n count (pulseDelta count c0)
      (flowRate (pulseDelta count c0) (s.config n).kFactor (clampInterval (s.elapsed t0))) s := by
  unfold meterReport
  rw [if_pos ⟨hmeter, by rw [hnode]; exact Bool.false_ne_true⟩, if_neg (by decide), hbase]
  exact if_neg (not_lt.2 h)

/-- An implausible sample that is not the third in a row (R75). -/
theorem implausibleSample_counted (h : (s.meter n).run < 2) :
    implausibleSample n s =
      { s with
        status :=
          { s.status with
            counters :=
              { s.status.counters with implausible := min (s.status.counters.implausible + 1) 65535 } }
        metering := s.metering.set n { s.meter n with run := (s.meter n).run + 1 } } :=
  if_pos h

theorem implausibleSample_fault (h : 2 ≤ (s.meter n).run) :
    implausibleSample n s =
      meterFault n ((s.count .implausible).modMeter n fun m => { m with run := 0, baseline := none }) :=
  if_neg (not_lt.2 h)

/-! #### A meter fault (R63) -/

theorem releaseExamine_meterFlag (n : ArmId) (blk : Option BlockCause) (s : State) :
    (releaseExamine n blk s).status.flags.meterFault = s.status.flags.meterFault := by
  cases hc : s.heldComp n with
  | none => simp [releaseExamine, release, hc]
  | some c =>
    rw [(released_releaseExamine blk hc).status]
    rfl

theorem meterFault_flag (n : ArmId) (s : State) : (meterFault n s).status.flags.meterFault = true := by
  unfold meterFault
  dsimp only
  split
  · rw [releaseExamine_meterFlag]
    simp [State.raiseFlag]
    rfl
  split
  · simp
    rfl
  · rfl

theorem closeIfOpen_keeps (n : ArmId) (s : State) :
    ((closeIfOpen n s).arm n).held = (s.arm n).held ∧ ((closeIfOpen n s).arm n).trip = (s.arm n).trip := by
  unfold closeIfOpen
  split
  · exact ⟨rfl, rfl⟩
  · rw [commandValve_arm, if_pos rfl]
    unfold Arm.commandPosition
    split <;> exact ⟨rfl, rfl⟩

theorem heldComp_modHeld_isSome (f : Comp → Comp) (hf : ∀ c, (f c).number = c.number) :
    ((s.modHeld n f).heldComp n).isSome = (s.heldComp n).isSome := by
  rw [heldComp_of_map (s := s) (congrArg Arm.held (arm_modHeld s n n f)) (modHeld_comps s n f) fun c => ?_, Option.isSome_map]
  split
  · exact hf c
  · rfl

/-- A meter fault of a loading arm blocks it (R63). -/
theorem meterFault_loading (hl : (s.armState n).isLoading = true) (hc : (s.heldComp n).isSome = true) :
    (meterFault n s).armState n = .blocked ∧ ((meterFault n s).arm n).blockCause = some .meter ∧
      ((meterFault n s).arm n).held = none ∧ ((meterFault n s).arm n).trip = (s.arm n).trip := by
  obtain ⟨hheld, htrip⟩ := closeIfOpen_keeps n (s.raiseFlag .meterFault)
  have heq : meterFault n s = releaseExamine n (some .meter) ((closeIfOpen n (s.raiseFlag .meterFault)).modHeld n fun c =>
      { c with state := .short, flags := { c.flags with meterFault := true, short := true } }) := if_pos hl
  have hsome : (((closeIfOpen n (s.raiseFlag .meterFault)).modHeld n fun c =>
      { c with state := .short, flags := { c.flags with meterFault := true, short := true } }).heldComp n).isSome = true := by
    refine (heldComp_modHeld_isSome _ ?_).trans ?_
    · exact fun _ => rfl
    · rw [heldComp_congr (s := s) hheld (by simp), hc]
  have harm := releaseExamine_arm n n (some .meter) ((closeIfOpen n (s.raiseFlag .meterFault)).modHeld n fun c =>
      { c with state := .short, flags := { c.flags with meterFault := true, short := true } })
  rw [if_pos ⟨rfl, hsome⟩, ← heq, arm_modHeld] at harm
  rw [State.armState, harm]
  exact ⟨rfl, rfl, rfl, htrip⟩

theorem meterFault_idle (h : s.armState n = .idle ∨ s.armState n = .blocked) : (meterFault n s).arm n = s.arm n := by
  have hl : ¬(s.armState n).isLoading = true := by rcases h with h | h <;> rw [h] <;> decide
  have ha : ¬s.armState n = .armed := by rcases h with h | h <;> rw [h] <;> decide
  have heq : meterFault n s = s.raiseFlag .meterFault := (if_neg hl).trans (if_neg ha)
  rw [heq]
  rfl

/-! #### An accepted sample (R76, R85 to R88) -/

/-- The TEMP HELD condition of a sample (R82). -/
def State.staleNow (s : State) (n : ArmId) : Bool :=
  (s.meter n).invalidMark || (s.meter n).staleMark ||
    match (s.meter n).heldTemp with
    | none => true
    | some (_, arrival) => decide (2000 < (s.clock.ms - arrival).toNat)

theorem tempIsHeld_sampled (s : State) (n : ArmId) (count : Nat) : (s.sampled n count).tempIsHeld n = s.staleNow n := by
  rw [State.tempIsHeld, sampled_meter, State.staleNow]
  cases (s.meter n).heldTemp <;> rfl

/-- The increments and flags of a sample in the compartments of one number, and its volume in the totalizer (R85). -/
theorem accumulateSample_eq (hc : s.heldComp n = some c) (g st : Nat × Nat) (t : Int) (held sat : Bool) :
    accumulateSample n g st t held sat s =
      { s with
        arms := s.arms.set n { s.arm n with totalizer := ((s.arm n).totalizer + g.1) % 1000000000000 }
        session :=
          { s.session with
            comps := s.session.comps.map fun x =>
              if x.number = c.number then (x.accumulate g st t).sampleFlags held sat else x } } := by
  rw [accumulateSample, modHeld_of_heldComp hc]
  rfl

theorem offerCause_comps (n : ArmId) (cause : Cause) (s : State) :
    ∃ F : Comp → Comp, (offerCause n cause s).session.comps = s.session.comps.map F ∧
      ∀ c, (F c).number = c.number ∧ (F c).additive = c.additive := by
  have hflag : ∀ (choice : ArmId → Bool) (f : CompFlags → CompFlags), ∃ F : Comp → Comp,
      s.flagged choice f = s.session.comps.map F ∧ ∀ c, (F c).number = c.number ∧ (F c).additive = c.additive := by
    refine fun choice f => ⟨_, flagged_eq s choice f, fun c => ?_⟩
    split <;> exact ⟨rfl, rfl⟩
  by_cases hact : (s.armState n).isActive = true
  · rw [offerCause_of_active n cause s hact]
    dsimp only
    exact hflag _ _
  · by_cases hhalt : s.armState n = .halted
    · rw [offerCause_of_halted n cause s hhalt]
      dsimp only
      exact hflag _ _
    · have hsame : offerCause n cause s = s := (if_neg hact).trans (if_neg hhalt)
      rw [hsame]
      exact ⟨fun c => c, (List.map_id' _).symm, fun _ => ⟨rfl, rfl⟩⟩

theorem offerCause_held (n m : ArmId) (cause : Cause) (s : State) :
    ((offerCause n cause s).arm m).held = (s.arm m).held := by
  rw [offerCause_arm]
  split
  next hm =>
    subst hm
    unfold Arm.offered
    split
    · unfold Arm.halt Arm.commandPosition
      (repeat' split) <;> rfl
    split <;> rfl
  next => rfl

theorem offerCause_slotLost (n m : ArmId) (cause : Cause) (k : Slot) (s : State) :
    (offerCause n cause s).slotLost m k = s.slotLost m k := by
  obtain ⟨F, hF, hkeep⟩ := offerCause_comps n cause s
  have hdoses : (offerCause n cause s).dosesSlot m k = s.dosesSlot m k := by
    rw [State.dosesSlot, State.dosesSlot, heldComp_of_map (offerCause_held n m cause s) hF fun c => (hkeep c).1]
    cases s.heldComp m with
    | none => rfl
    | some c =>
      rw [Option.map_some]
      dsimp only
      rw [(hkeep c).2]
  have hlost : ∀ t, (offerCause n cause s).nodeLost t = s.nodeLost t := fun t => by
    simp [State.nodeLost, State.node]
  have hconfig : (offerCause n cause s).config m = s.config m := by simp [State.config]
  rw [State.slotLost, State.slotLost, hdoses, hconfig]
  cases (s.config m).injector.get k with
  | none => rfl
  | some t => exact congrArg (fun b => s.dosesSlot m k && b) (hlost t)

/-- The offers of a sample, each by what the state before all of them tells (R87). -/
theorem sampleOffers_eq (n : ArmId) (full : Bool) (s : State) :
    sampleOffers n full s =
      let u1 := if full then offerCause n .driverStop s else s
      let u2 := if (s.meter n).staleMark then offerCause n .tempStale u1 else u1
      if s.slotLost n .s1 || s.slotLost n .s2 then offerCause n .injectorLost u2 else u2 := by
  have hmeter : ∀ cause t, (offerCause n cause t).meter n = t.meter n := fun cause t => by simp [State.meter]
  have hif : ∀ {β : Type} (g : State → β) (b : Bool) (cause : Cause) (t : State), g (offerCause n cause t) = g t →
      g (if b then offerCause n cause t else t) = g t := fun g b cause t h => by
    cases b
    · rfl
    · exact h
  unfold sampleOffers
  dsimp only
  rw [hif (fun t => (t.meter n).staleMark) full .driverStop s (by rw [hmeter])]
  rw [hif (fun t => t.slotLost n .s1) _ .tempStale _ (offerCause_slotLost n n _ .s1 _),
    hif (fun t => t.slotLost n .s2) _ .tempStale _ (offerCause_slotLost n n _ .s2 _),
    hif (fun t => t.slotLost n .s1) full .driverStop s (offerCause_slotLost n n _ .s1 _),
    hif (fun t => t.slotLost n .s2) full .driverStop s (offerCause_slotLost n n _ .s2 _)]

theorem accounted_sampleOffers (n : ArmId) (full : Bool) (s : State) : Accounted n s (sampleOffers n full s) := by
  have hif : ∀ (b : Bool) (cause : Cause) (t : State), Accounted n t (if b then offerCause n cause t else t) :=
    fun b cause t => by
      cases b
      · exact .refl n t
      · exact accounted_offerCause n cause t
  exact ((hif _ _ _).trans (hif _ _ _)).trans (hif _ _ _)

theorem accounted_handOn (n : ArmId) (delta : Nat) (closed : Bool) (s : State) : Accounted n s (handOn n delta closed s) := by
  have hdose : Accounted n s (doseIncrement n (stagingTest n s)) :=
    ((((accounted_stagingTest n s).trans (accounted_recomputeOwed n .s1 _)).trans (accounted_recomputeOwed n .s2 _)).trans
      (accounted_paceSlot n .s1 _)).trans (accounted_paceSlot n .s2 _)
  unfold handOn
  cases closed with
  | false => exact hdose
  | true =>
    refine hdose.trans (Accounted.trans ?_ (accounted_settleTest n _))
    refine accounted_modArm _ ?_ ?_
    · unfold Arm.countZero
      split <;> rfl
    · unfold Arm.countZero
      split <;> rfl

theorem set_get_same_arm {α : Type} (p : PerArm α) (n : ArmId) : p.set n (p.get n) = p := by cases n <;> rfl

theorem isClosed_iff (x : ArmState) : x.isClosed = true ↔ x = .closing ∨ x = .halted := by cases x <;> decide

/-- The last step of a sample: the zero-delta run and the settle test of an arm that was CLOSING or HALTED (R87). -/
theorem handOn_eq (n : ArmId) (delta : Nat) (closed : Bool) (s : State) :
    let u := doseIncrement n (stagingTest n s)
    (closed = false → handOn n delta closed s = u) ∧
    (closed = true →
      ((u.arm n).closeTime = none → handOn n delta closed s = settleTest n u) ∧
      ((u.arm n).closeTime.isSome = true →
        handOn n delta closed s = settleTest n
          { u with
            arms := u.arms.set n
              { u.arm n with zeroRun := if delta = 0 then min ((u.arm n).zeroRun + 1) 2 else 0 } })) := by
  intro u
  refine ⟨fun h => by rw [h]; rfl, fun h => ⟨fun hnone => ?_, fun hsome => ?_⟩⟩
  · have hzero : (u.arm n).countZero delta = u.arm n := if_neg (by rw [hnone]; exact Bool.false_ne_true)
    have hsame : u.modArm n (fun a => a.countZero delta) = u := by
      rw [modArm_eq, hzero, State.arm, set_get_same_arm]
    rw [h]
    exact congrArg (settleTest n) hsame
  · have hzero : (u.arm n).countZero delta =
        { u.arm n with zeroRun := if delta = 0 then min ((u.arm n).zeroRun + 1) 2 else 0 } := if_pos hsome
    have hsame : u.modArm n (fun a => a.countZero delta) = _ := congrArg (fun a => { u with arms := u.arms.set n a }) hzero
    rw [h]
    exact congrArg (settleTest n) hsame

end

end Sys2Proof.Machine
end

section
/-! ### Accepted and implausible samples (R73 to R76, R85 to R88) -/

namespace Sys2Proof.Machine

section
variable {s : State} {n : ArmId} {c : Comp} {count delta rate : Nat}

/-- The state once a sample's increments are in the compartment and the totalizer, its flags set (R85, R87). -/
def State.credited (s : State) (n : ArmId) (number : Nat) (g st : Nat × Nat) (t : Int) (stale full : Bool) : State :=
  { s with
    arms := s.arms.set n { s.arm n with totalizer := ((s.arm n).totalizer + g.1) % 1000000000000 }
    session :=
      { s.session with
        comps := s.session.comps.map fun x =>
          if x.number = number then
            { x with
              gross := x.gross + min g.1 (99999999 - x.gross), grossRes := g.2
              standard := x.standard + min st.1 (99999999 - x.standard), standardRes := st.2
              tempSum := x.tempSum + (min g.1 (99999999 - x.gross) : Nat) * t
              flags :=
                { x.flags with
                  tempHeld := x.flags.tempHeld || stale, overrange := x.flags.overrange || full } }
          else x } }

theorem accumulateSample_credited (hc : s.heldComp n = some c) (g st : Nat × Nat) (t : Int) (held sat : Bool) :
    accumulateSample n g st t held sat s = s.credited n c.number g st t held sat :=
  accumulateSample_eq hc g st t held sat

/-- The state in which a sample's steps on a loading arm end (R85 to R87). -/
theorem creditSample_eq (hc : s.heldComp n = some c) :
    let g := s.compGross n delta rate c
    let st := s.compStandard n g.1 c
    let full := c.saturates g st (s.meter n).temperature
    creditSample n delta rate c s =
      handOn n delta (s.armState n).isClosed
        (sampleOffers n full (s.credited n c.number g st (s.meter n).temperature (s.tempIsHeld n) full)) := by
  intro g st full
  rw [creditSample, takeIncrements, accumulateSample_credited hc]

theorem acceptedSample_loading (hl : (s.armState n).isLoading = true) (hc : s.heldComp n = some c) :
    acceptedSample n count delta rate s = creditSample n delta rate c (s.sampled n count) := by
  unfold acceptedSample
  dsimp only
  rw [if_pos hl, hc]
  rfl

/-- The slot of a compartment is served by a node that is LOST (R106). -/
def State.servedLost (s : State) (n : ArmId) (c : Comp) (k : Slot) : Bool :=
  (c.additive.get k).isSome && match (s.config n).injector.get k with | none => false | some u => s.nodeLost u

theorem credited_slotLost (hc : s.heldComp n = some c) (g st : Nat × Nat) (temp : Int) (stale full : Bool) (k : Slot) :
    (s.credited n c.number g st temp stale full).slotLost n k = s.servedLost n c k := by
  have harm : (s.credited n c.number g st temp stale full).arm n = _ := (arm_of_set (s := s) rfl n).trans (if_pos rfl)
  have hheld : ((s.credited n c.number g st temp stale full).arm n).held = (s.arm n).held := by rw [harm]
  have hcomp : ∃ d, (s.credited n c.number g st temp stale full).heldComp n = some d ∧ d.additive = c.additive := by
    rw [heldComp_of_map (s := s) hheld rfl fun x => by split <;> rfl, hc]
    refine ⟨_, rfl, ?_⟩
    dsimp only
    rw [if_pos rfl]
  obtain ⟨d, hd, hadditive⟩ := hcomp
  have hdoses : (s.credited n c.number g st temp stale full).dosesSlot n k = (c.additive.get k).isSome := by
    rw [State.dosesSlot, hd, ← hadditive]
  rw [State.slotLost, hdoses]
  rfl

theorem saturates_eq (c : Comp) (g st : Nat × Nat) (t : Int) :
    c.saturates g st t =
      (decide (0 < g.1) && (c.gross + min g.1 (99999999 - c.gross) == 99999999 ||
        c.standard + min st.1 (99999999 - c.standard) == 99999999)) := rfl

theorem sampled_temperature (s : State) (n : ArmId) (count : Nat) :
    ((s.sampled n count).meter n).temperature = (s.meter n).temperature := by
  rw [sampled_meter]
  rfl

theorem sampled_compStandard (s : State) (n : ArmId) (count incG : Nat) (c : Comp) :
    (s.sampled n count).compStandard n incG c =
      standardStep incG (vcf (s.betaOf c) (s.meter n).temperature) c.standardRes := by
  rw [State.compStandard, sampled_temperature]
  rfl

theorem sampled_compGross (s : State) (n : ArmId) (count delta rate : Nat) (c : Comp) :
    (s.sampled n count).compGross n delta rate c =
      grossStep delta (s.meterFactor n c rate) (s.config n).kFactor c.grossRes := rfl

/-- The state in which a sample's steps on a loading arm end, by the values before the sample. -/
theorem acceptedSample_credited (hl : (s.armState n).isLoading = true) (hc : s.heldComp n = some c) :
    let g := grossStep delta (s.meterFactor n c rate) (s.config n).kFactor c.grossRes
    let st := standardStep g.1 (vcf (s.betaOf c) (s.meter n).temperature) c.standardRes
    let full := decide (0 < g.1) && (c.gross + min g.1 (99999999 - c.gross) == 99999999 ||
      c.standard + min st.1 (99999999 - c.standard) == 99999999)
    acceptedSample n count delta rate s =
      handOn n delta (s.armState n).isClosed
        (sampleOffers n full
          ((s.sampled n count).credited n c.number g st (s.meter n).temperature (s.staleNow n) full)) := by
  have hcredit := creditSample_eq (s := s.sampled n count) (n := n) (c := c) (delta := delta) (rate := rate) hc
  simp only [sampled_compGross, sampled_compStandard, sampled_temperature, tempIsHeld_sampled, saturates_eq] at hcredit
  rw [acceptedSample_loading hl hc, hcredit]
  rfl

theorem acceptedSample_unassigned (hl : (s.armState n).isLoading = false) :
    acceptedSample n count delta rate s = unassignedSample n delta (s.sampled n count) := by
  unfold acceptedSample
  exact if_neg (by rw [hl]; exact Bool.false_ne_true)

theorem acceptedSample_meter (n : ArmId) (count delta rate : Nat) (s : State) :
    (acceptedSample n count delta rate s).meter n = (s.sampled n count).meter n := by
  have hkeep : (acceptedSample n count delta rate s).metering = (s.sampled n count).metering := by
    by_cases hl : (s.armState n).isLoading = true
    · cases hc : s.heldComp n with
      | none =>
        unfold acceptedSample
        dsimp only
        rw [if_pos hl, hc]
        rfl
      | some c =>
        rw [acceptedSample_loading hl hc]
        simp
    · rw [acceptedSample_unassigned (Bool.eq_false_iff.2 hl)]
      simp
  rw [State.meter, State.meter, hkeep]

/-- A sample on an arm that loads nothing (R88). -/
theorem unassignedSample_eq (n : ArmId) (count delta : Nat) (s : State) :
    let g := grossStep delta 100000 (s.config n).kFactor (s.arm n).unassignedRes
    unassignedSample n delta (s.sampled n count) =
      { s.sampled n count with
        arms := s.arms.set n
          { s.arm n with
            totalizer := ((s.arm n).totalizer + g.1) % 1000000000000
            unassigned := ((s.arm n).unassigned + g.1) % 1000000000000
            unassignedRes := g.2 }
        status :=
          if 0 < g.1 then { s.status with flags := { s.status.flags with unassignedFlow := true } }
          else s.status } := by
  intro g
  have htake : unassignedSample n delta (s.sampled n count) = takeUnassigned n g (s.sampled n count) := rfl
  rw [htake, takeUnassigned]
  by_cases hg : 0 < g.1
  · rw [if_pos hg, if_pos hg]
    rfl
  · rw [if_neg hg, if_neg hg]
    rfl

/-- The accounts of the compartment of a credited sample, whatever follows on them (R85). -/
theorem accounts_of_credited {number : Nat} {g st : Nat × Nat} {temp : Int} {stale full : Bool} {t : State}
    (hmem : c ∈ s.session.comps) (hnumber : c.number = number)
    (h : Accounted n (s.credited n number g st temp stale full) t) :
    (t.arm n).totalizer = ((s.arm n).totalizer + g.1) % 1000000000000 ∧ (t.arm n).unassigned = (s.arm n).unassigned ∧
      ∃ x ∈ t.session.comps, x.number = c.number ∧
        x.gross = c.gross + min g.1 (99999999 - c.gross) ∧ x.grossRes = g.2 ∧
        x.standard = c.standard + min st.1 (99999999 - c.standard) ∧ x.standardRes = st.2 ∧
        x.tempSum = c.tempSum + (min g.1 (99999999 - c.gross) : Nat) * temp := by
  have harm : (s.credited n number g st temp stale full).arm n =
      { s.arm n with totalizer := ((s.arm n).totalizer + g.1) % 1000000000000 } :=
    (arm_of_set (s := s) rfl n).trans (if_pos rfl)
  have hin : (c.number, c.gross + min g.1 (99999999 - c.gross), g.2, c.standard + min st.1 (99999999 - c.standard), st.2,
      c.tempSum + (min g.1 (99999999 - c.gross) : Nat) * temp) ∈ t.session.comps.map Comp.account := by
    rw [h.comps]
    refine List.mem_map.2 ⟨_, List.mem_map_of_mem hmem, ?_⟩
    rw [if_pos hnumber]
    rfl
  obtain ⟨x, hx, haccount⟩ := List.mem_map.1 hin
  simp only [Comp.account, Prod.mk.injEq] at haccount
  obtain ⟨hnum, hgross, hgrossRes, hstandard, hstandardRes, htemp⟩ := haccount
  exact ⟨h.totalizer.trans (congrArg Arm.totalizer harm), h.unassigned.trans ((congrArg Arm.unassigned harm).trans rfl),
    x, hx, hnum, hgross, hgrossRes, hstandard, hstandardRes, htemp⟩

theorem servedLost_sampled (s : State) (n : ArmId) (count : Nat) (c : Comp) (k : Slot) :
    (s.sampled n count).servedLost n c k = s.servedLost n c k := rfl

theorem credited_meter (s : State) (n : ArmId) (number : Nat) (g st : Nat × Nat) (t : Int) (stale full : Bool) :
    (s.credited n number g st t stale full).meter n = s.meter n := rfl

/-- What a sample makes of a state from its credit on (R85 to R87). -/
theorem credited_outcome {g st : Nat × Nat} {temp : Int} {stale full : Bool} {t : State} (hc : s.heldComp n = some c)
    (ht : t = handOn n delta (s.armState n).isClosed
      (sampleOffers n full ((s.sampled n count).credited n c.number g st temp stale full))) :
    (t.arm n).totalizer = ((s.arm n).totalizer + g.1) % 1000000000000 ∧ (t.arm n).unassigned = (s.arm n).unassigned ∧
      ∃ x ∈ t.session.comps, x.number = c.number ∧
        x.gross = c.gross + min g.1 (99999999 - c.gross) ∧ x.grossRes = g.2 ∧
        x.standard = c.standard + min st.1 (99999999 - c.standard) ∧ x.standardRes = st.2 ∧
        x.tempSum = c.tempSum + (min g.1 (99999999 - c.gross) : Nat) * temp ∧
        t = { s with
          metering := t.metering, arms := t.arms, session := t.session, banks := t.banks, dosing := t.dosing
          notes := t.notes, cmdQueue := t.cmdQueue, status := t.status } ∧
        (let credited := (s.sampled n count).credited n c.number g st temp stale full
        let u1 := if full then offerCause n .driverStop credited else credited
        let u2 := if (s.meter n).staleMark then offerCause n .tempStale u1 else u1
        let u3 := if s.servedLost n c .s1 || s.servedLost n c .s2 then offerCause n .injectorLost u2 else u2
        let u4 := recomputeOwed n .s2 (recomputeOwed n .s1 (stagingTest n u3))
        let u5 := paceSlot n .s2 (paceSlot n .s1 u4)
        (s.armState n ≠ .closing → s.armState n ≠ .halted → t = u5) ∧
        ((s.armState n = .closing ∨ s.armState n = .halted) →
          ((u5.arm n).closeTime = none → t = settleTest n u5) ∧
          ((u5.arm n).closeTime.isSome = true →
            t = settleTest n
              { u5 with
                arms := u5.arms.set n
                  { u5.arm n with
                    zeroRun := if delta = 0 then min ((u5.arm n).zeroRun + 1) 2 else 0 } }))) := by
  have haccounts : Accounted n ((s.sampled n count).credited n c.number g st temp stale full) t := by
    rw [ht]
    exact (accounted_sampleOffers n full _).trans (accounted_handOn n delta _ _)
  obtain ⟨htotal, hun, x, hx, hnum, hgross, hgrossRes, hstandard, hstandardRes, htemp⟩ :=
    accounts_of_credited (s := s.sampled n count) (mem_of_heldComp hc) rfl haccounts
  refine ⟨htotal, hun, x, hx, hnum, hgross, hgrossRes, hstandard, hstandardRes, htemp, ?_, ?_⟩
  · rw [ht, state_eq_iff]
    simp [State.credited, State.sampled]
  · have hoffers := sampleOffers_eq n full ((s.sampled n count).credited n c.number g st temp stale full)
    rw [credited_slotLost (s := s.sampled n count) hc, credited_slotLost (s := s.sampled n count) hc, servedLost_sampled,
      servedLost_sampled, credited_meter, sampled_meter] at hoffers
    rw [hoffers] at ht
    obtain ⟨hopen, hclosed⟩ := handOn_eq n delta (s.armState n).isClosed
      (sampleOffers n full ((s.sampled n count).credited n c.number g st temp stale full))
    rw [hoffers, ← ht] at hopen hclosed
    refine ⟨fun hc1 hc2 => hopen (Bool.eq_false_iff.2 fun h => ?_), fun h => hclosed ((isClosed_iff _).2 h)⟩
    rcases (isClosed_iff _).1 h with h | h
    · exact hc1 h
    · exact hc2 h

end

/-- Settles O50: the sample's own records first, then the steps it hands on to, which leave its accounts. -/
theorem acceptedSampleIsCredited : Obligations.AcceptedSampleIsCredited := by
  intro s n tag count c0 t0 hmeter hnode hbase k delta rate
  refine ⟨fun ok hbad => ?_, fun hrate => ?_⟩
  · have himplausible : meterReport n tag count ok s = implausibleSample n s :=
      meterReport_implausible hmeter hnode hbase hbad
    rw [himplausible]
    refine ⟨fun hfew => implausibleSample_counted hfew, fun hmany => ?_⟩
    rw [implausibleSample_fault hmany]
    refine ⟨?_, meterFault_flag n _, fun hl hc => ?_, fun hidle => ?_⟩
    · rw [State.meter, (meterFault_leaves _ n).2.2.2.2.1]
      exact (get_set_arm _ n n _).trans (if_pos rfl)
    · exact meterFault_loading hl hc
    · exact meterFault_idle hidle
  · have haccepted : meterReport n tag count true s = acceptedSample n count delta rate s :=
      meterReport_accepted hmeter hnode hbase hrate
    intro t
    refine ⟨?_, fun hl => ?_, fun c hl hc => ?_⟩
    · show (meterReport n tag count true s).meter n = _
      rw [haccepted, acceptedSample_meter, sampled_meter]
    · show meterReport n tag count true s = _
      rw [haccepted, acceptedSample_unassigned hl, unassignedSample_eq]
      rfl
    · have ht := haccepted.trans (acceptedSample_credited (count := count) (delta := delta) (rate := rate) hl hc)
      exact credited_outcome hc ht

end Sys2Proof.Machine
end

section
/-! ### Reports (R4, R48, R80, R100, R101, R111 to R117, R180, R181) -/

namespace Sys2Proof.Machine

section
variable {s : State} {n : ArmId} {tag : Tag}

/-! #### Keys -/

theorem keyOfCode_digit {d : Nat} (h : d ≤ 9) : keyOfCode d = some (.digit d) := if_pos h

theorem keyOfCode_over {code : Nat} (h : 13 < code) : keyOfCode code = none := by
  rw [keyOfCode, if_neg (by omega), if_neg (by omega), if_neg (by omega), if_neg (by omega), if_neg (by omega)]

theorem keyEvent_closed (h : s.session.state = .vacant ∨ s.session.state = .ending) (k : Key) : keyEvent k s = s := by
  rw [keyEvent]
  rcases h with h | h <;> rw [h]

theorem overrunEvent_closed (h : s.session.state = .vacant ∨ s.session.state = .ending) :
    overrunEvent s = { s with session := { s.session with digits := [] } } := by
  have hno : s.session.state.takesKeys = false := by rcases h with h | h <;> rw [h] <;> rfl
  rw [overrunEvent, hno]
  rfl

theorem overrunEvent_taken (h : s.session.state = .codeEntry ∨ s.session.state = .opened) :
    overrunEvent s =
      { s with
        session :=
          { s.session with
            digits := [], lastKey := some s.clock.ms
            idleBase := if s.session.state = .opened then some s.clock.ms else s.session.idleBase } } := by
  have hyes : s.session.state.takesKeys = true := by rcases h with h | h <;> rw [h] <;> rfl
  rw [overrunEvent, hyes]
  rfl

/-! #### Temperature, valve and injector reports -/

theorem nodeOf_lost (h : s.nodeLost tag = true) {p : Prop} : ¬(p ∧ ¬s.nodeLost tag = true) := fun hh => hh.2 h

theorem nodeOf_up (h : s.nodeLost tag = false) {p : Prop} (hp : p) : p ∧ ¬s.nodeLost tag = true :=
  ⟨hp, by rw [h]; exact Bool.false_ne_true⟩

theorem temperatureReport_valid (htag : (s.config n).temp = some tag) (hup : s.nodeLost tag = false) {x : Int}
    (hlow : -4000 ≤ x) (hhigh : x ≤ 6000) :
    temperatureReport n tag x true s =
      { s with
        metering := s.metering.set n
          { s.meter n with
            heldTemp := some (x, s.clock.ms), invalidMark := false, staleMark := false
            staleDeadline := some (s.clock.ms + BitVec.ofNat 32 10000) }
        arms := s.arms.set n { s.arm n with causes := { (s.arm n).causes with tempStale := false } } } := by
  have hvalid : tempValid x true = true := by simp [tempValid, hlow, hhigh]
  rw [temperatureReport, if_pos (nodeOf_up hup htag), if_pos hvalid]
  rfl

theorem temperatureReport_invalid (htag : (s.config n).temp = some tag) (hup : s.nodeLost tag = false) {x : Int}
    {valid : Bool} (h : valid = false ∨ x < -4000 ∨ 6000 < x) :
    temperatureReport n tag x valid s =
      { s with metering := s.metering.set n { s.meter n with invalidMark := true } } := by
  have hinvalid : ¬tempValid x valid = true := by
    simp only [tempValid, Bool.and_eq_true, decide_eq_true_eq]
    rintro ⟨⟨hv, hlow⟩, hhigh⟩
    rcases h with h | h | h
    · exact Bool.false_ne_true (h.symm.trans hv)
    · omega
    · omega
  rw [temperatureReport, if_pos (nodeOf_up hup htag), if_neg hinvalid]
  rfl

/-- The state in which a valve report stands in the arm record (R48). -/
def State.valveTaken (s : State) (n : ArmId) (v : ValveReport) : State :=
  { s with arms := s.arms.set n ((s.arm n).takeReport v) }

theorem valveTaken_arm (s : State) (n : ArmId) (v : ValveReport) : (s.valveTaken n v).arm n = (s.arm n).takeReport v :=
  (arm_of_set (s := s) rfl n).trans (if_pos rfl)

theorem valveReport_untripped (htag : (s.config n).valve = some tag) (hup : s.nodeLost tag = false)
    (htrip : (s.arm n).trip = false) (v : ValveReport) : valveReport n tag v s = settleTest n (s.valveTaken n v) := by
  rw [valveReport, if_pos (nodeOf_up hup htag)]
  dsimp only
  rw [if_neg fun h => by rw [htrip] at h; exact Bool.false_ne_true h.1]
  rfl

theorem settleTest_of_unsettled (h : ¬((s.arm n).isSettled = true ∧ (s.arm n).settled = false)) : settleTest n s = s := by
  rw [settleTest, if_neg fun hh => h ⟨hh.1, Bool.eq_false_iff.2 hh.2⟩]

theorem takeReport_open (a : Arm) (v : ValveReport) (h : a.closeTime = none) : a.takeReport v = { a with lastValve := some v } := by
  rw [Arm.takeReport, h]
  rfl

theorem takeReport_closing (a : Arm) (v : ValveReport) (h : a.closeTime.isSome = true) :
    a.takeReport v = { a with lastValve := some v, closedSeen := v.position == .closed } := by
  rw [Arm.takeReport, h]
  rfl

/-- A valve report by what is known of the close (R48, R53). -/
theorem settleTest_valveTaken (s : State) (n : ArmId) (v : ValveReport) :
    ((s.arm n).closeTime = none →
      settleTest n (s.valveTaken n v) = { s with arms := s.arms.set n { s.arm n with lastValve := some v } }) ∧
    ((s.arm n).closeTime.isSome = true → v.position ≠ .closed →
      settleTest n (s.valveTaken n v) =
        { s with arms := s.arms.set n { s.arm n with lastValve := some v, closedSeen := false } }) ∧
    ((s.arm n).closeTime.isSome = true → v.position = .closed → ((s.arm n).zeroRun < 2 ∨ (s.arm n).settled = true) →
      settleTest n (s.valveTaken n v) =
        { s with arms := s.arms.set n { s.arm n with lastValve := some v, closedSeen := true } }) ∧
    ((s.arm n).closeTime.isSome = true → v.position = .closed → 2 ≤ (s.arm n).zeroRun → (s.arm n).settled = false →
      s.armState n = .halted → s.session.hostAbort = false →
      settleTest n (s.valveTaken n v) =
        { s with
          arms := s.arms.set n
            { s.arm n with lastValve := some v, closedSeen := true, settled := true, settleDeadline := none } }) := by
  have harm := valveTaken_arm s n v
  refine ⟨fun hnone => ?_, fun hsome hpos => ?_, fun hsome hpos hrest => ?_, fun hsome hpos hrun hsettled hhalted habort => ?_⟩
  · rw [settleTest_of_unsettled, State.valveTaken, takeReport_open _ v hnone]
    rw [harm, takeReport_open _ v hnone, isSettled_iff]
    intro h
    simp [hnone] at h
  · have hseen : (v.position == .closed) = false := beq_false_of_ne hpos
    rw [settleTest_of_unsettled, State.valveTaken, takeReport_closing _ v hsome, hseen]
    rw [harm, takeReport_closing _ v hsome, isSettled_iff, hseen]
    intro h
    simp at h
  · have hseen : (v.position == .closed) = true := beq_iff_eq.2 hpos
    rw [settleTest_of_unsettled, State.valveTaken, takeReport_closing _ v hsome, hseen]
    rw [harm, takeReport_closing _ v hsome, isSettled_iff, hseen]
    rintro ⟨⟨-, -, hrun⟩, hset⟩
    rcases hrest with hr | hr
    · have hrun : 2 ≤ (s.arm n).zeroRun := hrun
      omega
    · exact Bool.false_ne_true (hset.symm.trans hr)
  · have hseen : (v.position == .closed) = true := beq_iff_eq.2 hpos
    have htaken : (s.valveTaken n v).arm n = { s.arm n with lastValve := some v, closedSeen := true } := by
      rw [harm, takeReport_closing _ v hsome, hseen]
    rw [settleTest_halted (by rw [htaken, isSettled_iff]; exact ⟨hsome, rfl, hrun⟩) (by rw [htaken]; exact hsettled)
      (by rw [State.armState, htaken]; exact hhalted), if_neg (by rw [State.valveTaken, habort]; exact Bool.false_ne_true)]
    have hset : s.valveTaken n v = { s with
        arms := s.arms.set n { s.arm n with lastValve := some v, closedSeen := true } } := by
      rw [State.valveTaken, takeReport_closing _ v hsome, hseen]
    rw [State.settledArm, htaken, hset]
    dsimp only
    rw [set_set_arm]

end

end Sys2Proof.Machine
end

section
/-! ### Permissive and reader reports (R111 to R117, R180, R181) -/

namespace Sys2Proof.Machine

section
variable {s t : State} {n : ArmId} {tag : Tag}

/-- A CLOSED report from the node of a tripped valve, no close in progress (R66). -/
theorem valveReport_clears (htag : (s.config n).valve = some tag) (hup : s.nodeLost tag = false)
    (htrip : (s.arm n).trip = true) (hopen : (s.arm n).closeTime = none) (hok : s.nodeOk tag = true) {v : ValveReport}
    (hv : v.position = .closed) :
    (valveReport n tag v s).arm n = { s.arm n with lastValve := some v, trip := false } ∧
      (valveReport n tag v s).permissive.bayPermit = (valveReport n tag v s).bayPermitHolds := by
  have hcleared : (clearTrip n (s.valveTaken n v)).arm n = { s.arm n with lastValve := some v, trip := false } := by
    rw [clearTrip, arm_of_arms (decideBayPermit_leaves _).2.2.2.2.2.2.2.1 n, arm_modArm, if_pos rfl, valveTaken_arm,
      takeReport_open _ v hopen]
  have heq : valveReport n tag v s = clearTrip n (s.valveTaken n v) := by
    rw [valveReport, if_pos (nodeOf_up hup htag)]
    dsimp only
    rw [if_pos ⟨htrip, hv, hok⟩]
    refine settleTest_of_unsettled (s := clearTrip n (s.valveTaken n v)) ?_
    rw [hcleared, isSettled_iff]
    rintro ⟨⟨hsome, -⟩, -⟩
    have hsome : (s.arm n).closeTime.isSome = true := hsome
    rw [hopen] at hsome
    exact Bool.false_ne_true hsome
  rw [heq]
  exact ⟨hcleared, rfl⟩

/-! #### The permissive report -/

/-- The state once a permissive report stands in the record and its deadman count has been taken (R111, R117). -/
def State.permissiveTaken (s : State) (tag : Tag) (r : PermissiveReport) (count : Nat) : State :=
  takeDeadman count
    ((s.modPermissive fun p => if p.tag = some tag then p else { p with tag := some tag, deadmanBase := none }).modPermissive
      fun p => { p with last := some r, ageDeadline := some (s.ahead 2000) })

theorem permissiveReport_eq (hup : s.nodeLost tag = false) (r : PermissiveReport) (count : Nat) :
    permissiveReport tag r count s = decideBayPermit (decideHealth (s.permissiveTaken tag r count)) :=
  if_neg (by rw [hup]; exact Bool.false_ne_true)

theorem takeDeadman_first {count : Nat} (h : s.permissive.deadmanBase = none ∨ s.permissive.deadmanBase = some count) :
    takeDeadman count s = { s with permissive := { s.permissive with deadmanBase := some count } } := by
  rw [takeDeadman]
  rcases h with h | h
  · rw [h]
    rfl
  · rw [h]
    exact if_pos rfl

theorem takeDeadman_moved {count base : Nat} (h : s.permissive.deadmanBase = some base) (hne : base ≠ count) :
    takeDeadman count s =
      { s with
        permissive :=
          { s.permissive with
            deadmanBase := some count, deadman := .live
            warnAt := some (s.clock.ms + BitVec.ofNat 32 75000)
            expireAt := some (s.clock.ms + BitVec.ofNat 32 90000) } } := by
  rw [takeDeadman, h]
  exact if_neg hne

/-- A report from another node, the first one, or one with the deadman counter as it was. -/
theorem permissiveTaken_still (s : State) (tag : Tag) (r : PermissiveReport) (count : Nat)
    (h : s.permissive.tag ≠ some tag ∨ s.permissive.deadmanBase = none ∨ s.permissive.deadmanBase = some count) :
    s.permissiveTaken tag r count =
      { s with
        permissive :=
          { s.permissive with
            tag := some tag, last := some r, ageDeadline := some (s.clock.ms + BitVec.ofNat 32 2000)
            deadmanBase := some count } } := by
  by_cases htag : s.permissive.tag = some tag
  · have hsame : (s.modPermissive fun p => if p.tag = some tag then p else { p with tag := some tag, deadmanBase := none }) =
        s := congrArg (fun p => { s with permissive := p }) (if_pos htag)
    rw [State.permissiveTaken, hsame, takeDeadman_first (by exact h.resolve_left (not_not.2 htag))]
    exact congrArg (fun x => { s with
      permissive :=
        { s.permissive with
          tag := x, last := some r, ageDeadline := some (s.clock.ms + BitVec.ofNat 32 2000)
          deadmanBase := some count } }) htag
  · have hnew : (s.modPermissive fun p => if p.tag = some tag then p else { p with tag := some tag, deadmanBase := none }) =
        { s with permissive := { s.permissive with tag := some tag, deadmanBase := none } } :=
      congrArg (fun p => { s with permissive := p }) (if_neg htag)
    rw [State.permissiveTaken, hnew, takeDeadman_first (.inl rfl)]
    rfl

/-- A report whose deadman counter has moved (R117). -/
theorem permissiveTaken_moved {r : PermissiveReport} {count base : Nat} (htag : s.permissive.tag = some tag)
    (hbase : s.permissive.deadmanBase = some base) (hne : base ≠ count) :
    s.permissiveTaken tag r count =
      { s with
        permissive :=
          { s.permissive with
            last := some r, ageDeadline := some (s.clock.ms + BitVec.ofNat 32 2000), deadmanBase := some count
            deadman := .live, warnAt := some (s.clock.ms + BitVec.ofNat 32 75000)
            expireAt := some (s.clock.ms + BitVec.ofNat 32 90000) } } := by
  have hsame : (s.modPermissive fun p => if p.tag = some tag then p else { p with tag := some tag, deadmanBase := none }) =
      s := congrArg (fun p => { s with permissive := p }) (if_pos htag)
  rw [State.permissiveTaken, hsame]
  exact takeDeadman_moved hbase hne

/-- Every report taken leaves this of the record. -/
theorem permissiveTaken_fields (s : State) (tag : Tag) (r : PermissiveReport) (count : Nat) :
    s.permissiveTaken tag r count = { s with permissive := (s.permissiveTaken tag r count).permissive } ∧
      (s.permissiveTaken tag r count).permissive.tag = some tag ∧
      (s.permissiveTaken tag r count).permissive.last = some r ∧
      (s.permissiveTaken tag r count).permissive.ageDeadline.isSome = true ∧
      (s.permissiveTaken tag r count).permissive.healthy = s.permissive.healthy := by
  by_cases hstill : s.permissive.tag ≠ some tag ∨ s.permissive.deadmanBase = none ∨ s.permissive.deadmanBase = some count
  · rw [permissiveTaken_still s tag r count hstill]
    exact ⟨rfl, rfl, rfl, rfl, rfl⟩
  · obtain ⟨htag, hrest⟩ := not_or.1 hstill
    obtain ⟨hnone, hsame⟩ := not_or.1 hrest
    obtain ⟨base, hbase⟩ := Option.ne_none_iff_exists'.1 hnone
    have hne : base ≠ count := fun h => hsame (by rw [hbase, h])
    have htag := not_not.1 htag
    rw [permissiveTaken_moved htag hbase hne]
    exact ⟨rfl, htag, rfl, rfl, rfl⟩

theorem permissiveTaken_health (hup : s.nodeLost tag = false) (r : PermissiveReport) (count : Nat) :
    (s.permissiveTaken tag r count).healthHolds = (r.ground && r.dry && r.hose && r.estop) := by
  obtain ⟨hkeep, htag, hlast, hage, -⟩ := permissiveTaken_fields s tag r count
  have hnode : (s.permissiveTaken tag r count).nodeLost tag = false := by
    rw [hkeep]
    exact hup
  have hnodeUp : (s.permissiveTaken tag r count).permissiveNodeUp = true := by
    rw [State.permissiveNodeUp, htag]
    dsimp only
    rw [hnode]
    rfl
  rw [State.healthHolds, hlast, hnodeUp, hage, Bool.and_true, Bool.and_true]
  rfl

/-! #### Health (R112 to R114) -/

theorem forArms_invariant {P : State → Prop} {f : ArmId → State → State} (h : ∀ n t, P t → P (f n t)) (hs : P s) :
    P (forArms f s) := h _ _ (h _ _ (h _ _ (h _ _ hs)))

/-- A cause offered where no arm moves puts nothing in the command queue. -/
theorem offerActive_cmdQueue (c : Cause) (h : ∀ m, (s.armState m).isMoving = false) :
    (offerActive c s).cmdQueue = s.cmdQueue := by
  have hinv := forArms_invariant (s := s) (P := fun t => t.cmdQueue = s.cmdQueue ∧ ∀ m, (t.armState m).isMoving = false)
    (f := fun n t => if (t.armState n).isActive then offerCause n c t else t) (fun n t ht => ?_) ⟨rfl, h⟩
  · exact hinv.1
  · obtain ⟨hqueue, hstill⟩ := ht
    split
    next hact =>
      rw [offerCause_of_active n c t hact]
      refine ⟨(if_neg (by rw [hstill n]; exact Bool.false_ne_true)).trans hqueue, fun m => ?_⟩
      rw [State.armState, arm_of_set (s := t) rfl m]
      split
      · rfl
      · exact hstill m
    next => exact ⟨hqueue, hstill⟩

theorem returnOfHealth_arm (s : State) (m : ArmId) :
    (returnOfHealth s).arm m = { s.arm m with causes := { (s.arm m).causes with permissive := false } } := by
  refine forArms_arm (fun n t => dropCause n .permissive t)
    (fun a _ => { a with causes := { a.causes with permissive := false } }) (fun n t => by simp) (fun n m t => ?_) m s
  exact arm_modArm t n m _

theorem returnOfHealth_eq (s : State) : returnOfHealth s = { s with arms := (returnOfHealth s).arms } := by
  rw [state_eq_iff]
  simp

/-- The arms that a report halts: the active ones, when the health is lost (R113). -/
def State.losesHealth (s : State) (healthy : Bool) (m : ArmId) : Bool :=
  s.permissive.healthy && !healthy && (s.armState m).isActive

theorem flagged_never {choice : ArmId → Bool} (f : CompFlags → CompFlags) (h : ∀ m, choice m = false) :
    s.flagged choice f = s.session.comps := by
  have hnone : ∀ k, s.holdsNumber choice k = false := fun k => Bool.eq_false_iff.2 fun hh => by
    obtain ⟨m, hm, -⟩ := (holdsNumber_iff s choice k).1 hh
    exact Bool.false_ne_true ((h m).symm.trans hm)
  rw [flagged_eq]
  refine (List.map_congr_left fun c _ => ?_).trans (List.map_id' _)
  rw [hnone]
  exact if_neg Bool.false_ne_true

/-- The health decided anew, by what it was and what it becomes (R112 to R114). -/
structure HealthDecided (s t : State) (healthy : Bool) : Prop where
  permissive : t.permissive = { s.permissive with healthy := healthy }
  arms : ∀ m : ArmId,
    (s.losesHealth healthy m = true → t.arm m = s.haltedArm m { (s.arm m).causes with permissive := true }) ∧
    (s.permissive.healthy = false → healthy = true →
      t.arm m = { s.arm m with causes := { (s.arm m).causes with permissive := false } }) ∧
    (s.losesHealth healthy m = false → (s.permissive.healthy = true ∨ healthy = false) → t.arm m = s.arm m)
  cmdQueue : (∀ m, s.losesHealth healthy m = false ∨ (s.armState m).isMoving = false) → t.cmdQueue = s.cmdQueue
  same : t = { s with
    permissive := t.permissive, arms := t.arms, cmdQueue := t.cmdQueue
    session :=
      { s.session with
        comps := s.flagged (s.losesHealth healthy) fun f => { f.withHalted with permissive := true } } }

theorem losesHealth_never {healthy : Bool} (h : s.permissive.healthy = false ∨ healthy = true) (m : ArmId) :
    s.losesHealth healthy m = false := by
  rw [State.losesHealth]
  rcases h with h | h <;> rw [h]
  · rfl
  · rw [Bool.not_true, Bool.and_false, Bool.false_and]

theorem healthDecided_same (h : s.permissive.healthy = s.healthHolds) :
    HealthDecided s (decideHealth s) s.healthHolds := by
  have heq : decideHealth s = { s with permissive := { s.permissive with healthy := s.healthHolds } } := by
    rw [decideHealth, h]
    cases s.healthHolds <;> rfl
  have hnever : ∀ m, s.losesHealth s.healthHolds m = false :=
    losesHealth_never (by rw [h]; cases s.healthHolds <;> simp)
  rw [heq]
  refine ⟨rfl, fun m => ⟨fun hl => ?_, fun hf ht => ?_, fun _ _ => rfl⟩, fun _ => rfl, ?_⟩
  · exact absurd ((hnever m).symm.trans hl) Bool.false_ne_true
  · exact absurd (hf.symm.trans (h.trans ht)) Bool.false_ne_true
  · rw [flagged_never _ hnever]

theorem healthDecided_returned (hwas : s.permissive.healthy = false) (hnow : s.healthHolds = true) :
    HealthDecided s (decideHealth s) true := by
  have heq : decideHealth s = returnOfHealth { s with permissive := { s.permissive with healthy := true } } := by
    rw [decideHealth, hwas, hnow]
    rfl
  have hnever := losesHealth_never (s := s) (healthy := true) (.inr rfl)
  rw [heq]
  have hsame := returnOfHealth_eq { s with permissive := { s.permissive with healthy := true } }
  refine ⟨by rw [hsame], fun m => ⟨fun hl => ?_, fun _ _ => returnOfHealth_arm _ m, fun _ hor => ?_⟩, fun _ => by rw [hsame], ?_⟩
  · exact absurd ((hnever m).symm.trans hl) Bool.false_ne_true
  · rcases hor with h | h
    · exact absurd (hwas.symm.trans h) Bool.false_ne_true
    · exact absurd h.symm Bool.false_ne_true
  · rw [flagged_never _ hnever]
    exact hsame.trans (by rw [hsame])

theorem healthDecided_lost (hwas : s.permissive.healthy = true) (hnow : s.healthHolds = false) :
    HealthDecided s (decideHealth s) false := by
  have heq : decideHealth s = offerActive .permissive { s with permissive := { s.permissive with healthy := false } } := by
    rw [decideHealth, hwas, hnow]
    rfl
  have hchoice : s.losesHealth false = fun m => (s.armState m).isActive := by
    funext m
    rw [State.losesHealth, hwas]
    rfl
  obtain ⟨hsame, harms⟩ := offered_active { s with permissive := { s.permissive with healthy := false } } .permissive
  rw [heq]
  refine ⟨by rw [hsame], fun m => ⟨fun hl => ?_, fun hf => ?_, fun hl _ => ?_⟩, fun h => ?_, ?_⟩
  · rw [hchoice] at hl
    exact (harms m).trans ((if_pos hl).trans (haltedArm_congr _ rfl rfl))
  · exact absurd (hwas.symm.trans hf) (by decide)
  · rw [hchoice] at hl
    refine (harms m).trans (if_neg fun hact => ?_)
    exact Bool.false_ne_true (hl.symm.trans hact)
  · refine offerActive_cmdQueue .permissive fun m => Bool.eq_false_iff.2 fun hmoving => ?_
    have hmoving : (s.armState m).isMoving = true := hmoving
    rcases h m with h | h
    · rw [hchoice] at h
      exact Bool.false_ne_true (h.symm.trans (isActive_of_isMoving hmoving))
    · exact Bool.false_ne_true (h.symm.trans hmoving)
  · rw [hchoice]
    exact hsame.trans (by rw [hsame]; rfl)

theorem decideHealth_decided (s : State) : HealthDecided s (decideHealth s) s.healthHolds := by
  cases hwas : s.permissive.healthy <;> cases hnow : s.healthHolds
  · exact hnow ▸ healthDecided_same (hwas.trans hnow.symm)
  · exact healthDecided_returned hwas hnow
  · exact healthDecided_lost hwas hnow
  · exact hnow ▸ healthDecided_same (hwas.trans hnow.symm)

end

end Sys2Proof.Machine
end

section
/-! ### Every report of a field node (R48, R80, R100, R101, R111 to R117, R180, R181) -/

namespace Sys2Proof.Machine

section
variable {s : State} {n : ArmId} {k : Slot} {tag : Tag}

/-! #### The permissive report as a whole -/

/-- A permissive report: the record, then the health, then BAY PERMIT (R111 to R117, R121). -/
theorem permissiveReport_outcome (hup : s.nodeLost tag = false) (r : PermissiveReport) (count : Nat) :
    let t := permissiveReport tag r count s
    let healthy := r.ground && r.dry && r.hose && r.estop
    t.permissive.bayPermit = t.bayPermitHolds ∧
    t.permissive =
      { (s.permissiveTaken tag r count).permissive with healthy := healthy, bayPermit := t.permissive.bayPermit } ∧
    (∀ m : ArmId,
      (s.losesHealth healthy m = true → t.arm m = s.haltedArm m { (s.arm m).causes with permissive := true }) ∧
      (s.permissive.healthy = false → healthy = true →
        t.arm m = { s.arm m with causes := { (s.arm m).causes with permissive := false } }) ∧
      (s.losesHealth healthy m = false → (s.permissive.healthy = true ∨ healthy = false) → t.arm m = s.arm m)) ∧
    ((∀ m, s.losesHealth healthy m = false ∨ (s.armState m).isMoving = false) → t.cmdQueue = s.cmdQueue) ∧
    t = { s with
      permissive := t.permissive, arms := t.arms, cmdQueue := t.cmdQueue
      session :=
        { s.session with
          comps := s.flagged (s.losesHealth healthy) fun f => { f.withHalted with permissive := true } } } := by
  obtain ⟨hkeep, -, -, -, hwas⟩ := permissiveTaken_fields s tag r count
  have hdecided := decideHealth_decided (s.permissiveTaken tag r count)
  rw [permissiveTaken_health hup] at hdecided
  rw [permissiveReport_eq hup]
  generalize (r.ground && r.dry && r.hose && r.estop) = healthy at *
  generalize s.permissiveTaken tag r count = v at *
  have harms : v.arms = s.arms := by rw [hkeep]
  have hclock : v.clock = s.clock := by rw [hkeep]
  have hstate : ∀ m, v.armState m = s.armState m := fun m => congrArg Arm.state (arm_of_arms harms m)
  have hloses : v.losesHealth healthy = s.losesHealth healthy := by
    funext m
    rw [State.losesHealth, State.losesHealth, hwas, hstate]
  have hflagged : ∀ f, v.flagged (v.losesHealth healthy) f = s.flagged (s.losesHealth healthy) f := fun f =>
    flagged_congr f (by rw [hkeep]) (fun m => congrArg Arm.held (arm_of_arms harms m)) fun m => by rw [hloses]
  have hpermissive := hdecided.permissive
  have hdecidedArms := hdecided.arms
  have hqueue := hdecided.cmdQueue
  have hsame := hdecided.same
  rw [hflagged] at hsame
  rw [hloses] at hqueue hdecidedArms
  simp only [hstate] at hqueue
  generalize decideHealth v = w at *
  refine ⟨rfl, ?_, fun m => ?_, fun h => ?_, ?_⟩
  · exact congrArg (fun p : Permissive => { p with bayPermit := w.bayPermitHolds }) hpermissive
  · obtain ⟨hlost, hreturned, hstill⟩ := hdecidedArms m
    rw [haltedArm_congr _ (arm_of_arms harms m) hclock, arm_of_arms harms m] at hlost
    rw [arm_of_arms harms m] at hreturned hstill
    rw [hwas] at hreturned hstill
    exact ⟨hlost, hreturned, hstill⟩
  · have hq : w.cmdQueue = s.cmdQueue := (hqueue h).trans (by rw [hkeep])
    exact hq
  · rw [hkeep] at hsame
    generalize v.permissive = p at *
    have hdone : decideBayPermit w = { w with permissive := (decideBayPermit w).permissive } := rfl
    rw [hdone]
    generalize (decideBayPermit w).permissive = q
    rw [hsame]

/-! #### The injector report -/

theorem injectorReport_first (htag : (s.config n).injector.get k = some tag) (hup : s.nodeLost tag = false)
    (hbase : (s.dose n k).baseline = none) (d last : Nat) :
    injectorReport n k tag d last s =
      { s with
        dosing := s.dosing.set n ((s.dosing.get n).set k
          { s.dose n k with baseline := some d, nextShot := (last + 1) % 256 }) } := by
  rw [injectorReport, if_pos (nodeOf_up hup htag), hbase]
  rfl

theorem injectorReport_delta (htag : (s.config n).injector.get k = some tag) (hup : s.nodeLost tag = false)
    {base number : Nat} (hbase : (s.dose n k).baseline = some base) (hshot : (s.dose n k).outstanding = none)
    (hl : (s.armState n).isLoading = true) (hheld : (s.arm n).held = some number) (d last : Nat) :
    injectorReport n k tag d last s =
      { s with
        dosing := s.dosing.set n ((s.dosing.get n).set k { s.dose n k with baseline := some d })
        session :=
          { s.session with
            comps := s.session.comps.map fun c =>
              if c.number = number then
                c.modAdditive k fun a =>
                  { a with dispensed := min (a.dispensed + (d + 4294967296 - base) % 4294967296) 4294967295 }
              else c } } := by
  rw [injectorReport_of_base htag hup hbase hheld, if_pos hl, completeShot]
  have hnone : ∀ (x : Session), ({ s with
      dosing := s.dosing.set n ((s.dosing.get n).set k { s.dose n k with baseline := some d })
      session := x } : State).dose n k = { s.dose n k with baseline := some d } := fun x => by
    cases n <;> cases k <;> rfl
  rw [hnone]
  dsimp only
  rw [hshot]

/-! #### The reader report -/

theorem readerReport_first (hup : s.nodeLost tag = false) (r : ReaderReport)
    (h : s.reader.tag ≠ some tag ∨ s.reader.seqs = none) :
    readerReport tag r s = { s with reader := { tag := some tag, seqs := some (r.cardSeq, r.keySeq) } } := by
  have hnone : (if s.reader.tag = some tag then s.reader.seqs else none) = none := by
    split
    next htag => exact h.resolve_left (not_not.2 htag)
    next => rfl
  unfold readerReport
  rw [if_neg (by rw [hup]; exact Bool.false_ne_true), hnone]
  rfl

theorem readerReport_events (hup : s.nodeLost tag = false) (r : ReaderReport) {cardSeq keySeq : Nat}
    (htag : s.reader.tag = some tag) (hseqs : s.reader.seqs = some (cardSeq, keySeq)) :
    readerReport tag r s =
      { deliverEvents tag r cardSeq keySeq s with
        reader := { tag := some tag, seqs := some (r.cardSeq, r.keySeq) } } := by
  have hsome : (if s.reader.tag = some tag then s.reader.seqs else none) = some (cardSeq, keySeq) :=
    (if_pos htag).trans hseqs
  unfold readerReport
  rw [if_neg (by rw [hup]; exact Bool.false_ne_true), hsome]
  rfl

theorem deliverCard_eq {news old : Nat} (hnews : news < 256) (hold : old < 256) (card : Nat) :
    deliverCard tag (seqDelta news old) card s = if news = old then s else cardEvent card (readerSeen tag s) := by
  rw [deliverCard, seqDelta]
  by_cases h : news = old
  · rw [if_pos h, if_neg (by omega)]
  · rw [if_neg h, if_pos (by omega)]

/-- The keys of a report, one after the other (R180). -/
theorem deliverKey_eq (tag : Tag) :
    deliverKey tag = fun u code =>
      match keyOfCode code with | none => u | some key => keyEvent key { u with session := { u.session with readerTag := some tag } } := by
  funext u code
  rw [deliverKey]
  cases keyOfCode code <;> rfl

end

/-- Settles O48, report by report. -/
theorem reportsUpdateTheirRecords : Obligations.ReportsUpdateTheirRecords := by
  refine ⟨⟨fun d => keyOfCode_digit, rfl, rfl, rfl, rfl, fun code => keyOfCode_over⟩,
    fun s => ⟨fun h => ⟨keyEvent_closed h, overrunEvent_closed h⟩, overrunEvent_taken⟩, fun s n k tag => ?_⟩
  refine ⟨fun hlost x valid v d last p count r => ?_, fun x valid h => if_neg fun hh => h hh.1,
    fun v h => if_neg fun hh => h hh.1, fun d last h => if_neg fun hh => h hh.1, fun count ok h => if_neg fun hh => h hh.1,
    fun hup => ⟨fun htag x valid => ⟨fun hv hlow hhigh => ?_, temperatureReport_invalid htag hup⟩,
      fun htag htrip v => ?_, fun htag htrip hopen hok v hv => valveReport_clears htag hup htrip hopen hok hv,
      fun htag d last => ⟨fun hbase => injectorReport_first htag hup hbase d last, fun base number hbase hshot hl hheld =>
        injectorReport_delta htag hup hbase hshot hl hheld d last⟩,
      fun p count => ?_, fun r => ⟨readerReport_first hup r, fun cardSeq keySeq htag hseqs hc hc' hk hk' => ?_⟩⟩⟩
  · exact ⟨if_neg (nodeOf_lost hlost), if_neg (nodeOf_lost hlost), if_neg (nodeOf_lost hlost), if_pos hlost, if_pos hlost,
      if_neg (nodeOf_lost hlost)⟩
  · rw [hv]
    exact temperatureReport_valid htag hup hlow hhigh
  · have heq := valveReport_untripped htag hup htrip v
    rw [heq]
    exact ⟨rfl, settleTest_valveTaken s n v⟩
  · obtain ⟨hbay, hpermissive, harms, hqueue, hsame⟩ := permissiveReport_outcome hup p count
    intro t healthy lost
    refine ⟨hbay, fun hstill => hpermissive.trans ?_, fun htag ⟨base, hbase, hne⟩ => hpermissive.trans ?_, harms, hqueue, hsame⟩
    · rw [permissiveTaken_still s tag p count hstill]
    · rw [permissiveTaken_moved htag hbase hne]
  · intro seen carded keys overrun keyed
    have hevents : deliverEvents tag r cardSeq keySeq s = keyed := by
      unfold deliverEvents
      dsimp only
      rw [deliverCard_eq hc hc', deliverKey_eq]
      rfl
    refine ⟨?_, fun hsame => ?_⟩
    · rw [readerReport_events hup r htag hseqs, hevents]
    · have hkeys : keys = 0 := by
        show (r.keySeq + 256 - keySeq) % 256 = 0
        omega
      have hnone : r.keys.drop (r.keys.length - min keys 8) = [] := by
        rw [hkeys, Nat.zero_min, Nat.sub_zero, List.drop_length]
      have hoverrun : overrun = carded := if_neg (by rw [hkeys]; decide)
      show List.foldl _ overrun (r.keys.drop (r.keys.length - min keys 8)) = carded
      rw [hnone, hoverrun]
      rfl

end Sys2Proof.Machine
end

section
/-! ### The field line: frames taken, exchanges ended, scores moved (R167, R176, R177, R182, R183) -/

namespace Sys2Proof.Machine

section
variable {s : State} {e : Exchange} {f : Frame} {bytes : List Byte} {tag : Tag}

/-! #### What the receiver takes -/

theorem fieldHeard_eq (rx : Receiver) (s : State) :
    fieldHeard rx s = { s with field := { s.fieldHeardNow.field with rx := rx } } := rfl

theorem fieldHeard_of_listens (h : s.fieldListens) : fieldHeard .idle s = s.fieldHeardNow := by
  obtain ⟨-, hidle⟩ := h
  rw [fieldHeard_eq, ← hidle]
  rfl

theorem receiveFieldBytes_of_idle (take : List Byte → State → State) (hb : s.field.inBreak = false)
    (hr : s.field.rx = .idle) (hl : bytes.length ≤ 55) : receiveFieldBytes bytes take s = take bytes s := by
  simp [receiveFieldBytes, bytesFit, hb, hr, hl]

theorem damagedReceiver_of_badCrc (h : rxStatus bytes = .whole false) : damagedReceiver bytes = some .idle := by
  simp [damagedReceiver, h]

theorem damagedReceiver_of_abandoned (h : rxStatus bytes = .abandoned) : damagedReceiver bytes = some .hunt := by
  simp [damagedReceiver, h]

theorem fieldDamage_of_receiver {rx : Receiver} (h : damagedReceiver bytes = some rx) :
    fieldDamage bytes s = takeDamage (fieldHeard rx s) := by
  simp [fieldDamage, h]

theorem chainedBytes_of_receiver {rx : Receiver} (h : damagedReceiver bytes = some rx) :
    chainedBytes bytes s = chainedDamage (fieldHeard rx s) := by
  simp [chainedBytes, h]

/-! #### The exchange that awaits a response -/

/-- An exchange that awaits its response hears nothing that moves it, but a ROLL, whose silence begins anew. -/
theorem hear_of_awaits (h : s.awaits e) (gap : Nat) (now : Ms) :
    e.hear gap now = { e with waitFrom := if e.source.isRoll then now else e.waitFrom } := by
  have hbegun : ¬frameTime e.frame < e.toSend := Nat.not_lt.2 h.2
  simp [Exchange.hear, Exchange.awaitGap, hbegun]

theorem fieldHeard_awaits (h : s.awaits e) (rx : Receiver) :
    (fieldHeard rx s).awaits { e with waitFrom := if e.source.isRoll then s.clock.ms else e.waitFrom } := by
  refine ⟨?_, h.2⟩
  have hexchange : (fieldHeard rx s).field.exchange = s.field.exchange.map fun x => x.hear s.up.gap s.clock.ms := rfl
  rw [hexchange, h.1, Option.map_some, hear_of_awaits h]

theorem fieldHeard_awaits_of_notRoll (h : s.awaits e) (hr : e.source.isRoll = false) (rx : Receiver) :
    (fieldHeard rx s).awaits e := by
  simpa [hr] using fieldHeard_awaits h rx

theorem takeDamage_of_awaits (h : s.awaits e) :
    takeDamage s = if e.source.isRoll then chainedDamage s else endExchange e .damaged s := by
  simp [takeDamage, (awaiting_iff_awaits s e).2 h]

theorem accepts_iff (e : Exchange) (f : Frame) : e.accepts f = true ↔ f.dir = .response ∧ f.tag = e.tag := by
  simp [Exchange.accepts]

/-! #### How an exchange ends -/

theorem freeLine_eq (s : State) : freeLine s = { s with field := { s.field with exchange := none } } := rfl

theorem freeLine_fieldHeardNow (s : State) : freeLine s.fieldHeardNow = s.lineFreed := rfl

theorem count_of_link {c : CounterId} (h : c.isLink = true) :
    s.count c = { s with status := s.status.linkEvent c } := by
  simp [State.count, State.countBy, State.modStatus, h, Status.linkEvent, StatusFlags.set]

/-- An exchange that no RESTART dropped ends scored, delivered and with its outcome. -/
theorem endExchange_of_kept (h : e.dropped = false) (x : Ending) :
    endExchange e x s = sourceOutcome e x (scoreEnding x e.tag (countEnding x (freeLine s))) := by
  simp [endExchange, h]

theorem exec_fieldGoodResponse_of_awaits (hl : s.fieldListens) (ha : s.awaits e) (hr : e.source.isRoll = false)
    (hp : f.payload.length ≤ 48) (hd : f.dir = .response) (ht : f.tag = e.tag) :
    exec (.fieldGoodResponse f) s = .next (endExchange e (.good f) s.fieldHeardNow) := by
  change Host.Outcome.next (goodResponse f s) = _
  simp [goodResponse, (awaiting_iff_awaits s e).2 ha, hr, (accepts_iff e f).2 ⟨hd, ht⟩,
    receiveField_of_listens f _ s hl hp]

theorem exec_fieldTimeout_of_overdue (hx : s.field.exchange = some e) (hr : e.source.isRoll = false)
    (hrx : s.field.rx.isReceiving = false) (hsent : e.toSend = 0)
    (hlate : 20 ≤ (s.clock.ms - e.waitFrom).toNat) :
    exec .fieldTimeout s = .next (endExchange e .timeout s) := by
  have hdue : s.timeoutDue = true := by
    have hlate' : decide (20 ≤ (s.now - e.waitFrom).toNat) = true := decide_eq_true hlate
    rw [State.timeoutDue, hx]
    dsimp only
    rw [Exchange.isOverdue, hr, hsent, hrx, hlate']
    rfl
  change Host.Outcome.next (if s.timeoutDue then timeOut s else s) = _
  simp [hdue, timeOut, hx]

theorem exec_fieldDamagedResponse_of_listens (hl : s.fieldListens) (hb : bytes.length ≤ 55)
    (hs : rxStatus bytes = .whole false) :
    exec (.fieldDamagedResponse bytes) s = .next (takeDamage s.fieldHeardNow) := by
  change Host.Outcome.next (receiveFieldBytes bytes fieldDamage s) = _
  rw [receiveFieldBytes_of_idle fieldDamage hl.1 hl.2 hb, fieldDamage_of_receiver (damagedReceiver_of_badCrc hs),
    fieldHeard_of_listens hl]

theorem exec_fieldDamagedResponse_of_awaits (hl : s.fieldListens) (ha : s.awaits e) (hr : e.source.isRoll = false)
    (hb : bytes.length ≤ 55) (hs : rxStatus bytes = .whole false) :
    exec (.fieldDamagedResponse bytes) s = .next (endExchange e .damaged s.fieldHeardNow) := by
  have ha' : s.fieldHeardNow.awaits e := fieldHeard_of_listens hl ▸ fieldHeard_awaits_of_notRoll ha hr .idle
  rw [exec_fieldDamagedResponse_of_listens hl hb hs, takeDamage_of_awaits ha', hr]
  rfl

/-! #### The score of a tag (R177, R178) -/

/-- A node tag's record once its score has moved to `score` and its state to `state`. -/
def State.rescored (s : State) (tag : Tag) (score : Nat) (state : NodeState) : State :=
  { s with nodes := s.nodes.set tag.toNat { s.node tag with score := score, state := state } }

theorem rescored_eq_modNode (hn : isNodeTag tag = true) (score : Nat) (state : NodeState) :
    s.rescored tag score state = s.modNode tag fun x => { x with score := score, state := state } := by
  simp [State.rescored, State.modNode, hn, State.node]

/-- A rescoring by the branch its old and its new state select. -/
theorem rescore_eq (hn : isNodeTag tag = true) (g : Nat → Nat) :
    rescore tag g s =
      let score := g (s.node tag).score
      let state := nextNodeState (s.node tag).state score
      if (s.node tag).state ≠ .lost ∧ state = .lost then becomeLost tag (s.rescored tag score state)
      else if (s.node tag).state = .lost ∧ state = .ok then recover tag (s.rescored tag score state)
      else s.rescored tag score state := by
  simp only [rescore, hn, if_true, rescored_eq_modNode hn]

/-- A rescoring that neither loses the tag nor ends its loss moves its record only. -/
theorem rescore_of_stays (hn : isNodeTag tag = true) (g : Nat → Nat)
    (hstays : ((s.node tag).state = .lost ↔ nextNodeState (s.node tag).state (g (s.node tag).score) = .lost)
      ) (hok : ¬((s.node tag).state = .lost ∧ nextNodeState (s.node tag).state (g (s.node tag).score) = .ok)) :
    rescore tag g s =
      s.rescored tag (g (s.node tag).score) (nextNodeState (s.node tag).state (g (s.node tag).score)) := by
  rw [rescore_eq hn]
  dsimp only
  rw [if_neg (fun h => h.1 (hstays.2 h.2)), if_neg hok]

theorem nextNodeState_ok {score : Nat} (h : score < 40) (st : NodeState) : nextNodeState st score = .ok := by
  simp [nextNodeState, h]

theorem rescore_of_ok (hn : isNodeTag tag = true) (hok : (s.node tag).state = .ok) (g : Nat → Nat)
    (hlow : g (s.node tag).score < 40) : rescore tag g s = s.withScore tag (g (s.node tag).score) := by
  rw [rescore_of_stays hn g (by simp [nextNodeState_ok hlow, hok]) (by simp [hok]), nextNodeState_ok hlow, ← hok]
  rfl

theorem scoreGood_of_ok (hn : isNodeTag tag = true) (hok : (s.node tag).state = .ok) (hlow : (s.node tag).score < 41) :
    scoreGood tag s = s.withScore tag ((s.node tag).score - 1) :=
  rescore_of_ok hn hok _ (by omega)

theorem scoreFailed_of_ok (hn : isNodeTag tag = true) (hok : (s.node tag).state = .ok)
    (hlow : (s.node tag).score < 36) : scoreFailed tag s = s.withScore tag ((s.node tag).score + 4) := by
  rw [scoreFailed, rescore_of_ok hn hok _ (by omega), Nat.min_eq_left (by omega)]

end

/-! #### What scoring and delivery leave unchanged -/

theorem tellArms_invariant {P : State → Prop} {uses : ArmConfig → Bool} {g : ArmId → State → State}
    (h : ∀ n t, P t → P (g n t)) {s : State} (hs : P s) : P (tellArms uses g s) := by
  refine forArms_invariant (fun n t ht => ?_) hs
  split
  · exact h n t ht
  · exact ht

/-- The owners of a lost tag change neither line's state nor the acceptance table. -/
theorem tellLoss_leaves (tag : Tag) (s : State) :
    (tellLoss tag s).up = s.up ∧ (tellLoss tag s).field = s.field ∧ (tellLoss tag s).acceptance = s.acceptance := by
  have hpermissive : ∀ t : State, (tellPermissive tag permissiveNodeLost t).up = t.up ∧
      (tellPermissive tag permissiveNodeLost t).field = t.field ∧
      (tellPermissive tag permissiveNodeLost t).acceptance = t.acceptance := by
    intro t
    rw [tellPermissive]
    split <;> simp
  simp only [tellLoss, readerNodeLost_leaves, hpermissive]
  refine tellArms_invariant (P := fun t => t.up = s.up ∧ t.field = s.field ∧ t.acceptance = s.acceptance)
    (fun n t ht => by simpa using ht) ?_
  refine tellArms_invariant (P := fun t => t.up = s.up ∧ t.field = s.field ∧ t.acceptance = s.acceptance)
    (fun n t ht => by simpa using ht) ?_
  refine tellArms_invariant (P := fun t => t.up = s.up ∧ t.field = s.field ∧ t.acceptance = s.acceptance)
    (fun n t ht => by simpa using ht) ?_
  exact tellArms_invariant (P := fun t => t.up = s.up ∧ t.field = s.field ∧ t.acceptance = s.acceptance)
    (fun n t ht => by simpa using ht) ⟨rfl, rfl, rfl⟩

theorem becomeLost_leaves (tag : Tag) (s : State) :
    (becomeLost tag s).up = s.up ∧ (becomeLost tag s).field = s.field ∧
    (becomeLost tag s).acceptance = s.acceptance := by
  simp only [becomeLost, tellLoss_leaves]
  rw [loseExtraction]
  split <;> simp [modScansOf]

theorem recover_leaves (tag : Tag) (s : State) :
    (recover tag s).up = s.up ∧ (recover tag s).field = s.field ∧ (recover tag s).acceptance = s.acceptance := by
  have hpermissive : ∀ t : State, (tellPermissive tag permissiveNodeRecovered t).up = t.up ∧
      (tellPermissive tag permissiveNodeRecovered t).field = t.field ∧
      (tellPermissive tag permissiveNodeRecovered t).acceptance = t.acceptance := by
    intro t
    rw [tellPermissive]
    split <;> simp
  simp only [recover, hpermissive]
  exact tellArms_invariant (P := fun t => t.up = s.up ∧ t.field = s.field ∧ t.acceptance = s.acceptance)
    (fun n t ht => by simpa using ht) ⟨rfl, rfl, rfl⟩

/-- A score that moves changes neither line's state nor the acceptance table, whatever state the node takes. -/
theorem rescore_leaves (tag : Tag) (g : Nat → Nat) (s : State) :
    (rescore tag g s).up = s.up ∧ (rescore tag g s).field = s.field ∧
    (rescore tag g s).acceptance = s.acceptance := by
  cases hn : isNodeTag tag with
  | false => simp [rescore, hn]
  | true =>
    rw [rescore_eq hn]
    dsimp only
    split
    · exact becomeLost_leaves tag _
    split
    · exact recover_leaves tag _
    · exact ⟨rfl, rfl, rfl⟩

theorem takeResponse_eq (f : Frame) (s : State) :
    takeResponse f s = deliver (classify s.acceptance f) f (scoreGood f.tag s) := by
  obtain ⟨-, -, hacceptance⟩ := rescore_leaves f.tag (fun x => x - 1) s
  rw [takeResponse, scoreGood, hacceptance]

theorem chargeAttempt_up (p : Permit) (s : State) : (chargeAttempt p s).1.up = s.up := by
  rw [chargeAttempt]
  split <;> rfl

theorem codeCheck_up (card : Nat) (code : Option (List Nat)) (s : State) : (codeCheck card code s).1.up = s.up := by
  rw [codeCheck]
  cases findPermit s.store.permits card with
  | none => rfl
  | some p =>
    dsimp only
    cases p.status with
    | suspended => rfl
    | locked => rfl
    | active =>
      dsimp only
      rw [apply_ite Prod.fst, apply_ite State.up, chargeAttempt_up]
      exact ite_self _

/-- A key changes nothing of the upstream port. -/
theorem keyEvent_up (k : Key) (s : State) : (keyEvent k s).up = s.up := by
  have hsubmit : ∀ (code : Option (List Nat)) (t : State), (submitCode code t).up = t.up := by
    intro code t
    simp [submitCode, codeCheck_up]
  rw [keyEvent]
  split
  · rfl
  · cases k with
    | digit d => rw [codeKey]; split <;> simp [hsubmit]
    | enter => rw [codeKey]; split <;> simp [hsubmit]
    | start => simp [codeKey]
    | stop => simp [codeKey]
    | finish => simp [codeKey]
  · simp
  · rfl

theorem deliverEvents_up (tag : Tag) (r : ReaderReport) (cardSeq keySeq : Nat) (s : State) :
    (deliverEvents tag r cardSeq keySeq s).up = s.up := by
  have hkeys : ∀ (codes : List Nat) (t : State), (codes.foldl (deliverKey tag) t).up = t.up := by
    intro codes
    induction codes with
    | nil => exact fun t => rfl
    | cons code rest ih =>
      intro t
      rw [List.foldl_cons, ih, deliverKey]
      split <;> simp [keyEvent_up]
  have hcard : ∀ (news : Nat) (t : State), (deliverCard tag news r.card t).up = t.up := by
    intro news t
    rw [deliverCard]
    split <;> simp
  have hoverrun : ∀ (news : Nat) (t : State), (deliverOverrun tag news t).up = t.up := by
    intro news t
    rw [deliverOverrun]
    split <;> simp
  rw [deliverEvents, hkeys, hoverrun, hcard]

theorem readerReport_up (tag : Tag) (r : ReaderReport) (s : State) : (readerReport tag r s).up = s.up := by
  rw [readerReport]
  split
  · rfl
  · split <;> simp [deliverEvents_up]

/-- A report delivered to its owner leaves the upstream port as it is. -/
theorem deliver_up (c : FrameClass) (f : Frame) (s : State) : (deliver c f s).up = s.up := by
  rw [deliver]
  split
  · rfl
  split
  · rw [deliverPermissive]; split <;> simp
  split
  · rw [deliverReader]; split <;> simp [readerReport_up]
  · rw [deliverArmReport]
    split
    · rfl
    · unfold deliverToArm
      split <;> (try split) <;> simp

end Sys2Proof.Machine
end

section
/-! ### An exchange ends with its outcome (R99, R167, R170, R173) -/

namespace Sys2Proof.Machine

section
variable {s : State} {e : Exchange} {f : Frame} {bytes : List Byte} {tag : Tag}

theorem goodResponse_ends (hl : s.fieldListens) (ha : s.awaits e) (hk : e.dropped = false)
    (hr : e.source.isRoll = false) (hp : f.payload.length ≤ 48) (hd : f.dir = .response) (ht : f.tag = e.tag) :
    exec (.fieldGoodResponse f) s = .next
      (sourceOutcome e (.good f) (deliver (classify s.acceptance f) f (scoreGood f.tag s.lineFreed))) := by
  rw [exec_fieldGoodResponse_of_awaits hl ha hr hp hd ht, endExchange_of_kept hk, freeLine_fieldHeardNow]
  exact congrArg (fun t => Host.Outcome.next (sourceOutcome e (.good f) t)) (takeResponse_eq f s.lineFreed)

theorem timeout_ends (hx : s.field.exchange = some e) (hk : e.dropped = false) (hr : e.source.isRoll = false)
    (hrx : s.field.rx.isReceiving = false) (hsent : e.toSend = 0)
    (hlate : 20 ≤ (s.clock.ms - e.waitFrom).toNat) :
    exec .fieldTimeout s = .next
      (sourceOutcome e .timeout
        (scoreFailed e.tag
          { s with
            field := { s.field with exchange := none }, status := s.status.linkEvent .fieldTimeouts })) := by
  rw [exec_fieldTimeout_of_overdue hx hr hrx hsent hlate, endExchange_of_kept hk, freeLine_eq, countEnding,
    count_of_link rfl, scoreEnding]

theorem damage_ends (hl : s.fieldListens) (ha : s.awaits e) (hk : e.dropped = false)
    (hr : e.source.isRoll = false) (hb : bytes.length ≤ 55) (hs : rxStatus bytes = .whole false) :
    exec (.fieldDamagedResponse bytes) s = .next
      (sourceOutcome e .damaged
        (scoreFailed e.tag { s.lineFreed with status := s.status.linkEvent .fieldCrc })) := by
  rw [exec_fieldDamagedResponse_of_awaits hl ha hr hb hs, endExchange_of_kept hk, freeLine_fieldHeardNow, countEnding,
    count_of_link rfl, scoreEnding]
  rfl

/-! #### A relayed exchange (R173, R184) -/

theorem sourceOutcome_relay (h : e.source = .relay) (x : Ending) (s : State) :
    sourceOutcome e x s = relayOutcome e x s := by
  simp [sourceOutcome, h]

theorem relayOutcome_good (hroom : s.up.outgoing.length < 8) :
    relayOutcome e (.good f) s =
      if e.muted then s else { s with up := { s.up with outgoing := s.up.outgoing ++ [{ frame := f }] } } := by
  simp [relayOutcome, pushResponse, hroom, State.modUp]

/-- A relayed exchange that failed is answered, unless a LINE BREAK has taken the answer away. -/
theorem relayOutcome_failed {x : Ending} (hx : x = .damaged ∨ x = .timeout) (hroom : s.up.outgoing.length < 8)
    (htag : e.frame.tag = e.tag) :
    relayOutcome e x s = if e.muted then s else s.answersRefused e.tag e.frame.addr .noResponse := by
  have hanswer := respond_of_room e.frame.tag e.frame.addr (.refused .noResponse) s hroom
  rw [htag] at hanswer
  rcases hx with rfl | rfl
  · rw [relayOutcome, htag, hanswer]
    rfl
  · rw [relayOutcome, htag, hanswer]
    rfl

/-- Settles O45: an exchange of the relay ends with its answer, by its ending. -/
theorem relayedExchangeIsAnsweredOnce : Obligations.RelayedExchangeIsAnsweredOnce := by
  intro s e f bytes hl ha hsource hk hn htag hok hlow hroom good failed
  have hr : e.source.isRoll = false := by rw [hsource]; rfl
  refine ⟨fun hp hd ht => ?_, fun hsent hlate => ?_, fun hb hs => ?_⟩
  · have hup : (deliver (classify s.acceptance f) f good).up = s.up := deliver_up _ _ _
    have hscore : scoreGood f.tag s.lineFreed = good := by
      rw [ht]
      exact scoreGood_of_ok hn hok (Nat.lt_of_lt_of_le hlow (by decide))
    rw [goodResponse_ends hl ha hk hr hp hd ht, sourceOutcome_relay hsource, hscore]
    generalize deliver (classify s.acceptance f) f good = delivered at hup ⊢
    rw [relayOutcome_good (by rw [hup]; exact hroom), hup]
  · have hrx : s.field.rx.isReceiving = false := by rw [hl.2]; rfl
    have hscore : scoreFailed e.tag
        { s with field := { s.field with exchange := none }, status := s.status.linkEvent .fieldTimeouts } =
        failed s .fieldTimeouts := scoreFailed_of_ok hn hok hlow
    rw [timeout_ends ha.1 hk hr hrx hsent hlate, hscore, sourceOutcome_relay hsource]
    exact congrArg Host.Outcome.next (relayOutcome_failed (.inr rfl) hroom htag)
  · have hscore : scoreFailed e.tag { s.lineFreed with status := s.status.linkEvent .fieldCrc } =
        failed s.lineFreed .fieldCrc := scoreFailed_of_ok hn hok hlow
    rw [damage_ends hl ha hk hr hb hs, hscore, sourceOutcome_relay hsource]
    exact congrArg Host.Outcome.next (relayOutcome_failed (.inl rfl) hroom htag)

end

end Sys2Proof.Machine
end

section
/-! ### Field frames: their class, the formats of their payloads, their delivery (R175, R176) -/

namespace Sys2Proof.Machine

/-! #### The class of a frame (R175) -/

theorem takes_iff (m : MatchDir) (d : Dir) :
    m.takes d = true ↔ m = .either ∨ m = .response ∧ d = .response ∨ m = .command ∧ d = .command := by
  cases m <;> cases d <;> simp [MatchDir.takes]

/-- Two words agree under a mask bit by bit. -/
theorem xor_and_eq_zero_iff {w : Nat} (x y mask : BitVec w) :
    (x ^^^ y) &&& mask = 0 ↔ ∀ i, mask.getLsbD i = true → x.getLsbD i = y.getLsbD i := by
  constructor
  · intro h i hmask
    have hbit := congrArg (fun z : BitVec w => z.getLsbD i) h
    simpa [hmask] using hbit
  · intro h
    refine BitVec.eq_of_getLsbD_eq fun i hi => ?_
    cases hmask : mask.getLsbD i with
    | false => simp [hmask]
    | true => simp [h i hmask]

/-- An acceptance entry takes a frame by its direction, its kinds, and its masked tag and address. -/
theorem isMatch_iff (e : AcceptanceEntry) (f : Frame) :
    e.isMatch f = true ↔
      (e.dir = .either ∨ e.dir = .response ∧ f.dir = .response ∨ e.dir = .command ∧ f.dir = .command) ∧
      e.kinds.getLsbD f.kind.toNat = true ∧
      (∀ i, e.tagMask.getLsbD i = true → f.tag.getLsbD i = e.tagVal.getLsbD i) ∧
      ∀ i, e.objMask.getLsbD i = true → f.addr.getLsbD i = e.objVal.getLsbD i := by
  have hused : e.kinds.getLsbD f.kind.toNat = true → e.kinds ≠ 0 := by
    rintro hkind h0
    simp [h0] at hkind
  simp only [AcceptanceEntry.isMatch, Bool.and_eq_true, beq_iff_eq, bne_iff_ne, ne_eq, takes_iff,
    xor_and_eq_zero_iff, and_assoc]
  exact ⟨fun ⟨_, h⟩ => h, fun h => ⟨hused h.2.1, h⟩⟩

theorem classify_of_none (table : List AcceptanceEntry) (f : Frame) (h : ∀ e ∈ table, e.isMatch f = false) :
    classify table f = { action := .pass, arm := none, slot := none } := by
  have hfind : table.find? (fun e => e.isMatch f) = none := List.find?_eq_none.2 fun e he => by simp [h e he]
  rw [classify, hfind]

theorem classify_of_first {before after : List AcceptanceEntry} {e : AcceptanceEntry} {f : Frame}
    (hbefore : ∀ x ∈ before, x.isMatch f = false) (h : e.isMatch f = true) :
    classify (before ++ e :: after) f = e.cls := by
  have hfind : (before ++ e :: after).find? (fun e => e.isMatch f) = some e := by
    rw [List.find?_append, List.find?_eq_none.2 fun x hx => by simp [hbefore x hx], Option.none_or,
      List.find?_cons_of_pos (p := fun x : AcceptanceEntry => x.isMatch f) (a := e) h]
  rw [classify, hfind]

/-! #### The payload formats (10, "Record layouts") -/

section
variable (r : List Byte)

theorem beq_zero_eq (x : Byte) : (x == 0) = decide (x.toNat = 0) := by
  rw [Bool.eq_iff_iff, beq_iff_eq, decide_eq_true_iff, ← BitVec.toNat_inj]
  rfl

theorem beq_one_eq (x : Byte) : (x == 1) = decide (x.toNat = 1) := by
  rw [Bool.eq_iff_iff, beq_iff_eq, decide_eq_true_iff, ← BitVec.toNat_inj]
  rfl

theorem readMeterCount_eq_some (count : Nat) (ok : Bool) :
    readMeterCount r = some (count, ok) ↔
      ∃ h l x : Byte, r = [h, l, x] ∧ x.toNat ≤ 1 ∧ count = 256 * h.toNat + l.toNat ∧ ok = (x == 0) := by
  have hread : ∀ h l x : Byte, readMeterCount [h, l, x] =
      if x.toNat ≤ 1 then some (256 * h.toNat + l.toNat, x == 0) else none := by
    intro h l x
    rw [beq_zero_eq, Nat.mul_comm]
    simp [readMeterCount, fieldNat, beNat]
  constructor
  · intro hr
    obtain ⟨h, l, x, rfl⟩ : ∃ h l x, r = [h, l, x] := List.length_eq_three.1 (by
      by_contra hlen
      simp [readMeterCount, hlen] at hr)
    rw [hread, Option.ite_none_right_eq_some] at hr
    obtain ⟨hx, hv⟩ := hr
    cases hv
    exact ⟨h, l, x, rfl, hx, rfl, rfl⟩
  · rintro ⟨h, l, x, rfl, hx, rfl, rfl⟩
    rw [hread, if_pos hx]

theorem toInt_ofNat_pair (h l : Byte) :
    (BitVec.ofNat 16 (256 * h.toNat + l.toNat)).toInt =
      (256 * h.toNat + l.toNat : Nat) - (if h.toNat < 128 then 0 else 65536) := by
  have hh := h.isLt
  have hl := l.isLt
  rw [BitVec.toInt_eq_toNat_cond, BitVec.toNat_ofNat, Nat.mod_eq_of_lt (by omega)]
  split <;> split <;> omega

theorem readTemperature_eq_some (t : Int) (valid : Bool) :
    readTemperature r = some (t, valid) ↔
      ∃ h l x : Byte, r = [h, l, x] ∧ x.toNat ≤ 1 ∧ valid = (x == 1) ∧
        t = (256 * h.toNat + l.toNat : Nat) - (if h.toNat < 128 then 0 else 65536) := by
  have hread : ∀ h l x : Byte, readTemperature [h, l, x] =
      if x.toNat ≤ 1 then some ((BitVec.ofNat 16 (256 * h.toNat + l.toNat)).toInt, x == 1) else none := by
    intro h l x
    rw [beq_one_eq, Nat.mul_comm]
    simp [readTemperature, fieldNat, beNat]
  constructor
  · intro hr
    obtain ⟨h, l, x, rfl⟩ : ∃ h l x, r = [h, l, x] := List.length_eq_three.1 (by
      by_contra hlen
      simp [readTemperature, hlen] at hr)
    rw [hread, Option.ite_none_right_eq_some] at hr
    obtain ⟨hx, hv⟩ := hr
    cases hv
    exact ⟨h, l, x, rfl, hx, rfl, toInt_ofNat_pair h l⟩
  · rintro ⟨h, l, x, rfl, hx, rfl, rfl⟩
    rw [hread, if_pos hx, toInt_ofNat_pair]

theorem reportedOf_eq_some (p : Byte) (q : ReportedPosition) :
    reportedOf p.toNat = some q ↔ p = match q with | .closed => 0 | .low => 1 | .full => 2 | .moving => 3 := by
  rw [← BitVec.toNat_inj]
  unfold reportedOf
  split <;> cases q <;> simp_all

theorem readValveStatus_eq_some (v : ValveReport) :
    readValveStatus r = some v ↔
      ∃ p x : Byte, r = [p, x] ∧ x.toNat ≤ 1 ∧ v.coupler = (x == 1) ∧
        p = match v.position with | .closed => 0 | .low => 1 | .full => 2 | .moving => 3 := by
  have hread : ∀ p x : Byte, readValveStatus [p, x] =
      if x.toNat ≤ 1 then (reportedOf p.toNat).map fun q => { position := q, coupler := x == 1 } else none := by
    intro p x
    rw [beq_one_eq]
    simp only [readValveStatus, fieldNat, beNat, List.length_cons, List.length_nil, List.drop_succ_cons,
      List.drop_zero, List.take_succ_cons, List.take_zero, List.foldl_cons, List.foldl_nil, Nat.zero_mul, Nat.zero_add]
    cases reportedOf p.toNat <;> simp
  constructor
  · intro hr
    obtain ⟨p, x, rfl⟩ : ∃ p x, r = [p, x] := List.length_eq_two.1 (by
      by_contra hlen
      simp [readValveStatus, hlen] at hr)
    rw [hread, Option.ite_none_right_eq_some] at hr
    obtain ⟨hx, hv⟩ := hr
    obtain ⟨q, hq, rfl⟩ := Option.map_eq_some_iff.1 hv
    exact ⟨p, x, rfl, hx, rfl, (reportedOf_eq_some p q).1 hq⟩
  · rintro ⟨p, x, rfl, hx, hcoupler, hp⟩
    rw [hread, if_pos hx, (reportedOf_eq_some p v.position).2 hp, Option.map_some, ← hcoupler]

theorem readInjector_eq_some (d last : Nat) :
    readInjector r = some (d, last) ↔
      ∃ a b c e x : Byte, r = [a, b, c, e, x] ∧
        d = 16777216 * a.toNat + 65536 * b.toNat + 256 * c.toNat + e.toNat ∧ last = x.toNat := by
  have hread : ∀ a b c e x : Byte, readInjector [a, b, c, e, x] =
      some (16777216 * a.toNat + 65536 * b.toNat + 256 * c.toNat + e.toNat, x.toNat) := by
    intro a b c e x
    simp [readInjector, fieldNat, beNat]
    omega
  constructor
  · intro hr
    match r, hr with
    | [a, b, c, e, x], hr =>
      rw [hread] at hr
      cases hr
      exact ⟨a, b, c, e, x, rfl, rfl, rfl⟩
  · rintro ⟨a, b, c, e, x, rfl, rfl, rfl⟩
    exact hread a b c e x

theorem readPermissive_eq_some (arrival : Ms) (v : PermissiveReport) (count : Nat) :
    readPermissive r arrival = some (v, count) ↔
      ∃ b x : Byte, r = [b, x] ∧ b.toNat < 16 ∧ count = x.toNat ∧
        v = { ground := b.getLsbD 0, dry := b.getLsbD 1, hose := b.getLsbD 2, estop := b.getLsbD 3
              arrival := arrival } := by
  have hread : ∀ b x : Byte, readPermissive [b, x] arrival =
      if b.toNat < 16 then
        some ({ ground := b.getLsbD 0, dry := b.getLsbD 1, hose := b.getLsbD 2, estop := b.getLsbD 3
                arrival := arrival }, x.toNat)
      else none := by
    intro b x
    simp [readPermissive, fieldNat, beNat]
  constructor
  · intro hr
    obtain ⟨b, x, rfl⟩ : ∃ b x, r = [b, x] := List.length_eq_two.1 (by
      by_contra hlen
      simp [readPermissive, hlen] at hr)
    rw [hread, Option.ite_none_right_eq_some] at hr
    obtain ⟨hb, hv⟩ := hr
    cases hv
    exact ⟨b, x, rfl, hb, rfl, rfl⟩
  · rintro ⟨b, x, rfl, hb, rfl, rfl⟩
    rw [hread, if_pos hb]

/-- A reader report is its card number's sequence, the card, the keys' sequence and the keys. -/
theorem readReader_eq_some (v : ReaderReport) :
    readReader r = some v ↔
      ∃ (cardSeq keySeq : Byte) (card keys : List Byte),
        r = cardSeq :: (card ++ keySeq :: keys) ∧ card.length = 5 ∧ keys.length = 8 ∧
        (∀ b ∈ card, b.toNat / 16 ≤ 9 ∧ b.toNat % 16 ≤ 9) ∧
        v = { cardSeq := cardSeq.toNat
              card := card.foldl (fun v b => v * 100 + b.toNat / 16 * 10 + b.toNat % 16) 0
              keySeq := keySeq.toNat, keys := keys.map fun b => b.toNat } := by
  have hread : ∀ (cardSeq keySeq : Byte) (card keys : List Byte), card.length = 5 → keys.length = 8 →
      readReader (cardSeq :: (card ++ keySeq :: keys)) =
        (cardOfBytes card).map fun n =>
          { cardSeq := cardSeq.toNat, card := n, keySeq := keySeq.toNat, keys := keys.map fun b => b.toNat } := by
    intro cardSeq keySeq card keys hcard hkeys
    match card, hcard with
    | [c1, c2, c3, c4, c5], _ =>
      simp only [readReader, List.length_cons, hkeys, fieldNat, beNat, List.cons_append,
        List.nil_append, List.drop_succ_cons, List.drop_zero, List.take_succ_cons, List.take_zero]
      cases cardOfBytes [c1, c2, c3, c4, c5] <;> simp
  constructor
  · intro hr
    have hlen : r.length = 15 := by
      by_contra hlen
      simp [readReader, hlen] at hr
    obtain ⟨cardSeq, keySeq, card, keys, rfl, hcard, hkeys⟩ :
        ∃ (cardSeq keySeq : Byte) (card keys : List Byte),
          r = cardSeq :: (card ++ keySeq :: keys) ∧ card.length = 5 ∧ keys.length = 8 := by
      match r, hlen with
      | x0 :: x1 :: x2 :: x3 :: x4 :: x5 :: x6 :: keys, hlen =>
        exact ⟨x0, x6, [x1, x2, x3, x4, x5], keys, rfl, rfl, by simpa using hlen⟩
    rw [hread _ _ _ _ hcard hkeys] at hr
    obtain ⟨n, hn, rfl⟩ := Option.map_eq_some_iff.1 hr
    obtain ⟨hdigits, rfl⟩ := (cardOfBytes_eq_some_iff card n).1 hn
    exact ⟨cardSeq, keySeq, card, keys, rfl, hcard, hkeys, hdigits, by rw [digitsValue_halfBytes]⟩
  · rintro ⟨cardSeq, keySeq, card, keys, rfl, hcard, hkeys, hdigits, rfl⟩
    rw [hread _ _ _ _ hcard hkeys,
      (cardOfBytes_eq_some_iff card _).2 ⟨hdigits, (digitsValue_halfBytes card).symm⟩, Option.map_some]

end

end Sys2Proof.Machine
end

section
/-! ### Field frames are taken or discarded (R167, R175 to R177, R193) -/

namespace Sys2Proof.Machine

section
variable {s : State} {e : Exchange} {f : Frame} {bytes : List Byte} {tag : Tag}

/-! #### Frames that answer nothing -/

theorem exec_fieldFrameDiscarded_of_awaitsNothing (hl : s.fieldListens) (hp : f.payload.length ≤ 48)
    (h : s.awaitsNothing) : exec (.fieldFrameDiscarded f) s = .next s.fieldHeardNow := by
  change Host.Outcome.next (discardedFrame f s) = _
  rw [discardedFrame, awaiting_of_awaitsNothing s h]
  exact congrArg Host.Outcome.next (receiveField_of_listens f _ s hl hp)

/-- A frame that fails the response test is discarded, or ends an exchange that is overdue as a timeout. -/
theorem exec_fieldFrameDiscarded_of_awaits (hl : s.fieldListens) (hp : f.payload.length ≤ 48) (ha : s.awaits e)
    (hr : e.source.isRoll = false) (hf : f.dir = .command ∨ f.tag ≠ e.tag) :
    exec (.fieldFrameDiscarded f) s = .next
      (if e.isOverdue s.now then endExchange e .timeout s.fieldHeardNow else s.fieldHeardNow) := by
  have haccepts : e.accepts f = false := by
    refine Bool.eq_false_iff.2 fun h => ?_
    obtain ⟨hd, ht⟩ := (accepts_iff e f).1 h
    rcases hf with hf | hf
    · rw [hd] at hf
      cases hf
    · exact hf ht
  change Host.Outcome.next (discardedFrame f s) = _
  rw [discardedFrame, (awaiting_iff_awaits s e).2 ha]
  simp only [hr, haccepts, Bool.or_self, Bool.false_eq_true, if_false]
  exact congrArg Host.Outcome.next (receiveField_of_listens f _ s hl hp)

theorem isOverdue_iff (hr : e.source.isRoll = false) (now : Ms) :
    e.isOverdue now = true ↔ e.toSend = 0 ∧ 20 ≤ (now - e.waitFrom).toNat := by
  simp only [Exchange.isOverdue, hr, Bool.not_false, Bool.true_and, Bool.and_eq_true, beq_iff_eq, decide_eq_true_eq]

/-- The late frame that ends an overdue exchange as a timeout. -/
theorem lateFrame_ends (hl : s.fieldListens) (hp : f.payload.length ≤ 48) (ha : s.awaits e) (hk : e.dropped = false)
    (hr : e.source.isRoll = false) (hf : f.dir = .command ∨ f.tag ≠ e.tag) (hsent : e.toSend = 0)
    (hlate : 20 ≤ (s.clock.ms - e.waitFrom).toNat) :
    exec (.fieldFrameDiscarded f) s = .next
      (sourceOutcome e .timeout
        (scoreFailed e.tag { s.lineFreed with status := s.status.linkEvent .fieldTimeouts })) := by
  rw [exec_fieldFrameDiscarded_of_awaits hl hp ha hr hf, if_pos ((isOverdue_iff hr s.now).2 ⟨hsent, hlate⟩),
    endExchange_of_kept hk, freeLine_fieldHeardNow, countEnding, count_of_link rfl, scoreEnding]
  rfl

/-- No exchange but one of a command or of the relay has an outcome of its own. -/
theorem sourceOutcome_of_scan {i : Nat} (h : e.source = .scan i) (x : Ending) (s : State) : sourceOutcome e x s = s := by
  simp [sourceOutcome, h]

/-! #### Delivery to the owner a class names (R176) -/

theorem deliver_of_notData (c : FrameClass) (h : f.kind ≠ 0) (s : State) : deliver c f s = s := if_pos h

theorem deliver_of_passed {c : FrameClass} (f : Frame)
    (h : c.action = .pass ∨ c.action = .actuator ∨ c.action = .block) (s : State) : deliver c f s = s := by
  rw [deliver]
  split
  · rfl
  rcases h with h | h | h <;>
  · rw [h, if_neg (by decide), if_neg (by decide), deliverArmReport]
    split
    · rfl
    · rw [h, deliverToArm]

theorem deliver_permissive {c : FrameClass} (hk : f.kind = 0) (h : c.action = .permissive) (s : State) :
    deliver c f s = deliverPermissive f s := by
  simp [deliver, hk, h]

theorem deliver_reader {c : FrameClass} (hk : f.kind = 0) (h : c.action = .reader) (s : State) :
    deliver c f s = deliverReader f s := by
  simp [deliver, hk, h]

theorem deliver_arm {c : FrameClass} {n : ArmId} (hk : f.kind = 0) (hn : c.arm = some n)
    (hp : c.action ≠ .permissive) (hr : c.action ≠ .reader) (s : State) :
    deliver c f s = deliverToArm n c.slot c.action f.tag f.payload s := by
  simp [deliver, hk, hp, hr, deliverArmReport, hn]

end

/-- A DATA response reaches the owner its class names, if its payload fits. -/
theorem deliver_outcome (s : State) (f : Frame) (c : FrameClass) :
    ((f.kind ≠ 0 ∨ c.action = .pass ∨ c.action = .actuator ∨ c.action = .block) → deliver c f s = s) ∧
    (f.kind = 0 →
      (c.action = .permissive →
        (readPermissive f.payload s.clock.ms = none → deliver c f s = s) ∧
        ∀ r count, readPermissive f.payload s.clock.ms = some (r, count) →
          deliver c f s = permissiveReport f.tag r count s) ∧
      (c.action = .reader →
        (readReader f.payload = none → deliver c f s = s) ∧
        ∀ r, readReader f.payload = some r → deliver c f s = readerReport f.tag r s) ∧
      ∀ n, c.arm = some n →
        (c.action = .meterCount →
          (readMeterCount f.payload = none → deliver c f s = s) ∧
          ∀ count ok, readMeterCount f.payload = some (count, ok) →
            deliver c f s = meterReport n f.tag count ok s) ∧
        (c.action = .temperature →
          (readTemperature f.payload = none → deliver c f s = s) ∧
          ∀ x valid, readTemperature f.payload = some (x, valid) →
            deliver c f s = temperatureReport n f.tag x valid s) ∧
        (c.action = .valveStatus →
          (readValveStatus f.payload = none → deliver c f s = s) ∧
          ∀ r, readValveStatus f.payload = some r → deliver c f s = valveReport n f.tag r s) ∧
        (c.action = .injectorReport → ∀ k, c.slot = some k →
          (readInjector f.payload = none → deliver c f s = s) ∧
          ∀ d last, readInjector f.payload = some (d, last) →
            deliver c f s = injectorReport n k f.tag d last s)) := by
  refine ⟨fun h => h.elim (fun hk => deliver_of_notData c hk s) fun h => deliver_of_passed f h s,
    fun hk => ⟨fun h => ?_, fun h => ?_, fun n hn => ⟨fun h => ?_, fun h => ?_, fun h => ?_, fun h k hslot => ?_⟩⟩⟩
  · rw [deliver_permissive hk h, deliverPermissive, State.now]
    exact ⟨fun hread => by rw [hread], fun r count hread => by rw [hread]⟩
  · rw [deliver_reader hk h, deliverReader]
    exact ⟨fun hread => by rw [hread], fun r hread => by rw [hread]⟩
  all_goals rw [deliver_arm hk hn (by rw [h]; decide) (by rw [h]; decide), h]
  · rw [deliverToArm]
    exact ⟨fun hread => by rw [hread], fun count ok hread => by rw [hread]⟩
  · rw [deliverToArm]
    exact ⟨fun hread => by rw [hread], fun x valid hread => by rw [hread]⟩
  · rw [deliverToArm]
    exact ⟨fun hread => by rw [hread], fun r hread => by rw [hread]⟩
  · rw [hslot]
    exact ⟨fun hread => by simp [deliverToArm, hread], fun d last hread => by simp [deliverToArm, hread]⟩

/-- Settles O44: the frame's exchange, its class, its owner and its format, in turn. -/
theorem fieldFramesAreTakenOrDiscarded : Obligations.FieldFramesAreTakenOrDiscarded := by
  refine ⟨fun s f bytes hl hp hb => ⟨fun e i ha hsource hk hd ht => ⟨?_, fun hn hok hlow => ?_⟩, fun h => ?_,
    fun e i ha hsource hk hf hsent hlate => ?_, fun h hs => ?_⟩, fun table f => ⟨fun h => ?_, ?_⟩, deliver_outcome,
    fun r => ⟨readMeterCount_eq_some r, readTemperature_eq_some r, readValveStatus_eq_some r, readInjector_eq_some r,
      readPermissive_eq_some r, readReader_eq_some r⟩⟩
  · rw [goodResponse_ends hl ha hk (by rw [hsource]; rfl) hp hd ht, sourceOutcome_of_scan hsource]
  · exact scoreGood_of_ok hn hok (Nat.lt_succ_of_lt hlow)
  · obtain h | ⟨e, ha, hr, hf, hwaits⟩ := h
    · exact exec_fieldFrameDiscarded_of_awaitsNothing hl hp h
    · rw [exec_fieldFrameDiscarded_of_awaits hl hp ha hr hf, if_neg]
      rw [isOverdue_iff hr, State.now]
      omega
  · rw [lateFrame_ends hl hp ha hk (by rw [hsource]; rfl) hf hsent hlate, sourceOutcome_of_scan hsource]
  · have hnothing := fieldHeard_awaitsNothing .idle s h
    rw [fieldHeard_of_listens hl] at hnothing
    rw [exec_fieldDamagedResponse_of_listens hl hb hs, takeDamage_of_awaiting_none _ hnothing]
  · exact classify_of_none table f fun e he => Bool.eq_false_iff.2 fun hm => h e he ((isMatch_iff e f).1 hm)
  · rintro before e after rfl hbefore hfits
    exact classify_of_first (fun x hx => Bool.eq_false_iff.2 fun hm => hbefore x hx ((isMatch_iff x f).1 hm))
      ((isMatch_iff e f).2 hfits)

end Sys2Proof.Machine
end

section
/-! ### Line breaks and frames abandoned (R182, R184) -/

namespace Sys2Proof.Machine

section
variable {s : State} {e : Exchange} {bytes held : List Byte} {b : Byte}

/-! #### A LINE BREAK upstream (R172, R184, R185) -/

theorem ignoreBytes_of_pos {n : Nat} (h : n ≠ 0) (s : State) :
    ignoreBytes n s =
      { s.countBy .ignored n with
        up := { s.up with ignored := true, sinceByte := 0, lastByte := s.clock.ms } } := by
  simp [ignoreBytes, h, State.modUp, State.countBy, State.modStatus, State.now]

/-- The status after a break: bytes that fell into a transmission are counted. -/
theorem upBreak_status (bytes : List Byte) (s : State) :
    (upBreak bytes s).status =
      if s.up.sending.isSome = true ∧ bytes ≠ [] then (s.countBy .ignored bytes.length).status else s.status := by
  rw [upBreak]
  by_cases h : s.up.sending.isSome = true ∧ bytes ≠ []
  · rw [if_pos h, if_pos h, ignoreBytes_of_pos (fun hl => h.2 (List.eq_nil_of_length_eq_zero hl))]
    rfl
  · rw [if_neg h, if_neg h]
    rfl

/-- What a break makes of the port, the field exchange and the queues, and what it leaves. -/
theorem upBreak_outcome (bytes : List Byte) (s : State) :
    let t := upBreak bytes s
    t.relayQueue = [] ∧ t.up.outgoing = [] ∧ t.up.sending = none ∧ t.up.rx = .idle ∧ t.up.inBreak = true ∧
    t.up.gap = s.up.gap ∧
    t.field = { s.field with exchange := s.field.exchange.map fun e => { e with muted := true } } ∧
    t = { s with relayQueue := [], up := t.up, field := t.field, status := t.status } := by
  rw [upBreak]
  by_cases h : s.up.sending.isSome = true ∧ bytes ≠ []
  · rw [if_pos h, ignoreBytes_of_pos (fun hl => h.2 (List.eq_nil_of_length_eq_zero hl))]
    exact ⟨rfl, rfl, rfl, rfl, rfl, rfl, rfl, rfl⟩
  · rw [if_neg h]
    exact ⟨rfl, rfl, rfl, rfl, rfl, rfl, rfl, rfl⟩

/-! #### A LINE BREAK on the field line (R184) -/

/-- The field line in a break, the bytes before it heard. -/
def State.fieldBroken (s : State) (bytes : List Byte) : State :=
  { s with field := { (if bytes = [] then s else s.fieldHeardNow).field with rx := .idle, inBreak := true } }

theorem fieldBreak_eq (bytes : List Byte) (s : State) :
    fieldBreak bytes s =
      if s.field.rx ≠ .hunt ∧ s.field.rx.bytes ++ bytes ≠ [] ∧ rxStatus (s.field.rx.bytes ++ bytes) = .incomplete
      then takeDamage (s.fieldBroken bytes) else s.fieldBroken bytes := by
  rw [fieldBreak, State.fieldBroken]
  by_cases h : bytes = []
  · simp only [h, if_true]
    rfl
  · simp only [h, if_false]
    rfl

theorem exec_lineBreak_field (hb : s.field.inBreak = false) (hl : bytes.length ≤ 55) :
    exec (.lineBreak .field bytes) s = .next (fieldBreak bytes s) := by
  change Host.Outcome.next (if s.field.inBreak || !bytesFit bytes then s else fieldBreak bytes s) = _
  simp [hb, bytesFit, hl]

theorem fieldBroken_awaitsNothing (bytes : List Byte) (h : s.awaitsNothing) :
    (s.fieldBroken bytes).field.awaiting = none := by
  by_cases hb : bytes = []
  · have hexchange : (s.fieldBroken bytes).field.awaiting = s.field.awaiting := by simp [State.fieldBroken, hb, FieldLine.awaiting]
    rw [hexchange]
    exact awaiting_of_awaitsNothing s h
  · have hexchange : (s.fieldBroken bytes).field.awaiting = (fieldHeard .idle s).field.awaiting := by
      simp [State.fieldBroken, hb, FieldLine.awaiting, fieldHeard_eq]
    rw [hexchange]
    exact fieldHeard_awaitsNothing .idle s h

/-- The exchange that awaits a response still does in the break, its silence begun anew by the bytes heard. -/
theorem fieldBroken_awaits (bytes : List Byte) (h : s.awaits e) :
    (s.fieldBroken bytes).awaits
      { e with waitFrom := if bytes ≠ [] ∧ e.source.isRoll then s.clock.ms else e.waitFrom } := by
  refine ⟨?_, h.2⟩
  by_cases hb : bytes = []
  · simp [State.fieldBroken, hb, h.1]
  · have hexchange : (s.fieldBroken bytes).field.exchange = (fieldHeard .idle s).field.exchange := by
      simp [State.fieldBroken, hb, fieldHeard_eq]
    rw [hexchange, (fieldHeard_awaits h .idle).1]
    simp [hb]

/-- A damaged frame of a ROLL is counted, in the link counter and in the exchange (R167, R191). -/
theorem chainedDamage_eq {relayed damaged : Nat} {x : Exchange} (hx : s.field.exchange = some x)
    (hsource : x.source = .roll relayed damaged) :
    chainedDamage s = { s with
      field := { s.field with exchange := some { x with source := .roll relayed (damaged + 1) } }
      status := s.status.linkEvent .fieldCrc } := by
  rw [chainedDamage, count_of_link rfl]
  simp [bumpRoll, State.modField, hx, hsource, Source.rollCounts]

theorem endExchange_damaged_of_scan {i : Nat} (hk : e.dropped = false) (hsource : e.source = .scan i)
    (hn : isNodeTag e.tag = true) (hok : (s.node e.tag).state = .ok) (hlow : (s.node e.tag).score < 36) :
    endExchange e .damaged s =
      { s.withScore e.tag ((s.node e.tag).score + 4) with
        field := { s.field with exchange := none }, status := s.status.linkEvent .fieldCrc } := by
  have hscore : scoreFailed e.tag
      { s with field := { s.field with exchange := none }, status := s.status.linkEvent .fieldCrc } =
      { s.withScore e.tag ((s.node e.tag).score + 4) with
        field := { s.field with exchange := none }, status := s.status.linkEvent .fieldCrc } :=
    scoreFailed_of_ok hn hok hlow
  rw [endExchange_of_kept hk, sourceOutcome_of_scan hsource, countEnding, freeLine_eq, count_of_link rfl, scoreEnding,
    hscore]

/-- Settles O11: the break upstream, the break on the field line by the exchange it meets, and the end of either. -/
theorem lineBreaksDiscardTheFrame : Obligations.LineBreaksDiscardTheFrame := by
  intro s bytes hl
  refine ⟨fun hb => ⟨upBreak bytes s, ?_, ?_⟩, ⟨fun hb h => ?_, fun e hb hhunt hpart hne ha hk =>
    ⟨fun i hsource hn _ hlow hok => ?_, fun relayed damaged x hsource hx => ?_⟩⟩, fun hb => ?_, fun hb => ?_⟩
  · change Host.Outcome.next (if s.up.inBreak || !bytesFit bytes then s else upBreak bytes s) = _
    simp [hb, bytesFit, hl]
  · obtain ⟨hrelay, hout, hsending, hrx, hbreak, hgap, hfield, hsame⟩ := upBreak_outcome bytes s
    exact ⟨hrelay, hout, hsending, hrx, hbreak, hgap, hfield, upBreak_status bytes s, hsame⟩
  · rw [exec_lineBreak_field hb hl, fieldBreak_eq]
    split
    next hdamage =>
      obtain ⟨hhunt, hne, -⟩ := hdamage
      have hnothing : s.awaitsNothing := h.resolve_right fun h => h.elim hhunt hne
      exact congrArg Host.Outcome.next (takeDamage_of_awaiting_none _ (fieldBroken_awaitsNothing bytes hnothing))
    next => rfl
  · have hbroken := fieldBroken_awaits bytes ha
    have hr : e.source.isRoll = false := by rw [hsource]; rfl
    simp only [hr, Bool.false_eq_true, and_false, if_false] at hbroken
    rw [exec_lineBreak_field hb hl, fieldBreak_eq, if_pos ⟨hhunt, hne, hpart⟩, takeDamage_of_awaits hbroken, hr]
    exact congrArg Host.Outcome.next (endExchange_damaged_of_scan hk hsource hn hok hlow)
  · have hbroken := fieldBroken_awaits bytes ha
    rw [exec_lineBreak_field hb hl, fieldBreak_eq, if_pos ⟨hhunt, hne, hpart⟩, takeDamage_of_awaits hbroken, hsource]
    have hx' : (s.fieldBroken bytes).field.exchange = some x := hx
    have hxsource : x.source = .roll relayed damaged := by
      have heq := hbroken.1.symm.trans hx'
      rw [← Option.some.inj heq]
      exact hsource
    exact congrArg Host.Outcome.next (chainedDamage_eq hx' hxsource)
  · change Host.Outcome.next (if s.up.inBreak then _ else s) = _
    rw [if_pos hb]
    rfl
  · change Host.Outcome.next (if s.field.inBreak then _ else s) = _
    rw [if_pos hb]
    rfl

end

end Sys2Proof.Machine
end

section
/-! ### Frames abandoned and silence after them (R182) -/

namespace Sys2Proof.Machine

section
variable {s : State} {bytes held : List Byte} {b : Byte}

/-! #### The upstream receiver -/

theorem receiveUpBytes_of_idle (take : List Byte → State → State) (hb : s.up.inBreak = false)
    (hs : s.up.sending = none) (hr : s.up.rx = .idle) (hl : bytes.length ≤ 55) :
    receiveUpBytes bytes take s = take bytes s := by
  simp [receiveUpBytes, bytesFit, hb, hs, hr, hl]

/-- A byte with bits 3 to 0 clear can lead a frame. -/
theorem badByte_lead (h : b.toNat % 16 = 0) : badByte [b] = false := by
  have hlow : b &&& 0x0F#8 = 0#8 := by
    refine BitVec.eq_of_toNat_eq ?_
    rw [BitVec.toNat_and, BitVec.toNat_ofNat]
    exact (Nat.and_two_pow_sub_one_eq_mod b.toNat 4).trans h
  simp [badByte, hlow]

theorem upFirstByte_of_lead (h : b.toNat % 16 = 0) (s : State) :
    upFirstByte b s =
      { s with up := { s.up with rx := .receiving [b], sinceByte := 0, lastByte := s.clock.ms } } := by
  rw [upFirstByte, firstByte, badByte_lead h]
  rfl

theorem receiveUpGap_of_idle (after : Option Byte) (hl : bytes.length ≤ 55) (hne : bytes ≠ [])
    (hb : s.up.inBreak = false) (hs : s.up.sending = none) (hr : s.up.rx = .idle) :
    receiveUpGap bytes after s = upGap bytes after bytes s := by
  simp [receiveUpGap, bytesFit, hb, hs, hr, hl, hne]

theorem receiveUpGap_of_held (hb : s.up.inBreak = false) (hs : s.up.sending = none) (hr : s.up.rx = .receiving held) :
    receiveUpGap [] none s = if pastGap s.now s.up.lastByte then upGap [] none held s else s := by
  cases hgap : pastGap s.now s.up.lastByte <;> simp [receiveUpGap, bytesFit, hb, hs, hr, hgap]

theorem upGap_of_incomplete (bytes : List Byte) (after : Option Byte) (hpart : rxStatus held = .incomplete)
    (hne : held ≠ []) :
    upGap bytes after held s =
      upAfterGap after (upGapEnd bytes { s with status := s.status.linkEvent .upstreamFraming }) := by
  rw [upGap, if_pos ⟨hpart, hne⟩, count_of_link rfl]

theorem exec_upGap_of_idle (after : Option Byte) (hl : bytes.length ≤ 55) (hpart : rxStatus bytes = .incomplete)
    (hne : bytes ≠ []) (hb : s.up.inBreak = false) (hs : s.up.sending = none) (hr : s.up.rx = .idle) :
    exec (.receiveGapTimeout .upstream bytes after) s = .next
      (upAfterGap after
        { s with
          up := { s.up with rx := .idle, sinceByte := 2001, lastByte := s.clock.ms - 3 }
          status := s.status.linkEvent .upstreamFraming }) := by
  change Host.Outcome.next (receiveUpGap bytes after s) = _
  rw [receiveUpGap_of_idle after hl hne hb hs hr, upGap_of_incomplete bytes after hpart hne, upGapEnd, if_neg hne]
  rfl

/-- The held bytes of a frame are abandoned once the line has been silent for more than 2 ms. -/
theorem exec_upGap_of_held (hpart : rxStatus held = .incomplete) (hne : held ≠ []) (hb : s.up.inBreak = false)
    (hs : s.up.sending = none) (hr : s.up.rx = .receiving held) :
    exec (.receiveGapTimeout .upstream [] none) s = .next
      (if 2 < (s.clock.ms - s.up.lastByte).toNat then
        { s with up := { s.up with rx := .idle }, status := s.status.linkEvent .upstreamFraming }
      else s) := by
  change Host.Outcome.next (receiveUpGap [] none s) = _
  rw [receiveUpGap_of_held hb hs hr, upGap_of_incomplete [] none hpart hne]
  exact congrArg Host.Outcome.next (if_congr (pastGap_iff s.now s.up.lastByte) rfl rfl)

/-! #### The field receiver, no response awaited -/

theorem fieldSilent_awaitsNothing (rx : Receiver) (h : s.awaitsNothing) :
    (fieldSilent rx s).field.awaiting = none := by
  refine awaiting_of_awaitsNothing _ fun e he => ?_
  have hmap : (fieldSilent rx s).field.exchange = s.field.exchange.map fun x =>
      { x with waitFrom := if x.source.isRoll then beforeGap s.now else x.waitFrom } := rfl
  obtain ⟨x, hx, rfl⟩ := Option.map_eq_some_iff.1 (hmap.symm.trans he)
  exact h x hx

/-- The bytes heard after a silence leave no trace of it. -/
theorem fieldHeard_fieldSilent (rx old : Receiver) (s : State) :
    fieldHeard rx (fieldSilent old s) = fieldHeard rx s := by
  have hhear : ∀ e : Exchange,
      ({ e with waitFrom := if e.source.isRoll then beforeGap s.now else e.waitFrom } : Exchange).hear s.up.gap s.now =
        e.hear s.up.gap s.now := by
    intro e
    cases hr : e.source.isRoll <;> simp [Exchange.hear, Exchange.awaitGap, hr]
  have hexchange : ((fieldSilent old s).field.exchange.map fun e => e.hear s.up.gap s.now) =
      s.field.exchange.map fun e => e.hear s.up.gap s.now := by
    change ((s.field.exchange.map _).map _) = _
    rw [Option.map_map]
    exact congrArg (fun g => s.field.exchange.map g) (funext hhear)
  exact congrArg (fun x : Option Exchange =>
    { s with field := { s.field with rx := rx, sinceByte := 0, lastByte := s.now, exchange := x } }) hexchange

theorem fieldFirstByte_of_lead (h : b.toNat % 16 = 0) (s : State) :
    fieldFirstByte b s = fieldHeard (.receiving [b]) s := by
  rw [fieldFirstByte, firstByte, badByte_lead h]
  rfl

theorem receiveFieldGap_of_idle (after : Option Byte) (hl : bytes.length ≤ 55) (hne : bytes ≠ [])
    (hlisten : s.fieldListens) : receiveFieldGap bytes after s = fieldGap bytes after bytes s := by
  obtain ⟨hb, hr⟩ := hlisten
  simp [receiveFieldGap, bytesFit, hb, hr, hl, hne]

theorem receiveFieldGap_of_held (hb : s.field.inBreak = false) (hr : s.field.rx = .receiving held) :
    receiveFieldGap [] none s = if pastGap s.now s.field.lastByte then fieldGap [] none held s else s := by
  cases hgap : pastGap s.now s.field.lastByte <;> simp [receiveFieldGap, bytesFit, hb, hr, hgap]

theorem fieldGap_of_incomplete (bytes : List Byte) (after : Option Byte) (hpart : rxStatus held = .incomplete)
    (hne : held ≠ []) (h : (fieldGapEnd bytes s).field.awaiting = none) :
    fieldGap bytes after held s = fieldAfterGap after (fieldGapEnd bytes s) := by
  rw [fieldGap, if_pos ⟨hpart, hne⟩, takeDamage_of_awaiting_none _ h]

theorem exec_fieldGap_of_idle (after : Option Byte) (hl : bytes.length ≤ 55) (hpart : rxStatus bytes = .incomplete)
    (hne : bytes ≠ []) (hlisten : s.fieldListens) (h : s.awaitsNothing) :
    exec (.receiveGapTimeout .field bytes after) s = .next (fieldAfterGap after (fieldSilent .idle s)) := by
  have hend : fieldGapEnd bytes s = fieldSilent .idle s := if_neg hne
  have hawaiting : (fieldGapEnd bytes s).field.awaiting = none := hend ▸ fieldSilent_awaitsNothing .idle h
  change Host.Outcome.next (receiveFieldGap bytes after s) = _
  rw [receiveFieldGap_of_idle after hl hne hlisten, fieldGap_of_incomplete bytes after hpart hne hawaiting, hend]

theorem fieldSilent_of_listens (h : s.fieldListens) :
    fieldSilent .idle s =
      { s with
        field :=
          { s.field with
            sinceByte := 2001, lastByte := s.clock.ms - 3
            exchange := s.field.exchange.map fun e =>
              { e with waitFrom := if e.source.isRoll then s.clock.ms - 3 else e.waitFrom } } } := by
  obtain ⟨-, hidle⟩ := h
  rw [← hidle]
  rfl

theorem exec_fieldGap_of_held (hpart : rxStatus held = .incomplete) (hne : held ≠ []) (hb : s.field.inBreak = false)
    (hr : s.field.rx = .receiving held) (h : s.awaitsNothing) :
    exec (.receiveGapTimeout .field [] none) s = .next
      (if 2 < (s.clock.ms - s.field.lastByte).toNat then { s with field := { s.field with rx := .idle } } else s) := by
  have hawaiting : (fieldGapEnd [] s).field.awaiting = none := awaiting_of_awaitsNothing s h
  change Host.Outcome.next (receiveFieldGap [] none s) = _
  rw [receiveFieldGap_of_held hb hr, fieldGap_of_incomplete [] none hpart hne hawaiting]
  exact congrArg Host.Outcome.next (if_congr (pastGap_iff s.now s.field.lastByte) rfl rfl)

end

/-- Settles O12: bytes abandoned at a bad byte, at a gap with the frame's bytes, at a gap after them, and the end of
HUNT. -/
theorem abandonedFramesAreCountedAndHunted : Obligations.AbandonedFramesAreCountedAndHunted := by
  intro s bytes b hl
  refine ⟨fun hbad => ⟨fun hb hs hr => ?_, fun hlisten h => ?_, fun hr => ?_⟩, fun hpart hne hlead =>
    ⟨fun hb hs hr => ⟨exec_upGap_of_idle none hl hpart hne hb hs hr, ?_⟩,
      fun hlisten h => ⟨?_, ?_⟩⟩, fun held hpart hne =>
    ⟨fun hb hs hr => ⟨fun hgap => ?_, fun hgap => ?_⟩, fun hb hr h => ⟨fun hgap => ?_, fun hgap => ?_⟩⟩,
    fun hb hr hgap => ?_, fun hb hr hgap => ?_⟩
  · change Host.Outcome.next (receiveUpBytes bytes upAbandoned s) = _
    rw [receiveUpBytes_of_idle upAbandoned hb hs hr hl, upAbandoned, if_pos hbad, count_of_link rfl]
    rfl
  · change Host.Outcome.next (receiveFieldBytes bytes fieldAbandoned s) = _
    rw [receiveFieldBytes_of_idle fieldAbandoned hlisten.1 hlisten.2 hl, fieldAbandoned, if_pos hbad,
      fieldDamage_of_receiver (damagedReceiver_of_abandoned hbad),
      takeDamage_of_awaiting_none _ (fieldHeard_awaitsNothing .hunt s h)]
    rfl
  · change Host.Outcome.next (receiveFieldBytes bytes fieldAbandoned s) = .next (receiveFieldBytes bytes fieldDamage s)
    simp only [receiveFieldBytes, hr, fieldAbandoned, if_pos hbad]
  · rw [exec_upGap_of_idle (some b) hl hpart hne hb hs hr, upAfterGap, upFirstByte_of_lead hlead]
  · rw [exec_fieldGap_of_idle none hl hpart hne hlisten h, fieldAfterGap, fieldSilent_of_listens hlisten]
  · rw [exec_fieldGap_of_idle (some b) hl hpart hne hlisten h, fieldAfterGap, fieldFirstByte_of_lead hlead,
      fieldHeard_fieldSilent, fieldHeard_eq]
  · rw [exec_upGap_of_held hpart hne hb hs hr, if_pos hgap]
  · rw [exec_upGap_of_held hpart hne hb hs hr, if_neg (Nat.not_lt.2 hgap)]
  · rw [exec_fieldGap_of_held hpart hne hb hr h, if_pos hgap]
  · rw [exec_fieldGap_of_held hpart hne hb hr h, if_neg (Nat.not_lt.2 hgap)]
  · have hover : s.upHuntOver = true := by simp [State.upHuntOver, hr, hb, (pastGap_iff s.now s.up.lastByte).2 hgap]
    change Host.Outcome.next (if s.upHuntOver then _ else s) = _
    rw [if_pos hover]
    rfl
  · have hover : s.fieldHuntOver = true := by
      simp [State.fieldHuntOver, hr, hb, (pastGap_iff s.now s.field.lastByte).2 hgap]
    change Host.Outcome.next (if s.fieldHuntOver then _ else s) = _
    rw [if_pos hover]
    rfl

end Sys2Proof.Machine
end

section
/-! ### The command queue and the outcome of its commands (R65, R99, R167, R169, R170) -/

namespace Sys2Proof.Machine

section
variable {s : State} {n : ArmId} {t : Tag} {p : Position}

/-! #### Positions and messages offered to the queue (R169) -/

theorem superseded_of_other {c : Cmd} (h : c.isValveOf n = false) (p : Position) : c.superseded n p = c := by
  cases c with
  | valve m u q r =>
    have hm : m ≠ n := by simpa [Cmd.isValveOf] using h
    exact if_neg hm
  | shot m k u i z => rfl
  | display u i => rfl

theorem reworded_of_other {c : Cmd} (h : c.isDisplay = false) (t : Tag) (code : Nat) : c.reworded t code = c := by
  cases c with
  | valve m u q r => rfl
  | shot m k u i z => rfl
  | display u i => cases h

/-- A change of commands that leaves all but one of them changes that one in its place. -/
theorem map_replaces {f : Cmd → Cmd} {before after : List Cmd} {c d : Cmd} (hc : f c = d)
    (hothers : ∀ x ∈ before ++ after, f x = x) : (before ++ c :: after).map f = before ++ d :: after := by
  have hbefore : before.map f = before :=
    (List.map_congr_left fun x hx => hothers x (List.mem_append_left _ hx)).trans (List.map_id' _)
  have hafter : after.map f = after :=
    (List.map_congr_left fun x hx => hothers x (List.mem_append_right _ hx)).trans (List.map_id' _)
  rw [List.map_append, List.map_cons, hbefore, hafter, hc]

theorem valveQueued_of_mem {before after : List Cmd} {u : Tag} {q : Position} {retries : Nat}
    (h : s.cmdQueue = before ++ .valve n u q retries :: after) : s.valveQueued n = true := by
  rw [State.valveQueued, h, List.any_append, List.any_cons]
  simp [Cmd.isValveOf]

theorem valveQueued_of_none (h : ∀ c ∈ s.cmdQueue, c.isValveOf n = false) : s.valveQueued n = false :=
  List.any_eq_false.2 fun c hc => by simp [h c hc]

theorem queueValve_of_lost (hv : (s.config n).valve = some t) (hlost : s.nodeLost t = true) (p : Position) :
    queueValve n p s = s := by
  simp [queueValve, hv, hlost]

theorem queueValve_replaces (hv : (s.config n).valve = some t) (hup : s.nodeLost t = false) (p : Position)
    {before after : List Cmd} {u : Tag} {q : Position} {retries : Nat}
    (h : s.cmdQueue = before ++ .valve n u q retries :: after)
    (hothers : ∀ c ∈ before ++ after, c.isValveOf n = false) :
    queueValve n p s = { s with cmdQueue := before ++ .valve n u p 0 :: after } := by
  have hmap : s.cmdQueue.map (fun c => c.superseded n p) = before ++ .valve n u p 0 :: after := by
    rw [h]
    exact map_replaces (if_pos rfl) fun x hx => superseded_of_other (hothers x hx) p
  simp only [queueValve, hv, hup, valveQueued_of_mem h, hmap, Bool.false_eq_true, if_false, if_true]
  rfl

theorem queueValve_joins (hv : (s.config n).valve = some t) (hup : s.nodeLost t = false) (p : Position)
    (hnone : ∀ c ∈ s.cmdQueue, c.isValveOf n = false) (hroom : s.cmdQueue.length < 8) :
    queueValve n p s = { s with cmdQueue := s.cmdQueue ++ [.valve n t p 0] } := by
  simp only [queueValve, hv, hup, valveQueued_of_none hnone, hroom, Bool.false_eq_true, if_false, if_true]
  rfl

theorem display_of_noReader (h : s.session.readerTag = none) (code : Nat) : display code s = s := by
  simp [display, h]

theorem display_of_lost (h : s.session.readerTag = some t) (hlost : s.nodeLost t = true) (code : Nat) :
    display code s = s := by
  simp [display, h, hlost]

theorem display_replaces (hr : s.session.readerTag = some t) (hup : s.nodeLost t = false) (code : Nat)
    {before after : List Cmd} {u : Tag} {old : Nat} (h : s.cmdQueue = before ++ .display u old :: after)
    (hothers : ∀ c ∈ before ++ after, c.isDisplay = false) :
    display code s = { s with cmdQueue := before ++ .display t code :: after } := by
  have hqueued : s.cmdQueue.any Cmd.isDisplay = true := by
    rw [h, List.any_append, List.any_cons]
    simp [Cmd.isDisplay]
  have hmap : s.cmdQueue.map (fun c => c.reworded t code) = before ++ .display t code :: after := by
    rw [h]
    exact map_replaces rfl fun x hx => reworded_of_other (hothers x hx) t code
  simp only [display, hr, hup, hqueued, hmap, Bool.false_eq_true, if_false, if_true]
  rfl

theorem display_of_notQueued (hr : s.session.readerTag = some t) (hup : s.nodeLost t = false) (code : Nat)
    (hnone : ∀ c ∈ s.cmdQueue, c.isDisplay = false) :
    display code s =
      if s.valveReserve < 8 - s.cmdQueue.length then { s with cmdQueue := s.cmdQueue ++ [.display t code] } else s := by
  have hqueued : s.cmdQueue.any Cmd.isDisplay = false := List.any_eq_false.2 fun c hc => by simp [hnone c hc]
  simp only [display, hr, hup, hqueued, Bool.false_eq_true, if_false]
  exact if_congr decide_eq_true_iff rfl rfl

/-! #### The outcome of a DRIVE (R170, R65) -/

theorem driveOutcome_of_ended {x : Ending} {retries : Nat} (h : x.isDone = true ∨ s.nodeLost t = true) :
    driveOutcome n t p retries x s = s := by
  rw [driveOutcome]
  split
  · rfl
  · next hdone => exact if_pos (h.resolve_left hdone)

theorem driveOutcome_of_queued {x : Ending} {retries : Nat} (h : s.valveQueued n = true) :
    driveOutcome n t p retries x s = s := by
  simp [driveOutcome, h]

/-- A DRIVE without DONE, its node up and no newer position queued. -/
theorem driveOutcome_of_open {x : Ending} (retries : Nat) (hup : s.nodeLost t = false) (hx : x.isDone = false)
    (hq : s.valveQueued n = false) :
    driveOutcome n t p retries x s =
      if p = .closed ∧ x.isGood = false then { s with cmdQueue := .valve n t p retries :: s.cmdQueue }
      else if retries < 2 then { s with cmdQueue := .valve n t p (retries + 1) :: s.cmdQueue }
      else driveFailed n p s := by
  simp only [driveOutcome, hx, hup, hq, Bool.false_eq_true, if_false]
  exact if_congr (by simp) rfl rfl

theorem driveFailed_of_passed (h : p = .closed ∨ (s.arm n).commanded ≠ p ∨ (s.armState n).isMoving = false) :
    driveFailed n p s = s := by
  refine if_neg ?_
  rintro ⟨hcommanded, hopen, hmoving⟩
  rcases h with h | h | h
  · exact hopen h
  · exact h hcommanded
  · rw [h] at hmoving
    cases hmoving

theorem commandValve_heldComp (p : Position) (s : State) : (commandValve n p s).heldComp n = s.heldComp n := by
  obtain ⟨-, hheld, -, -⟩ := commandPosition_state (s.arm n) p s.now (s.ahead 15000)
  refine heldComp_congr ?_ (by simp)
  rw [commandValve_arm, if_pos rfl, hheld]

/-- A LOW or FULL dropped after its retries gives its moving arm a valve fault (R65). -/
theorem driveFailed_faults {c : Comp} (hp : p ≠ .closed) (hcommanded : (s.arm n).commanded = p)
    (hmoving : (s.armState n).isMoving = true) (hc : s.heldComp n = some c) :
    let u := driveFailed n p s
    u.armState n = .blocked ∧ (u.arm n).blockCause = some .valve ∧ (u.arm n).trip = true ∧
    (u.arm n).held = none ∧ (u.arm n).commanded = .closed ∧ u.permissive.bayPermit = false ∧
    u.status.flags.valveFault = true ∧
    (∃ y ∈ u.session.comps, y.number = c.number ∧ y.state = .short ∧ y.flags.short = true ∧
      y.flags.valveFault = true) ∧
    u = { s with
      arms := u.arms, session := u.session, banks := u.banks, dosing := u.dosing, notes := u.notes
      cmdQueue := u.cmdQueue, status := u.status, permissive := u.permissive } := by
  have hheld := (commandValve_heldComp .closed s).trans hc
  have hclosed : ((commandValve n .closed s).arm n).commanded = .closed := by
    rw [commandValve_arm, if_pos rfl]
    exact (commandPosition_state (s.arm n) .closed s.now (s.ahead 15000)).2.2.1
  have hfault : driveFailed n p s = valveFault n (commandValve n .closed s) := if_pos ⟨hcommanded, hp, hmoving⟩
  rw [hfault, valveFault_of_held hheld]
  obtain ⟨harm, hpermissive, hflag, ⟨y, hy, flags, rfl, hshort, hvalve⟩, hsame⟩ :=
    tripPermit_released hheld (f := fun x => x.failedValve x.closing) (fun _ => rfl) rfl
  have heq := commandValve_eq n .closed s
  generalize tripPermit (releaseExamine n (some .valve)
    ((commandValve n .closed s).tripped n c.number fun x => x.failedValve x.closing)) = u at *
  refine ⟨congrArg Arm.state harm, congrArg Arm.blockCause harm, congrArg Arm.trip harm, congrArg Arm.held harm,
    (congrArg Arm.commanded harm).trans hclosed, congrArg Permissive.bayPermit hpermissive, hflag,
    ⟨_, hy, rfl, rfl, ?_, hvalve⟩, ?_⟩
  · rw [hshort]
    simp [Comp.closed, Comp.failedValve]
  · rw [heq] at hsame
    exact hsame

end

/-- What the source of an exchange other than a ROLL or of the relay takes of its ending. -/
theorem sourceOutcome_eq {e : Exchange} {outcome : Ending → State → State}
    (h : (∃ n t p retries, e.source = .command (.valve n t p retries) ∧ outcome = driveOutcome n t p retries) ∨
      (∃ n k t number size, e.source = .command (.shot n k t number size) ∧
        outcome = fun x => shotOutcome n k number x.isRefused) ∨
      ((∃ t code, e.source = .command (.display t code)) ∨ (∃ n, e.source = .refresh n) ∨
          (∃ i, e.source = .scan i) ∨ ∃ t, e.source = .slowPoll t) ∧ outcome = fun _ u => u) :
    e.source.isRoll = false ∧ sourceOutcome e = outcome := by
  rcases h with ⟨n, t, p, retries, hs, rfl⟩ | ⟨n, k, t, number, size, hs, rfl⟩ |
    ⟨⟨t, code, hs⟩ | ⟨n, hs⟩ | ⟨i, hs⟩ | ⟨t, hs⟩, rfl⟩
  all_goals
    refine ⟨by rw [hs]; rfl, ?_⟩
    funext x u
    simp only [sourceOutcome, hs, commandOutcome]

/-- Settles O46: each outcome when its exchange ends, then the DRIVE's own and the two kinds of entry that are
replaced. -/
theorem commandQueueReplacesAndRetries : Obligations.CommandQueueReplacesAndRetries := by
  refine ⟨fun s e f bytes hl ha hk hp hb outcome hsource => ?_, fun f => ⟨by simp [Ending.isDone], by simp [Ending.isRefused],
    rfl, ?_⟩, fun s n t p retries x h => driveOutcome_of_ended h, fun s n t =>
    ⟨fun hv hup p => ⟨fun before after u q retries h => queueValve_replaces hv hup p h, queueValve_joins hv hup p⟩,
      queueValve_of_lost, display_of_noReader, fun hr code => ⟨fun hlost => display_of_lost hr hlost code, fun hup =>
        ⟨fun before after u old h => display_replaces hr hup code h, fun hnone =>
          ⟨fun hroom => ?_, fun hfull => ?_⟩⟩⟩, fun p retries x hup hx => ⟨driveOutcome_of_queued, fun hq => ?_⟩⟩⟩
  · obtain ⟨hr, hout⟩ := sourceOutcome_eq hsource
    have hrx : s.field.rx.isReceiving = false := by rw [hl.2]; rfl
    rw [← hout]
    exact ⟨goodResponse_ends hl ha hk hr hp, timeout_ends ha.1 hk hr hrx, damage_ends hl ha hk hr hb⟩
  · rintro x (rfl | rfl) <;> exact ⟨rfl, rfl, rfl⟩
  · rw [display_of_notQueued hr hup code hnone, if_pos hroom]
  · rw [display_of_notQueued hr hup code hnone, if_neg (Nat.not_lt.2 hfull)]
  · rw [driveOutcome_of_open retries hup hx hq]
    refine ⟨fun hp hbad => ?_, fun hgood hfew => ?_, fun hp hgood hmany => ?_, fun hp hmany => ?_⟩
    · rw [if_pos ⟨hp, hbad⟩, hp]
    · rw [if_neg fun h => hgood.elim (fun hp => hp h.1) fun hg => Bool.false_ne_true (h.2.symm.trans hg), if_pos hfew]
    · rw [if_neg fun h => Bool.false_ne_true (h.2.symm.trans hgood), if_neg (Nat.not_lt.2 hmany),
        driveFailed_of_passed (.inl hp)]
    · rw [if_neg fun h => hp h.1, if_neg (Nat.not_lt.2 hmany)]
      exact ⟨fun h => driveFailed_of_passed (.inr h), fun c hcommanded hmoving hc =>
        driveFailed_faults hp hcommanded hmoving hc⟩

end Sys2Proof.Machine
end

section
/-! ### A ROLL: its chain and its closing response (R191, R192) -/

namespace Sys2Proof.Machine

section
variable {s : State} {e : Exchange} {f : Frame} {bytes : List Byte} {relayed damaged : Nat}

/-- The counts of the ROLL in progress rise in its exchange. -/
theorem bumpRoll_eq (more bad : Nat)
    (h : ∀ x, s.field.exchange = some x → x.source = .roll relayed damaged) :
    bumpRoll more bad s = { s with
      field :=
        { s.field with
          exchange := s.field.exchange.map fun x => { x with source := .roll (relayed + more) (damaged + bad) } } } := by
  cases hx : s.field.exchange with
  | none => simp [bumpRoll, State.modField, hx]
  | some x => simp [bumpRoll, State.modField, hx, h x hx, Source.rollCounts]

/-- The bytes heard leave the source of the exchange in progress. -/
theorem fieldHeardNow_source (ha : s.awaits e) :
    ∀ x, s.fieldHeardNow.field.exchange = some x → x.source = e.source := by
  intro x hx
  have hmap : s.fieldHeardNow.field.exchange = (fieldHeard s.field.rx s).field.exchange := rfl
  have heq := hx.symm.trans (hmap.trans (fieldHeard_awaits ha s.field.rx).1)
  rw [Option.some.inj heq]

theorem exec_rollChainedResponse_of_awaits (hl : s.fieldListens) (ha : s.awaits e) (hr : e.source.isRoll = true)
    (hp : f.payload.length ≤ 48) (hd : f.dir = .response) :
    exec (.rollChainedResponse f) s = .next (chainedResponse e f s.fieldHeardNow) := by
  change Host.Outcome.next (rollResponse f s) = _
  simp [rollResponse, (awaiting_iff_awaits s e).2 ha, hr, hd, receiveField_of_listens f _ s hl hp]

/-- A chained response that no break mutes is relayed, then scored and delivered. -/
theorem chainedResponse_eq (hk : e.dropped = false) (hm : e.muted = false) (hroom : s.up.outgoing.length < 8) :
    chainedResponse e f s =
      takeResponse f { bumpRoll 1 0 s with up := { s.up with outgoing := s.up.outgoing ++ [{ frame := f }] } } := by
  simp [chainedResponse, hk, hm, pushResponse, hroom, State.modUp]

theorem exec_rollDamagedResponse_of_awaits (hl : s.fieldListens) (ha : s.awaits e) (hr : e.source.isRoll = true)
    (hb : bytes.length ≤ 55) (hs : rxStatus bytes = .whole false) :
    exec (.rollDamagedResponse bytes) s = .next (chainedDamage s.fieldHeardNow) := by
  change execRollDamagedResponse bytes s = _
  rw [execRollDamagedResponse, (awaiting_iff_awaits s e).2 ha]
  dsimp only
  rw [if_pos hr, rollDamage, receiveFieldBytes_of_idle chainedBytes hl.1 hl.2 hb,
    chainedBytes_of_receiver (damagedReceiver_of_badCrc hs), fieldHeard_of_listens hl]

/-! #### The closing response (R192) -/

theorem exec_rollEnd_of_silent (hx : s.field.exchange = some e) (hsource : e.source = .roll relayed damaged)
    (hrx : s.field.rx.isReceiving = false) (hk : e.dropped = false) (hm : e.muted = false) (hsent : e.toSend = 0)
    (hsilent : 10 ≤ (s.clock.ms - e.waitFrom).toNat) :
    exec .rollEnd s = .next
      (closeRoll e.frame.addr relayed damaged { s with field := { s.field with exchange := none } }) := by
  have hdue : s.rollEndDue = true := by
    have hsilent' : decide (10 ≤ (s.now - e.waitFrom).toNat) = true := decide_eq_true hsilent
    rw [State.rollEndDue, hx]
    dsimp only
    rw [Exchange.isSilent, hsource, hsent, hrx, hsilent']
    rfl
  change Host.Outcome.next (if s.rollEndDue then finishRoll s else s) = _
  simp [hdue, finishRoll, hx, endRoll, hk, hm, hsource, Source.rollCounts, freeLine_eq]

theorem pushResponse_of_room (hroom : s.up.outgoing.length < 8) (r : Outgoing) :
    pushResponse r s = { s with up := { s.up with outgoing := s.up.outgoing ++ [r] } } := by
  rw [pushResponse, if_pos hroom]
  rfl

theorem closeRoll_of_damage (addr : ObjAddr) (hroom : s.up.outgoing.length < 8) (h : 0 < damaged) :
    closeRoll addr relayed damaged s =
      s.answers 3 0 addr [s.attention, BitVec.ofNat 8 relayed, BitVec.ofNat 8 damaged] := by
  rw [closeRoll, if_pos h, pushResponse_of_room hroom]
  rfl

theorem closeRoll_of_refused {addr : ObjAddr} {reason : Reason} (hroom : s.up.outgoing.length < 8)
    (h : queryAddress addr s = .error reason) :
    closeRoll addr relayed 0 s = s.answers 2 0 addr [reason.code, s.attention, BitVec.ofNat 8 relayed] := by
  rw [closeRoll, if_neg (Nat.lt_irrefl 0), h]
  exact pushResponse_of_room hroom _

/-- The closing response with the object's data; the read's effects stand. -/
theorem closeRoll_of_data {addr : ObjAddr} {data : List Byte} (hroom : s.up.outgoing.length < 8)
    (h : queryAddress addr s = .ok data) :
    closeRoll addr relayed 0 s =
      readEffect addr { s with
        up :=
          { s.up with
            outgoing := s.up.outgoing ++
              [{ frame :=
                  { dir := .response, kind := 0, tag := 0, addr := addr
                    payload := s.attention :: BitVec.ofNat 8 relayed :: data }
                 header := headerRead addr s }] } } := by
  rw [closeRoll, if_neg (Nat.lt_irrefl 0), h]
  dsimp only
  rw [pushResponse_of_room hroom]
  rfl

theorem headerRead_of_other {addr : ObjAddr} (h : ∀ i, objectAt addr ≠ some (.slotHeader i)) (s : State) :
    headerRead addr s = none := by
  unfold headerRead
  split
  next i hi => exact absurd hi (h i)
  next => rfl

theorem readEffect_of_other {addr : ObjAddr} (h : objectAt addr ≠ some .statusFlags) (s : State) :
    readEffect addr s = s := if_neg h

end

/-- Settles O47: the chained responses, the damaged ones, and the closing response by the counts and the object. -/
theorem rollRelaysCountsAndCloses : Obligations.RollRelaysCountsAndCloses := by
  intro s e f bytes relayed damaged hl ha hsource hk hm hroom
  have hr : e.source.isRoll = true := by rw [hsource]; rfl
  have hrx : s.field.rx.isReceiving = false := by rw [hl.2]; rfl
  have hheard : ∀ x, s.fieldHeardNow.field.exchange = some x → x.source = .roll relayed damaged :=
    fun x hx => (fieldHeardNow_source ha x hx).trans hsource
  refine ⟨fun hp hd => ?_, fun hb hs => ?_, fun hsent hsilent => ?_⟩
  · intro relays
    refine ⟨?_, fun hn hok hlow => scoreGood_of_ok hn hok (Nat.lt_succ_of_lt hlow)⟩
    rw [exec_rollChainedResponse_of_awaits hl ha hr hp hd, chainedResponse_eq (s := s.fieldHeardNow) hk hm hroom,
      bumpRoll_eq 1 0 hheard]
    exact congrArg Host.Outcome.next (takeResponse_eq f relays)
  · rw [exec_rollDamagedResponse_of_awaits hl ha hr hb hs, chainedDamage, count_of_link rfl]
    exact congrArg Host.Outcome.next
      (bumpRoll_eq (s := { s.fieldHeardNow with status := s.status.linkEvent .fieldCrc }) 0 1 hheard)
  · intro t
    have hend := exec_rollEnd_of_silent ha.1 hsource hrx hk hm hsent hsilent
    have hroom' : t.up.outgoing.length < 8 := hroom
    refine ⟨fun hbad => ?_, fun data hgood hdata hflags hheader => ?_, fun hgood haddr => ?_,
      fun i x hgood haddr hx => ?_, fun reason hgood hdata => ?_⟩
    · rw [hend]
      exact congrArg Host.Outcome.next (closeRoll_of_damage e.frame.addr hroom' hbad)
    · rw [hend, hgood, closeRoll_of_data hroom' hdata, readEffect_of_other hflags, headerRead_of_other hheader]
      rfl
    · refine ⟨statusBytes t, rfl, ?_⟩
      rw [hend, hgood, haddr, closeRoll_of_data hroom' rfl]
      rfl
    · have hobject : objectAt e.frame.addr = some (.slotHeader i.val) := by rw [haddr, objectAt_slotHeader]
      have hslot : t.notes.slots.getD i.val {} = x := getD_of_getElem? hx
      have hdata : queryAddress e.frame.addr t = .ok (slotHeaderBytes x) := by
        rw [queryAddress, hobject]
        exact congrArg (fun y => Except.ok (slotHeaderBytes y)) hslot
      have hflags : objectAt e.frame.addr ≠ some .statusFlags := by rw [hobject]; nofun
      have hheader : headerRead e.frame.addr t =
          if x.state = .filled then x.serial.map (fun serial => (i.val, serial)) else none := by
        simp only [headerRead, hobject, hslot]
      rw [hend, hgood, closeRoll_of_data hroom' hdata, readEffect_of_other hflags, hheader]
      rw [slotHeaderBytes]
      cases x.state <;> rfl
    · rw [hend, hgood]
      exact congrArg Host.Outcome.next (closeRoll_of_refused hroom' hdata)

end Sys2Proof.Machine
end

section
/-! ### The arbiter (R124, R166, R168, R171, R173, R179) -/

namespace Sys2Proof.Machine

section
variable {s : State} {n : ArmId} {t : Tag} {cls : ScanClass} {i : Nat}

/-! #### The first eligible source -/

theorem choose_of_commands {c : Cmd} {rest : List Cmd} (h : s.cmdQueue = c :: rest) :
    s.choose = some (.command c rest) := by
  simp [State.choose, h]

/-- A refresh that is due drives the valve the arm names. -/
theorem refreshTag_of_due (hdue : s.refreshIsDue n = true) (hv : (s.config n).valve = some t) :
    s.refreshTag n = some t := by
  cases hx : s.refreshTag n with
  | none =>
    rw [State.refreshIsDue, hx] at hdue
    cases hdue
  | some u =>
    rw [State.refreshTag, hv] at hx
    obtain ⟨-, hu⟩ := Option.ite_none_right_eq_some.1 hx
    exact hu.symm

theorem choose_of_refresh (hq : s.cmdQueue = []) (hlower : ∀ m, armNumber m < armNumber n → s.refreshIsDue m = false)
    (hdue : s.refreshIsDue n = true) (hv : (s.config n).valve = some t) : s.choose = some (.refresh n t) := by
  rw [State.choose, hq]
  dsimp only
  rw [State.chooseRefresh, find?_armIds hdue hlower]
  dsimp only
  rw [refreshTag_of_due hdue hv]
  rfl

theorem choose_of_noRefresh (hq : s.cmdQueue = []) (h : ∀ n, s.refreshIsDue n = false) : s.choose = s.chooseFast := by
  have hnone : armIds.find? (fun n => s.refreshIsDue n) = none := List.find?_eq_none.2 fun n _ => by simp [h n]
  rw [State.choose, hq]
  dsimp only
  rw [State.chooseRefresh, hnone]

theorem chooseFast_of_none (h : s.dueScan .fast = none) : s.chooseFast = s.chooseRelay := by
  simp [State.chooseFast, h]

theorem chooseRelay_of_empty (h : s.relayQueue = []) : s.chooseRelay = s.chooseNormal := by
  simp [State.chooseRelay, h]

theorem chooseNormal_of_none (h : s.dueScan .normal = none) : s.chooseNormal = s.choosePoll := by
  simp [State.chooseNormal, h]

/-- The lowest index of the due entries of a class. -/
theorem dueScan_of_first {e : ScanEntry} (he : s.scans[i]? = some e) (hcls : e.cls = cls) (hdue : s.scanIsDue e = true)
    (hlower : ∀ j x, j < i → s.scans[j]? = some x → ¬(x.cls = cls ∧ s.scanIsDue x = true)) :
    s.dueScan cls = some i := by
  obtain ⟨hi, hget⟩ := List.getElem?_eq_some_iff.1 he
  refine List.findIdx?_eq_some_iff_getElem.2 ⟨hi, ?_, fun j hj => ?_⟩
  · rw [hget, hcls, hdue]
    cases cls <;> rfl
  · have hnot := hlower j _ hj (List.getElem?_eq_getElem (hj.trans hi))
    simpa using hnot

theorem mem_nodeTags (h : isNodeTag t = true) : t ∈ nodeTags := by
  revert t
  decide

theorem nodeTags_pairwise : nodeTags.Pairwise fun t u => t.toNat < u.toNat := by decide

/-- The lowest of the node tags of which something holds. -/
theorem find_nodeTags (p : Tag → Bool) (h : isNodeTag t = true) (ht : p t = true)
    (hlower : ∀ u : Tag, u.toNat < t.toNat → p u = false) : nodeTags.find? p = some t := by
  obtain ⟨before, after, hsplit⟩ := List.append_of_mem (mem_nodeTags h)
  have hsorted := nodeTags_pairwise
  rw [hsplit, List.pairwise_append] at hsorted
  obtain ⟨-, -, hbefore⟩ := hsorted
  have hnone : before.find? p = none :=
    List.find?_eq_none.2 fun u hu => by simp [hlower u (hbefore u hu t List.mem_cons_self)]
  rw [hsplit, List.find?_append, hnone, Option.none_or, List.find?_cons_of_pos ht]

theorem choosePoll_of_first {e : ScanEntry} (h : isNodeTag t = true) (hdue : s.pollIsDue t = true)
    (hlower : ∀ u : Tag, u.toNat < t.toNat → s.pollIsDue u = false) (he : s.pollEntry t = some e) :
    s.choosePoll = some (.slowPoll t e) := by
  simp [State.choosePoll, find_nodeTags (fun t => s.pollIsDue t) h hdue hlower, he]

theorem choosePoll_of_none (h : ∀ t, s.pollIsDue t = false) : s.choosePoll = none := by
  have hnone : nodeTags.find? (fun t => s.pollIsDue t) = none := List.find?_eq_none.2 fun t _ => by simp [h t]
  simp [State.choosePoll, hnone]

theorem choose_of_nothing (hq : s.cmdQueue = []) (hrefresh : ∀ n, s.refreshIsDue n = false)
    (hfast : s.dueScan .fast = none) (hr : s.relayQueue = []) (hnormal : s.dueScan .normal = none)
    (hpolls : ∀ t, s.pollIsDue t = false) : s.choose = none := by
  rw [choose_of_noRefresh hq hrefresh, chooseFast_of_none hfast, chooseRelay_of_empty hr,
    chooseNormal_of_none hnormal, choosePoll_of_none hpolls]

/-! #### What is taken is sent -/

theorem exec_arbiterTake_of_free (h : s.field.exchange = none) :
    exec .arbiterTake s = .next (arbitrate (s.relayQueue.length + 1) s) := by
  change Host.Outcome.next (takeNext s) = _
  simp [takeNext, h]

theorem arbitrate_of_none (fuel : Nat) (h : s.choose = none) : arbitrate fuel s = s := by
  cases fuel with
  | zero => rfl
  | succ fuel => rw [arbitrate, h]

theorem modNode_of_isNodeTag (h : isNodeTag t = true) (g : Node → Node) :
    s.modNode t g = { s with nodes := s.nodes.set t.toNat (g (s.node t)) } := by
  rw [State.modNode, if_pos h]
  rfl

theorem markDrive_eq (h : isNodeTag t = true) : markDrive t s = s.withDrive t := modNode_of_isNodeTag h _

theorem modify_of_getElem {e : ScanEntry} (he : s.scans[i]? = some e) (g : ScanEntry → ScanEntry) :
    s.scans.modify i g = s.scans.set i (g e) := by
  rw [List.modify_eq_set_getElem?, he]
  rfl

theorem withScanStarted_eq (s : State) (i : Nat) (e : ScanEntry) :
    s.withScanStarted i e = { s with
      status :=
        if s.scanLate e then
          { s.status with
            counters := { s.status.counters with lateScans := min (s.status.counters.lateScans + 1) 65535 } }
        else s.status
      scans := s.scans.set i
        { e with
          late := if s.scanLate e then min (e.late + 1) 65535 else e.late
          lastStart := some s.clock.ms, dueMark := false } } := rfl

/-- The start of a scan, late or not (R166). -/
theorem sendScan_eq {e : ScanEntry} (he : s.scans[i]? = some e) :
    sendScan i s = (s.withScanStarted i e).sends (.scan i)
      { dir := .command, kind := 0, tag := e.tag, addr := e.addr, payload := [] } := by
  have hentry : s.scans.getD i {} = e := getD_of_getElem? he
  rw [withScanStarted_eq, sendScan]
  dsimp only
  rw [hentry]
  cases s.scanLate e with
  | false =>
    simp only [Bool.false_eq_true, if_false, State.modScans, modify_of_getElem he]
    rfl
  | true =>
    simp only [if_true, State.modScans, count_leaves, modify_of_getElem he]
    rfl

/-- The head of the relay queue is next where no command, refresh or FAST scan is due. -/
theorem arbitrate_relay {r : Relayed} {rest : List Relayed} (fuel : Nat) (hq : s.cmdQueue = [])
    (hrefresh : ∀ n, s.refreshIsDue n = false) (hfast : s.dueScan .fast = none) (hr : s.relayQueue = r :: rest) :
    arbitrate (fuel + 1) s =
      match headRefusal r s with
      | none => sendRelayed r (s.setRelayQueue rest)
      | some reason => arbitrate fuel (respond r.frame.tag r.frame.addr (.refused reason) (s.setRelayQueue rest)) := by
  have hchoose : s.choose = some (.relay r rest) := by
    rw [choose_of_noRefresh hq hrefresh, chooseFast_of_none hfast, State.chooseRelay, hr]
  rw [arbitrate, hchoose] <;> rfl

theorem headRefusal_of_node {r : Relayed} (h : r.frame.tag ≠ 63) (s : State) :
    headRefusal r s = if s.gatePasses r.cls then none else some .interlocked := by
  have hnot : isRollFrame r.frame = false := beq_false_of_ne h
  rw [headRefusal, hnot]
  rfl

theorem headRefusal_of_roll {r : Relayed} (h : r.frame.tag = 63) (s : State) :
    headRefusal r s = if s.bayActive then some .bayActive else none := by
  have hroll : isRollFrame r.frame = true := beq_iff_eq.2 h
  rw [headRefusal, hroll]
  rfl

/-- A refused head of the relay queue is answered, and the arbiter takes the next choice at once (R173). -/
theorem exec_arbiterTake_refuses {r : Relayed} {rest : List Relayed} {reason : Reason}
    (hfree : s.field.exchange = none) (hq : s.cmdQueue = [])
    (hrefresh : ∀ n, s.refreshIsDue n = false) (hfast : s.dueScan .fast = none) (hr : s.relayQueue = r :: rest)
    (hroom : s.up.outgoing.length < 8) (hrefused : headRefusal r s = some reason) :
    exec .arbiterTake s =
      exec .arbiterTake (({ s with relayQueue := rest } : State).answersRefused r.frame.tag r.frame.addr reason) := by
  have hanswer : respond r.frame.tag r.frame.addr (.refused reason) (s.setRelayQueue rest) =
      ({ s with relayQueue := rest } : State).answersRefused r.frame.tag r.frame.addr reason :=
    respond_of_room _ _ _ (s.setRelayQueue rest) hroom
  have hfree' : (({ s with relayQueue := rest } : State).answersRefused r.frame.tag r.frame.addr
      reason).field.exchange = none := hfree
  rw [exec_arbiterTake_of_free hfree, exec_arbiterTake_of_free hfree', hr, List.length_cons,
    arbitrate_relay _ hq hrefresh hfast hr, hrefused]
  dsimp only
  rw [hanswer]
  rfl

/-- The last relayed frame refused leaves the line free where nothing else is due. -/
theorem exec_arbiterTake_of_last {r : Relayed} {reason : Reason} (hfree : s.field.exchange = none)
    (hq : s.cmdQueue = []) (hrefresh : ∀ n, s.refreshIsDue n = false) (hfast : s.dueScan .fast = none)
    (hnormal : s.dueScan .normal = none) (hpolls : ∀ t, s.pollIsDue t = false) :
    exec .arbiterTake (({ s with relayQueue := [] } : State).answersRefused r.frame.tag r.frame.addr reason) =
      .next (({ s with relayQueue := [] } : State).answersRefused r.frame.tag r.frame.addr reason) := by
  have hchoose := choose_of_nothing
    (s := ({ s with relayQueue := [] } : State).answersRefused r.frame.tag r.frame.addr reason)
    hq hrefresh hfast rfl hnormal hpolls
  exact (exec_arbiterTake_of_free
    (s := ({ s with relayQueue := [] } : State).answersRefused r.frame.tag r.frame.addr reason) hfree).trans (congrArg Host.Outcome.next (arbitrate_of_none _ hchoose))

end

/-- Settles O42, source by source in the order of R168. -/
theorem arbiterTakesTheFirstEligibleSource : Obligations.ArbiterTakesTheFirstEligibleSource := by
  intro s hfree
  have htake := exec_arbiterTake_of_free hfree
  refine ⟨fun c rest hc => ?commands, fun hq n t hlower hdue hv ht => ?refresh, fun hq hrefresh =>
    ⟨fun cls i e hfirst he hcls hdue hlower => ?scan, fun hfast =>
      ⟨fun r rest hr => ⟨fun ht hpass => ?relay, fun ht hidle => ?roll, fun hroom => ⟨fun ht hgate => ?gate, fun ht hact => ?bay⟩,
        ?last⟩, fun hempty hnormal t e ht hdue hlower he => ?poll⟩⟩⟩
  case commands =>
    rw [htake, arbitrate, choose_of_commands hc]
    refine ⟨?_, ?_, ?_⟩
    · rintro n t p retries rfl ht
      dsimp only
      rw [sendCommand, markDrive_eq ht]
      rfl
    · rintro n k t number size rfl
      rfl
    · rintro t code rfl
      rfl
  case refresh =>
    rw [htake, arbitrate, choose_of_refresh hq hlower hdue hv]
    dsimp only
    rw [sendRefresh, markDrive_eq ht]
    rfl
  case scan =>
    have hchoose : s.choose = some (.scan i) := by
      have hscan := dueScan_of_first he hcls hdue hlower
      rw [choose_of_noRefresh hq hrefresh]
      rcases hfirst with rfl | ⟨rfl, hfast, hempty⟩
      · simp [State.chooseFast, hscan]
      · rw [chooseFast_of_none hfast, chooseRelay_of_empty hempty]
        simp [State.chooseNormal, hscan]
    rw [htake, arbitrate, hchoose]
    exact congrArg Host.Outcome.next (sendScan_eq he)
  case relay =>
    have hnot : isRollFrame r.frame = false := beq_false_of_ne ht
    rw [htake, arbitrate_relay _ hq hrefresh hfast hr, headRefusal_of_node ht, if_pos hpass]
    dsimp only
    rw [sendRelayed, hnot]
    rfl
  case roll =>
    have hroll : isRollFrame r.frame = true := beq_iff_eq.2 ht
    have hquiet : ¬s.bayActive = true := fun h => by
      obtain ⟨n, hn⟩ := (bayActive_iff s).1 h
      rw [hidle n] at hn
      cases hn
    rw [htake, arbitrate_relay _ hq hrefresh hfast hr, headRefusal_of_roll ht, if_neg hquiet]
    dsimp only
    rw [sendRelayed, hroll]
    rfl
  case gate =>
    have hrefused : headRefusal r s = some .interlocked := by rw [headRefusal_of_node ht, hgate]; rfl
    exact exec_arbiterTake_refuses hfree hq hrefresh hfast hr hroom hrefused
  case bay =>
    have hrefused : headRefusal r s = some .bayActive := by
      rw [headRefusal_of_roll ht, if_pos ((bayActive_iff s).2 hact)]
    rw [← ht]
    exact exec_arbiterTake_refuses hfree hq hrefresh hfast hr hroom hrefused
  case last =>
    rintro rfl hnormal hpolls hroom
    refine ⟨fun ht hgate => ?_, fun ht hact => ?_⟩
    · have hrefused : headRefusal r s = some .interlocked := by rw [headRefusal_of_node ht, hgate]; rfl
      rw [exec_arbiterTake_refuses hfree hq hrefresh hfast hr hroom hrefused,
        exec_arbiterTake_of_last hfree hq hrefresh hfast hnormal hpolls]
    · have hrefused : headRefusal r s = some .bayActive := by
        rw [headRefusal_of_roll ht, if_pos ((bayActive_iff s).2 hact)]
      rw [exec_arbiterTake_refuses hfree hq hrefresh hfast hr hroom hrefused,
        exec_arbiterTake_of_last hfree hq hrefresh hfast hnormal hpolls, ht]
  case poll =>
    have hchoose : s.choose = some (.slowPoll t e) := by
      rw [choose_of_noRefresh hq hrefresh, chooseFast_of_none hfast, chooseRelay_of_empty hempty,
        chooseNormal_of_none hnormal, choosePoll_of_first ht hdue hlower he]
    rw [htake, arbitrate, hchoose]
    dsimp only
    rw [sendPoll, modNode_of_isNodeTag ht]
    rfl

end Sys2Proof.Machine
end

section
/-! ### Bytes sent are read back, and the rows that received bytes come to (R182, R183, R186, R167, R191) -/

namespace Sys2Proof.Machine

/-! #### The bytes of a frame -/

theorem leadByte_low (d : Dir) (k : Kind) : leadByte d k &&& 0x0F#8 = 0#8 := by
  revert k
  cases d <;> decide

theorem toNat_tagByte (t : Tag) : (t.setWidth 8 : Byte).toNat = t.toNat := by
  have ht := t.isLt
  rw [BitVec.toNat_setWidth]
  omega

section
variable {f : Frame}

theorem toNat_lengthByte (h : f.payload.length ≤ 48) : (BitVec.ofNat 8 f.payload.length).toNat = f.payload.length := by
  rw [BitVec.toNat_ofNat]
  omega

theorem length_frameBody (f : Frame) : (frameBody f).length = 5 + f.payload.length := by
  simp only [frameBody, List.length_append, List.length_cons, List.length_nil, length_beBytes]

theorem length_frameWire (f : Frame) : (frameWire f).length = 7 + f.payload.length := by
  rw [frameWire, List.length_append, length_frameBody, length_beBytes]
  omega

/-- The first bytes of a frame on the line. -/
theorem frameWire_eq_cons (f : Frame) : ∃ rest, frameWire f =
    leadByte f.dir f.kind :: BitVec.ofNat 8 f.payload.length :: f.tag.setWidth 8 :: rest :=
  ⟨_, rfl⟩

theorem badByte_iff (bytes : List Byte) :
    badByte bytes = true ↔
      (∃ b, bytes[0]? = some b ∧ b.toNat % 16 ≠ 0) ∨ (∃ b, bytes[1]? = some b ∧ 48 < b.toNat) ∨
        ∃ b, bytes[2]? = some b ∧ 63 < b.toNat := by
  have hlow : ∀ b : Byte, ((b &&& 0x0F#8) != 0) = true ↔ b.toNat % 16 ≠ 0 := by decide
  simp only [badByte, Bool.or_eq_true, or_assoc]
  refine or_congr ?_ (or_congr ?_ ?_)
  · cases bytes[0]? with
    | none => simp
    | some b => exact (hlow b).trans (by simp)
  · cases bytes[1]? <;> simp
  · cases bytes[2]? <;> simp

theorem rxStatus_abandoned_iff (bytes : List Byte) : rxStatus bytes = .abandoned ↔ badByte bytes = true := by
  rw [rxStatus]
  split
  next h => exact iff_of_true rfl h
  next h =>
    refine iff_of_false ?_ h
    split
    · nofun
    · split_ifs <;> nofun

theorem badByte_frameWire (h : f.payload.length ≤ 48) : badByte (frameWire f) = false := by
  obtain ⟨rest, hrest⟩ := frameWire_eq_cons f
  have htag := f.tag.isLt
  have hlow := leadByte_low f.dir f.kind
  rw [hrest]
  simp only [badByte, List.getElem?_cons_zero, List.getElem?_cons_succ, hlow, toNat_lengthByte h, toNat_tagByte]
  simp
  omega

/-- A frame's bytes are whole and good (R182, R183). -/
theorem rxStatus_frameWire (h : f.payload.length ≤ 48) : rxStatus (frameWire f) = .whole true := by
  obtain ⟨rest, hrest⟩ := frameWire_eq_cons f
  have hlen : (frameWire f)[1]? = some (BitVec.ofNat 8 f.payload.length) := by rw [hrest]; rfl
  have hbody := length_frameBody f
  have htake : (frameWire f).take (5 + f.payload.length) = frameBody f := by rw [frameWire, ← hbody, List.take_left]
  have hdrop : (frameWire f).drop (5 + f.payload.length) = beBytes 2 (crc16 (frameBody f)).toNat := by
    rw [frameWire, ← hbody, List.drop_left]
  have hwire := length_frameWire f
  rw [rxStatus, badByte_frameWire h, hlen]
  simp only [Bool.false_eq_true, if_false, toNat_lengthByte h, hwire, Nat.lt_irrefl, if_true, htake, hdrop, beq_self_eq_true]

theorem commandBit_frameWire (f : Frame) : commandBit (frameWire f) = (f.dir == .command) := by
  obtain ⟨rest, hrest⟩ := frameWire_eq_cons f
  rw [hrest]
  exact (leadByte_shows f.dir f.kind).1

/-! #### The row of a host frame (R186) -/

theorem isDiscardedUpstream_iff (f : Frame) :
    f.isDiscardedUpstream = true ↔ f.dir = .response ∨ 4 ≤ f.kind.toNat ∧ f.tag ≠ 0 := by
  simp [Frame.isDiscardedUpstream]

theorem isBadKind_iff (h : f.dir = .command) :
    f.isBadKind = true ↔
      f.tag = 0 ∧ 2 ≤ f.kind.toNat ∨ f.tag = 63 ∧ f.kind.toNat ≤ 2 ∨ f.tag ≠ 0 ∧ f.tag ≠ 63 ∧ f.kind = 3 := by
  have hdiff : (63 : Tag) ≠ 0 := by decide
  rw [Frame.isBadKind, h, beq_self_eq_true, Bool.true_and]
  split
  next h0 =>
    rw [decide_eq_true_iff]
    exact ⟨fun hk => .inl ⟨h0, hk⟩, fun hbad => hbad.elim And.right fun hbad =>
      hbad.elim (fun h63 => absurd (h63.1.symm.trans h0) hdiff) fun hnode => absurd h0 hnode.1⟩
  next h0 =>
    split
    next h63 =>
      rw [decide_eq_true_iff]
      exact ⟨fun hk => .inr (.inl ⟨h63, hk⟩), fun hbad => hbad.elim (fun hz => absurd hz.1 h0) fun hbad =>
        hbad.elim And.right fun hnode => absurd h63 hnode.2.1⟩
    next h63 =>
      rw [beq_iff_eq]
      exact ⟨fun hk => .inr (.inr ⟨h0, h63, hk⟩), fun hbad => hbad.elim (fun hz => absurd hz.1 h0) fun hbad =>
        hbad.elim (fun hr => absurd hr.1 h63) fun hnode => hnode.2.2⟩

theorem isRelayed_iff (h : f.dir = .command) :
    f.isRelayed = true ↔ f.kind.toNat ≤ 2 ∧ f.tag ≠ 0 ∧ f.tag ≠ 63 := by
  simp [Frame.isRelayed, h, isNodeTag]

theorem toNat_kind_three {k : Kind} (h : k = 3) : k.toNat = 3 := congrArg BitVec.toNat h

theorem toNat_kind_zero {k : Kind} (h : k = 0) : k.toNat = 0 := congrArg BitVec.toNat h

theorem toNat_kind_one {k : Kind} (h : k = 1) : k.toNat = 1 := congrArg BitVec.toNat h

theorem hostRow_discarded (h : f.dir = .response ∨ 4 ≤ f.kind.toNat ∧ f.tag ≠ 0) :
    hostRow f = .upstreamFrameDiscarded f := if_pos ((isDiscardedUpstream_iff f).2 h)

/-- A command of a kind below 4, or to tag 0, is not discarded. -/
theorem isDiscardedUpstream_of_command (hd : f.dir = .command) (h : f.kind.toNat ≤ 3 ∨ f.tag = 0) :
    ¬f.isDiscardedUpstream = true := by
  rw [isDiscardedUpstream_iff, hd]
  rintro (hresponse | ⟨hk, ht⟩)
  · cases hresponse
  · exact h.elim (fun hlow => absurd hk (by omega)) ht

theorem hostRow_badKind (hd : f.dir = .command)
    (h : f.tag = 0 ∧ 2 ≤ f.kind.toNat ∨ f.tag = 63 ∧ f.kind.toNat ≤ 2 ∨ f.tag ≠ 0 ∧ f.tag ≠ 63 ∧ f.kind = 3) :
    hostRow f = .badKind f := by
  have hlow : f.kind.toNat ≤ 3 ∨ f.tag = 0 := by
    rcases h with ⟨h0, -⟩ | ⟨-, hk⟩ | ⟨-, -, hk⟩
    · exact .inr h0
    · exact .inl (by omega)
    · exact .inl (toNat_kind_three hk).le
  rw [hostRow, if_neg (isDiscardedUpstream_of_command hd hlow), if_pos ((isBadKind_iff hd).2 h)]

theorem hostRow_relay (hd : f.dir = .command) (h0 : f.tag ≠ 0) (h63 : f.tag ≠ 63) (hk : f.kind.toNat ≤ 2) :
    hostRow f = .relayIntake f := by
  have hgood : ¬f.isBadKind = true := by
    rw [isBadKind_iff hd]
    rintro (⟨hz, -⟩ | ⟨hr, -⟩ | ⟨-, -, h3⟩)
    · exact h0 hz
    · exact h63 hr
    · have := toNat_kind_three h3
      omega
  rw [hostRow, if_neg (isDiscardedUpstream_of_command hd (.inl (by omega))), if_neg hgood,
    if_pos ((isRelayed_iff hd).2 ⟨hk, h0, h63⟩)]

theorem hostRow_roll (hd : f.dir = .command) (h63 : f.tag = 63) (hk : f.kind = 3) :
    hostRow f = .rollIntake f.addr f.payload := by
  have hkind := toNat_kind_three hk
  have hgood : ¬f.isBadKind = true := by
    rw [isBadKind_iff hd]
    rintro (⟨h0, -⟩ | ⟨-, hlow⟩ | ⟨-, hnode, -⟩)
    · exact absurd (h63.symm.trans h0) (by decide)
    · omega
    · exact hnode h63
  have hnode : ¬f.isRelayed = true := by
    rw [isRelayed_iff hd]
    exact fun h => h.2.2 h63
  rw [hostRow, if_neg (isDiscardedUpstream_of_command hd (.inl hkind.le)), if_neg hgood, if_neg hnode, if_pos h63]

/-- A QUERY or SET to tag 0 comes to the row of its address. -/
theorem hostRow_tagZero (hd : f.dir = .command) (h0 : f.tag = 0) (hk : f.kind.toNat ≤ 1) :
    hostRow f = if f.kind = 0 then queryRow f.addr f.payload else setRow f.addr f.payload := by
  have hdiff : (0 : Tag) ≠ 63 := by decide
  have hgood : ¬f.isBadKind = true := by
    rw [isBadKind_iff hd]
    rintro (⟨-, h2⟩ | ⟨hr, -⟩ | ⟨hnode, -⟩)
    · omega
    · exact hdiff (h0.symm.trans hr)
    · exact hnode h0
  have hnode : ¬f.isRelayed = true := by
    rw [isRelayed_iff hd]
    exact fun h => h.2.1 h0
  rw [hostRow, if_neg (isDiscardedUpstream_of_command hd (.inr h0)), if_neg hgood, if_neg hnode,
    if_neg (fun h63 => hdiff (h0.symm.trans h63))]

theorem frame_eq {k : Kind} {t : Tag} (hd : f.dir = .command) (hk : f.kind = k) (ht : f.tag = t) :
    f = { dir := .command, kind := k, tag := t, addr := f.addr, payload := f.payload } := by
  rw [← hd, ← hk, ← ht]

/-- A good frame of the host is of one of the six rows. -/
theorem hostRow_cases (f : Frame) :
    hostRow f = .upstreamFrameDiscarded f ∧ f.isDiscardedUpstream = true ∨
    hostRow f = .badKind f ∧ f.isBadKind = true ∨ hostRow f = .relayIntake f ∧ f.isRelayed = true ∨
    hostRow f = .rollIntake f.addr f.payload ∧ f = rollFrame f.addr f.payload ∨
    hostRow f = queryRow f.addr f.payload ∧ f = hostFrame 0 f.addr f.payload ∨
    hostRow f = setRow f.addr f.payload ∧ f = hostFrame 1 f.addr f.payload := by
  by_cases hdisc : f.dir = .response ∨ 4 ≤ f.kind.toNat ∧ f.tag ≠ 0
  · exact .inl ⟨hostRow_discarded hdisc, (isDiscardedUpstream_iff f).2 hdisc⟩
  · have hd : f.dir = .command := by
      cases hd : f.dir with
      | response => exact absurd (.inl hd) hdisc
      | command => rfl
    by_cases hbad : f.tag = 0 ∧ 2 ≤ f.kind.toNat ∨ f.tag = 63 ∧ f.kind.toNat ≤ 2 ∨
        f.tag ≠ 0 ∧ f.tag ≠ 63 ∧ f.kind = 3
    · exact .inr (.inl ⟨hostRow_badKind hd hbad, (isBadKind_iff hd).2 hbad⟩)
    · by_cases h0 : f.tag = 0
      · have hk : f.kind.toNat ≤ 1 := Nat.le_of_not_lt fun h => hbad (.inl ⟨h0, h⟩)
        have hrow := hostRow_tagZero hd h0 hk
        by_cases hquery : f.kind = 0
        · rw [if_pos hquery] at hrow
          exact .inr (.inr (.inr (.inr (.inl ⟨hrow, frame_eq hd hquery h0⟩))))
        · have hset : f.kind = 1 := BitVec.eq_of_toNat_eq (Nat.le_antisymm hk
            (Nat.one_le_iff_ne_zero.2 fun hz => hquery (BitVec.eq_of_toNat_eq hz)))
          rw [if_neg hquery] at hrow
          exact .inr (.inr (.inr (.inr (.inr ⟨hrow, frame_eq hd hset h0⟩))))
      · have hlow : f.kind.toNat ≤ 3 := Nat.le_of_not_lt fun h => hdisc (.inr ⟨h, h0⟩)
        by_cases h63 : f.tag = 63
        · have hk : f.kind = 3 := BitVec.eq_of_toNat_eq (Nat.le_antisymm hlow
            (Nat.lt_of_not_le fun h => hbad (.inr (.inl ⟨h63, h⟩))))
          exact .inr (.inr (.inr (.inl ⟨hostRow_roll hd h63 hk, frame_eq hd hk h63⟩)))
        · have hk : f.kind.toNat ≤ 2 := Nat.le_of_lt_succ (Nat.lt_of_le_of_ne hlow fun h =>
            hbad (.inr (.inr ⟨h0, h63, BitVec.eq_of_toNat_eq h⟩)))
          exact .inr (.inr (.inl ⟨hostRow_relay hd h0 h63 hk, (isRelayed_iff hd).2 ⟨hk, h0, h63⟩⟩))

/-- The row of a frame takes it from a receiver that holds its bytes as from one that is IDLE (R182). -/
theorem exec_hostRow_held {s : State} (hb : s.up.inBreak = false) (hs : s.up.sending = none)
    (hp : f.payload.length ≤ 48) :
    exec (hostRow f) { s with up := { s.up with rx := .receiving (frameWire f) } } =
      exec (hostRow f) { s with up := { s.up with rx := .idle } } := by
  have hsame : ∀ take : State → State,
      receiveUpstream f take { s with up := { s.up with rx := .receiving (frameWire f) } } =
        receiveUpstream f take { s with up := { s.up with rx := .idle } } :=
    fun take => receiveUpstream_held_eq_idle f take s hb hs hp
  rcases hostRow_cases f with ⟨hrow, hf⟩ | ⟨hrow, hf⟩ | ⟨hrow, hf⟩ | ⟨hrow, hf⟩ | ⟨hrow, hf⟩ | ⟨hrow, hf⟩ <;> rw [hrow]
  · change execUpstreamFrameDiscarded f _ = execUpstreamFrameDiscarded f _
    rw [execUpstreamFrameDiscarded, execUpstreamFrameDiscarded, if_pos hf, if_pos hf, hsame]
  · change execBadKind f _ = execBadKind f _
    rw [execBadKind, execBadKind, if_pos hf, if_pos hf, hsame]
  · change execRelayIntake f _ = execRelayIntake f _
    rw [execRelayIntake, execRelayIntake, if_pos hf, if_pos hf, hsame]
  · change Host.Outcome.next (receiveUpstream (rollFrame f.addr f.payload) _ _) =
      .next (receiveUpstream (rollFrame f.addr f.payload) _ _)
    rw [← hf]
    exact congrArg Host.Outcome.next (hsame _)
  · rw [exec_queryRow, exec_queryRow, hostQuery, hostQuery, ← hf]
    exact congrArg Host.Outcome.next (hsame _)
  · rw [exec_setRow, exec_setRow, hostSet, hostSet, ← hf]
    exact congrArg Host.Outcome.next (hsame _)

end

end Sys2Proof.Machine
end

section
/-! ### The rows by address and by what a receiver holds (R167, R182, R183, R186, R189, R191) -/

namespace Sys2Proof.Machine

/-! #### The rows of the object map -/

theorem queryRow_slotHeader (i : Fin 16) (payload : List Byte) :
    queryRow (BitVec.ofNat 16 (0x4000 + i.val)) payload = .slotHeaderQuery i payload := by
  fin_cases i <;> rfl

theorem setRow_config (n : ArmId) (payload : List Byte) :
    setRow (BitVec.ofNat 16 (0x100 + (armNumber n - 1))) payload = .armConfigurationSet n payload := by
  cases n <;> rfl

theorem setRow_acceptance (i : Fin 24) (payload : List Byte) :
    setRow (BitVec.ofNat 16 (0x200 + i.val)) payload = .acceptanceEntrySet i payload := by
  fin_cases i <;> rfl

theorem setRow_scan (i : Fin 32) (payload : List Byte) :
    setRow (BitVec.ofNat 16 (0x300 + i.val)) payload = .scanEntrySet i payload := by
  fin_cases i <;> rfl

theorem setRow_product (bank : Bank) (i : Fin 16) (payload : List Byte) :
    setRow (BitVec.ofNat 16 (bankBase bank + i.val)) payload = .productSet bank i payload := by
  cases bank <;> fin_cases i <;> rfl

theorem setRow_curve (bank : Bank) (i : Fin 17) (payload : List Byte) :
    setRow (BitVec.ofNat 16 (bankBase bank + 0x100 + i.val)) payload = .curveSet bank i payload := by
  cases bank <;> fin_cases i <;> rfl

theorem setRow_recipe (bank : Bank) (i : Fin 9) (payload : List Byte) :
    setRow (BitVec.ofNat 16 (bankBase bank + 0x200 + i.val)) payload = .recipeSet bank i payload := by
  cases bank <;> fin_cases i <;> rfl

/-! #### The rows of the two receivers -/

section
variable {s : State} {held : List Byte} {e : Exchange}

theorem upRow_of_held (h : s.up.rx = .receiving held) (after : Option Byte) :
    s.upRow after =
      match rxStatus held with
      | .incomplete => if pastGap s.now s.up.lastByte then some (.receiveGapTimeout .upstream [] after) else none
      | .abandoned => some (.frameAbandoned .upstream [])
      | .whole good => some (if good then hostRow (frameOf held) else .upstreamCrcError [])
      | .overlong => none := by
  rw [State.upRow, h] <;> rfl

theorem fieldRow_of_held (h : s.field.rx = .receiving held) (after : Option Byte) :
    s.fieldRow after =
      match rxStatus held with
      | .incomplete => if pastGap s.now s.field.lastByte then some (.receiveGapTimeout .field [] after) else none
      | .abandoned => some s.damageRow
      | .whole good => some (if good then s.fieldFrameRow (frameOf held) else s.damageRow)
      | .overlong => none := by
  rw [State.fieldRow, h] <;> rfl

theorem fieldRow_of_damage (h : s.field.rx = .receiving held)
    (hs : rxStatus held = .whole false ∨ rxStatus held = .abandoned) (after : Option Byte) :
    s.fieldRow after = some s.damageRow := by
  rw [fieldRow_of_held h]
  rcases hs with hs | hs <;> simp only [hs, Bool.false_eq_true, if_false]

theorem fieldRow_of_good (h : s.field.rx = .receiving held) (hs : rxStatus held = .whole true) (after : Option Byte) :
    s.fieldRow after = some (s.fieldFrameRow (frameOf held)) := by
  rw [fieldRow_of_held h, hs]
  rfl

theorem damageRow_of_awaitsNothing (h : s.awaitsNothing) : s.damageRow = .fieldDamagedResponse [] := by
  rw [State.damageRow, awaiting_of_awaitsNothing s h]

theorem damageRow_of_awaits (h : s.awaits e) :
    s.damageRow = if e.source.isRoll then .rollDamagedResponse [] else .fieldDamagedResponse [] := by
  rw [State.damageRow, (awaiting_iff_awaits s e).2 h]

theorem fieldFrameRow_of_awaitsNothing (h : s.awaitsNothing) (f : Frame) :
    s.fieldFrameRow f = .fieldFrameDiscarded f := by
  rw [State.fieldFrameRow, awaiting_of_awaitsNothing s h]

theorem fieldFrameRow_of_awaits (h : s.awaits e) (f : Frame) :
    s.fieldFrameRow f =
      if e.source.isRoll then (if f.dir = .response then .rollChainedResponse f else .rollDamagedResponse [])
      else if f.dir = .response ∧ f.tag = e.tag then .fieldGoodResponse f else .fieldFrameDiscarded f := by
  rw [State.fieldFrameRow, (awaiting_iff_awaits s e).2 h]
  exact if_congr Iff.rfl rfl (if_congr (accepts_iff e f) rfl rfl)

/-- What the bytes in the two receivers come to. -/
theorem rows_of_held (s : State) (held : List Byte) (after : Option Byte) :
    let f := frameOf held
    (s.up.rx = .receiving held →
      (rxStatus held = .whole true → s.upRow after = some (hostRow f)) ∧
      (rxStatus held = .whole false → s.upRow after = some (.upstreamCrcError [])) ∧
      (rxStatus held = .abandoned → s.upRow after = some (.frameAbandoned .upstream [])) ∧
      (rxStatus held = .incomplete →
        s.upRow after =
          if 2 < (s.clock.ms - s.up.lastByte).toNat then some (.receiveGapTimeout .upstream [] after) else none)) ∧
    (s.field.rx = .receiving held →
      (rxStatus held = .incomplete →
        s.fieldRow after =
          if 2 < (s.clock.ms - s.field.lastByte).toNat then some (.receiveGapTimeout .field [] after) else none) ∧
      (s.awaitsNothing →
        (rxStatus held = .whole true → s.fieldRow after = some (.fieldFrameDiscarded f)) ∧
        (rxStatus held = .whole false ∨ rxStatus held = .abandoned →
          s.fieldRow after = some (.fieldDamagedResponse []))) ∧
      ∀ e, s.awaits e →
        (e.source.isRoll = true →
          (rxStatus held = .whole true →
            s.fieldRow after =
              some (if f.dir = .response then .rollChainedResponse f else .rollDamagedResponse [])) ∧
          (rxStatus held = .whole false ∨ rxStatus held = .abandoned →
            s.fieldRow after = some (.rollDamagedResponse []))) ∧
        (e.source.isRoll = false →
          (rxStatus held = .whole true →
            s.fieldRow after =
              some
                (if f.dir = .response ∧ f.tag = e.tag then .fieldGoodResponse f else .fieldFrameDiscarded f)) ∧
          (rxStatus held = .whole false ∨ rxStatus held = .abandoned →
            s.fieldRow after = some (.fieldDamagedResponse [])))) := by
  intro f
  refine ⟨fun hrx => ?_, fun hrx => ⟨fun hs => ?_, fun hnothing => ⟨fun hs => ?_, fun hs => ?_⟩, fun e ha =>
    ⟨fun hr => ⟨fun hs => ?_, fun hs => ?_⟩, fun hr => ⟨fun hs => ?_, fun hs => ?_⟩⟩⟩⟩
  · rw [upRow_of_held hrx]
    refine ⟨fun hs => ?_, fun hs => ?_, fun hs => ?_, fun hs => ?_⟩ <;> rw [hs]
    · rfl
    · rfl
    · exact if_congr (pastGap_iff _ _) rfl rfl
  · rw [fieldRow_of_held hrx, hs]
    exact if_congr (pastGap_iff _ _) rfl rfl
  · rw [fieldRow_of_good hrx hs, fieldFrameRow_of_awaitsNothing hnothing]
  · rw [fieldRow_of_damage hrx hs, damageRow_of_awaitsNothing hnothing]
  · rw [fieldRow_of_good hrx hs, fieldFrameRow_of_awaits ha, if_pos hr]
  · rw [fieldRow_of_damage hrx hs, damageRow_of_awaits ha, if_pos hr]
  · rw [fieldRow_of_good hrx hs, fieldFrameRow_of_awaits ha, if_neg (by rw [hr]; exact Bool.false_ne_true)]
  · rw [fieldRow_of_damage hrx hs, damageRow_of_awaits ha, if_neg (by rw [hr]; exact Bool.false_ne_true)]

end

/-- The CRC of the nine characters 1 to 9, byte by byte (R183). -/
theorem crc16_digits : crc16 [0x31, 0x32, 0x33, 0x34, 0x35, 0x36, 0x37, 0x38, 0x39] = 0x29B1#16 := by
  have h1 : crcByte 0xFFFF#16 0x31 = 0xC782#16 := by decide
  have h2 : crcByte 0xC782#16 0x32 = 0x3DBA#16 := by decide
  have h3 : crcByte 0x3DBA#16 0x33 = 0x5BCE#16 := by decide
  have h4 : crcByte 0x5BCE#16 0x34 = 0x5349#16 := by decide
  have h5 : crcByte 0x5349#16 0x35 = 0x4560#16 := by decide
  have h6 : crcByte 0x4560#16 0x36 = 0x2EF4#16 := by decide
  have h7 : crcByte 0x2EF4#16 0x37 = 0x7718#16 := by decide
  have h8 : crcByte 0x7718#16 0x38 = 0xA12B#16 := by decide
  have h9 : crcByte 0xA12B#16 0x39 = 0x29B1#16 := by decide
  simp only [crc16, List.foldl_cons, List.foldl_nil, h1, h2, h3, h4, h5, h6, h7, h8, h9]

/-- Settles O14: the bytes of a frame, the rows of the receivers, and the rows of host frames by address. -/
theorem sentFramesAreReceivedGood : Obligations.SentFramesAreReceivedGood := by
  refine ⟨fun f hp => ⟨rxStatus_frameWire hp, length_frameWire f, commandBit_frameWire f, frameOf_frameWire f hp⟩,
    crc16_digits, fun bytes => (rxStatus_abandoned_iff bytes).trans (badByte_iff bytes), rows_of_held, fun f =>
    ⟨hostRow_discarded, fun hd => ⟨hostRow_badKind hd, hostRow_relay hd, hostRow_roll hd, fun h0 hk => ?_,
      fun h0 hk => ?_⟩, fun s hb hs hp => exec_hostRow_held hb hs hp⟩, fun s addr payload =>
    ⟨exec_setRow addr payload s, exec_queryRow addr payload s⟩, rfl, rfl, rfl, fun argument =>
    ⟨rfl, rfl, rfl, rfl, rfl⟩, fun payload => ⟨rfl, fun i => queryRow_slotHeader i payload, rfl, rfl, rfl,
      fun n => setRow_config n payload, fun i => setRow_acceptance i payload, fun i => setRow_scan i payload,
      fun bank => ?_, rfl, rfl, rfl, rfl, rfl, rfl⟩⟩
  · rw [hostRow_tagZero hd h0 (by rw [toNat_kind_zero hk]; decide), if_pos hk]
  · rw [hostRow_tagZero hd h0 (toNat_kind_one hk).le, if_neg (by rw [hk]; decide)]
  · cases bank with
    | a => exact ⟨fun i => setRow_product .a i payload, fun i => setRow_curve .a i payload,
        fun i => setRow_recipe .a i payload⟩
    | b => exact ⟨fun i => setRow_product .b i payload, fun i => setRow_curve .b i payload,
        fun i => setRow_recipe .b i payload⟩

end Sys2Proof.Machine
end

section
/-! ### One microsecond passes (R182, R184, R185, R197; log 1, 2 and 4) -/

namespace Sys2Proof.Machine

/-! #### The order of events that fall together -/

theorem freelyOrdered_perm (count : Nat) (due : List Instr) : (freelyOrdered count due).Perm due := by
  induction due generalizing count with
  | nil => exact .refl _
  | cons i rest ih =>
    cases rest with
    | nil => exact .refl _
    | cons j rest =>
      have hplace : Config.freeOrder count % ((freelyOrdered (count + 1) (j :: rest)).length + 1) ≤
          (freelyOrdered (count + 1) (j :: rest)).length := Nat.le_of_lt_succ (Nat.mod_lt _ (Nat.succ_pos _))
      rw [freelyOrdered]
      exact (List.perm_insertIdx _ _ hplace).trans ((ih (count + 1)).cons i)

/-! #### A byte on its way -/

section
variable {x : WireByte} {rest : List WireByte}

theorem wireByte_of_due (h : x.wait ≤ 1) : wireByte (x :: rest) = some x.byte := if_pos h

theorem wireByte_of_wait (h : 1 < x.wait) : wireByte (x :: rest) = none := if_neg (Nat.not_le.2 h)

theorem wireRest_of_due (h : x.wait ≤ 1) : wireRest (x :: rest) = rest := if_pos h

theorem wireRest_of_wait (h : 1 < x.wait) : wireRest (x :: rest) = { x with wait := x.wait - 1 } :: rest :=
  if_neg (Nat.not_le.2 h)

theorem isSome_wireByte_iff (wire : List WireByte) :
    (wireByte wire).isSome = true ↔ ∃ x rest, wire = x :: rest ∧ x.wait ≤ 1 := by
  cases wire with
  | nil => simp [wireByte]
  | cons x rest =>
    by_cases h : x.wait ≤ 1
    · rw [wireByte_of_due h]
      exact iff_of_true rfl ⟨x, rest, rfl, h⟩
    · rw [wireByte_of_wait (Nat.not_le.1 h)]
      refine iff_of_false Bool.false_ne_true ?_
      rintro ⟨y, l, heq, hy⟩
      cases heq
      exact h hy

/-- A receiver is at a gap when it holds the first bytes of a frame or stands in HUNT, more than 2 ms on. -/
theorem gapOver_iff (rx : Receiver) (now last : Ms) :
    (rx.endsAtGap && pastGap now last) = true ↔
      2 < (now - last).toNat ∧ (rx = .hunt ∨ ∃ held, rx = .receiving held ∧ rxStatus held = .incomplete) := by
  rw [Bool.and_eq_true, pastGap_iff, and_comm]
  refine and_congr_right fun _ => ?_
  cases rx <;> simp [Receiver.endsAtGap]

/-! #### The two ports -/

theorem upDeliver_of_empty {u : Upstream} (h : u.wire = []) (now : Ms) : u.deliver now = u := by
  rw [Upstream.deliver, h]
  dsimp only [wireByte, wireRest]
  rw [← h]

theorem upDeliver_of_wait {u : Upstream} (h : u.wire = x :: rest) (hw : 1 < x.wait) (now : Ms) :
    u.deliver now = { u with wire := { x with wait := x.wait - 1 } :: rest } := by
  rw [Upstream.deliver, h, wireByte_of_wait hw, wireRest_of_wait hw]

theorem upDeliver_of_due {u : Upstream} (h : u.wire = x :: rest) (hw : x.wait ≤ 1) (now : Ms) :
    u.deliver now = { u.hear now x.byte with wire := rest } := by
  rw [Upstream.deliver, h, wireByte_of_due hw, wireRest_of_due hw]

theorem fieldDeliver_of_empty {l : FieldLine} (h : l.wire = []) (gap : Nat) (now : Ms) : l.deliver gap now = l := by
  rw [FieldLine.deliver, h]
  dsimp only [wireByte, wireRest]
  rw [← h]

theorem fieldDeliver_of_wait {l : FieldLine} (h : l.wire = x :: rest) (hw : 1 < x.wait) (gap : Nat) (now : Ms) :
    l.deliver gap now = { l with wire := { x with wait := x.wait - 1 } :: rest } := by
  rw [FieldLine.deliver, h, wireByte_of_wait hw, wireRest_of_wait hw]

theorem fieldDeliver_of_due {l : FieldLine} (h : l.wire = x :: rest) (hw : x.wait ≤ 1) (gap : Nat) (now : Ms) :
    l.deliver gap now = { l.hear gap now x.byte with wire := rest } := by
  rw [FieldLine.deliver, h, wireByte_of_due hw, wireRest_of_due hw]

end

section
variable {s : State} {x : WireByte} {rest : List WireByte}

/-- The clock a microsecond later. -/
theorem elapse_clock (s : State) : (elapse s).clock = s.clock.advance := rfl

theorem elapse_up (s : State) : (elapse s).up = s.up.advance.deliver s.clock.advance.ms := rfl

theorem elapse_field (s : State) :
    (elapse s).field = (s.field.advance s.clock.advance.ms).deliver s.up.gap s.clock.advance.ms := rfl

theorem upHear_of_deaf {u : Upstream} {now : Ms} {b : Byte}
    (h : u.inBreak = true ∨ u.sending.isSome = true ∨ u.gapOver now = true) : u.hear now b = u := by
  refine if_pos ?_
  rw [Bool.or_eq_true, Bool.or_eq_true]
  exact or_assoc.2 h

theorem upHear_of_open {u : Upstream} {now : Ms} {b : Byte} (hb : u.inBreak = false) (hs : u.sending = none)
    (hg : ¬u.gapOver now = true) : u.hear now b = { u with rx := u.rx.take b, sinceByte := 0, lastByte := now } := by
  refine if_neg ?_
  rw [hb, hs]
  exact hg

theorem fieldHear_of_deaf {l : FieldLine} {gap : Nat} {now : Ms} {b : Byte}
    (h : l.inBreak = true ∨ l.gapOver now = true) : l.hear gap now b = l := by
  refine if_pos ?_
  rw [Bool.or_eq_true]
  exact h

theorem fieldHear_of_open {l : FieldLine} {gap : Nat} {now : Ms} {b : Byte} (hb : l.inBreak = false)
    (hg : ¬l.gapOver now = true) :
    l.hear gap now b =
      { l with
        rx := l.rx.take b, sinceByte := 0, lastByte := now, exchange := l.exchange.map fun e => e.hear gap now } := by
  refine if_neg ?_
  rw [hb]
  exact hg

theorem upDeliver_of_deaf {u : Upstream} {now : Ms} (hw : u.wire = x :: rest) (hwait : x.wait ≤ 1)
    (h : u.inBreak = true ∨ u.sending.isSome = true ∨ u.gapOver now = true) :
    u.deliver now = { u with wire := rest } := by
  rw [upDeliver_of_due hw hwait, upHear_of_deaf h]

theorem upDeliver_of_open {u : Upstream} {now : Ms} (hw : u.wire = x :: rest) (hwait : x.wait ≤ 1)
    (hb : u.inBreak = false) (hs : u.sending = none) (hg : ¬u.gapOver now = true) :
    u.deliver now = { u with wire := rest, rx := u.rx.take x.byte, sinceByte := 0, lastByte := now } := by
  rw [upDeliver_of_due hw hwait, upHear_of_open hb hs hg]

theorem fieldDeliver_of_deaf {l : FieldLine} {gap : Nat} {now : Ms} (hw : l.wire = x :: rest) (hwait : x.wait ≤ 1)
    (h : l.inBreak = true ∨ l.gapOver now = true) : l.deliver gap now = { l with wire := rest } := by
  rw [fieldDeliver_of_due hw hwait, fieldHear_of_deaf h]

theorem fieldDeliver_of_open {l : FieldLine} {gap : Nat} {now : Ms} (hw : l.wire = x :: rest) (hwait : x.wait ≤ 1)
    (hb : l.inBreak = false) (hg : ¬l.gapOver now = true) :
    l.deliver gap now =
      { l with
        wire := rest, rx := l.rx.take x.byte, sinceByte := 0, lastByte := now
        exchange := l.exchange.map fun e => e.hear gap now } := by
  rw [fieldDeliver_of_due hw hwait, fieldHear_of_open hb hg]

/-! #### The rows of a byte that ends a gap -/

theorem upRow_of_gap {b : Byte} {t : State} (hgap : 2 < (t.clock.ms - t.up.lastByte).toNat)
    (hrx : t.up.rx = .hunt ∨ ∃ held, t.up.rx = .receiving held ∧ rxStatus held = .incomplete) :
    t.upRow (some b) = some (.receiveGapTimeout .upstream [] (some b)) := by
  rcases hrx with hrx | ⟨held, hrx, hpart⟩
  · rw [State.upRow, hrx]
    rfl
  · rw [((rows_of_held t held (some b)).1 hrx).2.2.2 hpart, if_pos hgap]

theorem fieldRow_of_gap {b : Byte} {t : State} (hgap : 2 < (t.clock.ms - t.field.lastByte).toNat)
    (hrx : t.field.rx = .hunt ∨ ∃ held, t.field.rx = .receiving held ∧ rxStatus held = .incomplete) :
    t.fieldRow (some b) = some (.receiveGapTimeout .field [] (some b)) := by
  rcases hrx with hrx | ⟨held, hrx, hpart⟩
  · rw [State.fieldRow, hrx]
    rfl
  · rw [((rows_of_held t held (some b)).2 hrx).1 hpart, if_pos hgap]

theorem mem_dueEvents_of_line {up field : Option Byte} {t : State} {i : Instr}
    (h : t.upRow up = some i ∨ t.fieldRow field = some i) : i ∈ dueEvents up field t := by
  have hline : i ∈ lineEvents up field t := by
    simp only [lineEvents, List.mem_append, Option.mem_toList, or_assoc]
    exact h.elim .inl fun h => .inr (.inl h)
  simp only [dueEvents, List.mem_append]
  exact .inl (.inr hline)

theorem mem_dueEvents_of_upGap {field : Option Byte} (hw : s.up.wire = x :: rest) (hwait : x.wait ≤ 1)
    (hb : s.up.inBreak = false) (hs : s.up.sending = none)
    (hlate : 2 < (s.clock.advance.ms - s.up.lastByte).toNat ∧
      (s.up.rx = .hunt ∨ ∃ held, s.up.rx = .receiving held ∧ rxStatus held = .incomplete)) :
    .receiveGapTimeout .upstream [] (some x.byte) ∈ dueEvents s.upGapByte field (elapse s) := by
  have hover : s.up.gapOver s.clock.advance.ms = true := (gapOver_iff _ _ _).2 hlate
  have hbyte : s.upGapByte = some x.byte := by
    rw [State.upGapByte, hb, hs, hover, hw, wireByte_of_due hwait]
    rfl
  have hup : (elapse s).up = { s.up.advance with wire := rest } := by
    rw [elapse_up, upDeliver_of_deaf (u := s.up.advance) hw hwait (.inr (.inr hover))]
  obtain ⟨hgap, hrx⟩ := hlate
  rw [hbyte]
  refine mem_dueEvents_of_line (.inl (upRow_of_gap ?_ ?_)) <;> rw [hup]
  · exact hgap
  · exact hrx

theorem mem_dueEvents_of_fieldGap {up : Option Byte} (hw : s.field.wire = x :: rest) (hwait : x.wait ≤ 1)
    (hb : s.field.inBreak = false)
    (hlate : 2 < (s.clock.advance.ms - s.field.lastByte).toNat ∧
      (s.field.rx = .hunt ∨ ∃ held, s.field.rx = .receiving held ∧ rxStatus held = .incomplete)) :
    .receiveGapTimeout .field [] (some x.byte) ∈ dueEvents up s.fieldGapByte (elapse s) := by
  have hover : s.field.gapOver s.clock.advance.ms = true := (gapOver_iff _ _ _).2 hlate
  have hbyte : s.fieldGapByte = some x.byte := by
    rw [State.fieldGapByte, hb, hover, hw, wireByte_of_due hwait]
    rfl
  have hfield : (elapse s).field = { s.field.advance s.clock.advance.ms with wire := rest } := by
    rw [elapse_field, fieldDeliver_of_deaf (l := s.field.advance s.clock.advance.ms) hw hwait (.inr hover)]
  obtain ⟨hgap, hrx⟩ := hlate
  rw [hbyte]
  refine mem_dueEvents_of_line (.inr (fieldRow_of_gap ?_ ?_)) <;> rw [hfield]
  · exact hgap
  · exact hrx

theorem byteIgnored_iff (s : State) :
    s.byteIgnored = true ↔
      s.up.sending.isSome = true ∧ s.up.inBreak = false ∧ ∃ x rest, s.up.wire = x :: rest ∧ x.wait ≤ 1 := by
  rw [State.byteIgnored, Bool.and_eq_true, Bool.and_eq_true, isSome_wireByte_iff, Bool.not_eq_true', and_assoc]

end

/-- Settles O2: the idle step is the elapsed microsecond with the events that have come due, in some order. -/
theorem idleStepPassesOneMicrosecond : Obligations.IdleStepPassesOneMicrosecond := by
  intro s hpending
  have hstep : step s = .next (idle s) := by rw [step, hpending]
  have hqueue : (idle s).pending =
      dueIf s.byteIgnored .byteIgnoredWhileTransmitting ++
        freelyOrdered s.freeCount (dueEvents s.upGapByte s.fieldGapByte (elapse s)) := by
    change s.pending ++ _ ++ _ = _
    rw [hpending]
    rfl
  have hperm := freelyOrdered_perm s.freeCount (dueEvents s.upGapByte s.fieldGapByte (elapse s))
  have hstate : ({ idle s with pending := [], freeCount := s.freeCount } : State) = elapse s := by
    rw [← hpending]
    rfl
  refine ⟨idle s, freelyOrdered s.freeCount (dueEvents s.upGapByte s.fieldGapByte (elapse s)), hstep, rfl,
    ⟨fun hw => upDeliver_of_empty (u := s.up.advance) hw _, fun x rest hw => ⟨fun hwait => ?_, fun hwait hdeaf => ?_,
      fun hwait hb hs => ?_⟩⟩,
    ⟨fun hw => fieldDeliver_of_empty (l := s.field.advance s.clock.advance.ms) hw _ _, fun x rest hw =>
      ⟨fun hwait => ?_, fun hwait hb => ?_, fun hwait hb => ?_⟩⟩, rfl, ?_, fun h => ?_, fun h => ?_, ?_, rfl⟩
  · exact upDeliver_of_wait (u := s.up.advance) hw hwait _
  · have hdeaf' : s.up.advance.inBreak = true ∨ s.up.advance.sending.isSome = true := by
      rw [Upstream.advance, Option.isSome_map]
      exact hdeaf
    exact upDeliver_of_deaf (u := s.up.advance) hw hwait (or_assoc.1 (.inl hdeaf'))
  · have hs' : s.up.advance.sending = none := by rw [Upstream.advance, hs]; rfl
    intro late
    refine ⟨fun hon => ?_, fun hlate => ⟨?_, ?_⟩⟩
    · exact upDeliver_of_open (u := s.up.advance) hw hwait hb hs' fun h => hon ((gapOver_iff _ _ _).1 h)
    · exact upDeliver_of_deaf (u := s.up.advance) hw hwait (.inr (.inr ((gapOver_iff _ _ _).2 hlate)))
    · exact hperm.mem_iff.2 (mem_dueEvents_of_upGap hw hwait hb hs hlate)
  · exact fieldDeliver_of_wait (l := s.field.advance s.clock.advance.ms) hw hwait _ _
  · exact fieldDeliver_of_deaf (l := s.field.advance s.clock.advance.ms) hw hwait (.inl hb)
  · intro late
    refine ⟨fun hon => ?_, fun hlate => ⟨?_, ?_⟩⟩
    · exact fieldDeliver_of_open (l := s.field.advance s.clock.advance.ms) hw hwait hb fun h =>
        hon ((gapOver_iff _ _ _).1 h)
    · exact fieldDeliver_of_deaf (l := s.field.advance s.clock.advance.ms) hw hwait
        (.inr ((gapOver_iff _ _ _).2 hlate))
    · exact hperm.mem_iff.2 (mem_dueEvents_of_fieldGap hw hwait hb hlate)
  · rw [hstate]
    exact hperm
  · rw [hqueue, (byteIgnored_iff s).2 h]
    rfl
  · rw [hqueue, Bool.eq_false_iff.2 fun hi => h ((byteIgnored_iff s).1 hi)]
    rfl
  · exact congrArg (s.freeCount + ·) hperm.length_eq.symm

end Sys2Proof.Machine
end

section
/-! ### Marks that stay, and the score that a node's state follows (R166, R171, R177 to R179) -/

namespace Sys2Proof.Machine

section
variable {s : State} {tag : Tag} {n : ArmId}

/-! #### What has come due is marked (log 10) -/

theorem scanIsDue_of_elapsed {e : ScanEntry} {t : Ms} (hon : e.enabled = true) (hup : s.nodeLost e.tag = false)
    (hlast : e.lastStart = some t) (hperiod : e.period ≤ (s.clock.ms - t).toNat) : s.scanIsDue e = true := by
  have helapsed : decide (e.period ≤ s.elapsed t) = true := decide_eq_true hperiod
  rw [State.scanIsDue, hon, hup, hlast]
  dsimp only
  rw [helapsed, Bool.or_true]
  rfl

theorem scanIsDue_of_mark {e : ScanEntry} (hon : e.enabled = true) (hup : s.nodeLost e.tag = false)
    (hmark : e.dueMark = true) : s.scanIsDue e = true := by
  rw [State.scanIsDue, hon, hup, hmark]
  rfl

theorem refreshTag_of_valve (hv : (s.config n).valve = some tag) (hstate : s.armState n ≠ .idle)
    (hup : s.nodeLost tag = false) (hq : s.valveQueued n = false) : s.refreshTag n = some tag := by
  have hup' : ¬s.nodeLost tag = true := by rw [hup]; exact Bool.false_ne_true
  have hq' : ¬s.valveQueued n = true := by rw [hq]; exact Bool.false_ne_true
  rw [State.refreshTag, hv]
  exact if_pos ⟨hstate, hup', hq'⟩

theorem driveIsOld_of_mark (h : (s.node tag).refreshMark = true) : s.driveIsOld tag = true := by
  rw [State.driveIsOld, h]
  rfl

theorem driveIsOld_of_elapsed {t : Ms} (h : (s.node tag).lastDrive = some t) (hold : 500 ≤ (s.clock.ms - t).toNat) :
    s.driveIsOld tag = true := by
  have helapsed : decide (500 ≤ s.elapsed t) = true := decide_eq_true hold
  rw [State.driveIsOld, h]
  dsimp only
  rw [helapsed, Bool.or_true]

theorem pollEntry_isSome {e : ScanEntry} (he : e ∈ s.scans) (hon : e.enabled = true) (htag : e.tag = tag) :
    (s.pollEntry tag).isSome = true := by
  rw [State.pollEntry, List.find?_isSome]
  exact ⟨e, he, by rw [hon, htag, beq_self_eq_true]; rfl⟩

theorem pollIsDue_of {e : ScanEntry} (hlost : s.nodeLost tag = true) (he : e ∈ s.scans) (hon : e.enabled = true)
    (htag : e.tag = tag) (h : (s.node tag).slowMark = true ∨ s.reached (s.node tag).slowDue = true) :
    s.pollIsDue tag = true := by
  rw [State.pollIsDue, hlost, pollEntry_isSome he hon htag, Bool.true_and, Bool.true_and, Bool.or_eq_true]
  exact h

theorem exec_scanDue_marks {i : Fin 32} {e : ScanEntry} (he : s.scans[i.val]? = some e) (hdue : s.scanIsDue e = true) :
    exec (.scanDue i) s = .next { s with scans := s.scans.set i.val { e with dueMark := true } } := by
  have hentry : s.scans.getD i.val {} = e := getD_of_getElem? he
  change Host.Outcome.next (if s.scanIsDue (s.scans.getD i.val {}) then _ else s) = _
  rw [hentry, if_pos hdue, State.modScans, modify_of_getElem he]

theorem exec_valveRefreshDue_marks (htag : s.refreshTag n = some tag) (hn : isNodeTag tag = true)
    (hold : s.driveIsOld tag = true) :
    exec (.valveRefreshDue n) s = .next
      { s with nodes := s.nodes.set tag.toNat { s.node tag with refreshMark := true } } := by
  change execValveRefreshDue n s = _
  rw [execValveRefreshDue, htag]
  dsimp only
  rw [if_pos hold, modNode_of_isNodeTag hn]

theorem exec_slowPollDue_marks (hn : isNodeTag tag = true) (hdue : s.pollIsDue tag = true) :
    exec (.slowPollDue tag) s = .next
      { s with nodes := s.nodes.set tag.toNat { s.node tag with slowMark := true } } := by
  change Host.Outcome.next (if s.pollIsDue tag then _ else s) = _
  rw [if_pos hdue, modNode_of_isNodeTag hn]

/-- What has come due is marked, and due while it is marked, whatever the clock reads. -/
theorem dueMarks_latch (s : State) :
    (∀ (i : Fin 32) (e : ScanEntry) (t : Ms), s.scans[i.val]? = some e → e.enabled = true →
      s.nodeLost e.tag = false → e.lastStart = some t → e.period ≤ (s.clock.ms - t).toNat →
      exec (.scanDue i) s = .next { s with scans := s.scans.set i.val { e with dueMark := true } }) ∧
    (∀ (n : ArmId) (tag : Tag) (t : Ms), (s.config n).valve = some tag → isNodeTag tag = true →
      s.armState n ≠ .idle → s.nodeLost tag = false → s.valveQueued n = false →
      (s.node tag).lastDrive = some t → 500 ≤ (s.clock.ms - t).toNat →
      exec (.valveRefreshDue n) s = .next
        { s with nodes := s.nodes.set tag.toNat { s.node tag with refreshMark := true } }) ∧
    (∀ (tag : Tag) (e : ScanEntry) (d : Ms), isNodeTag tag = true → s.nodeLost tag = true →
      e ∈ s.scans → e.enabled = true → e.tag = tag → (s.node tag).slowDue = some d →
      (s.clock.ms - d).toNat < 2147483648 →
      exec (.slowPollDue tag) s = .next
        { s with nodes := s.nodes.set tag.toNat { s.node tag with slowMark := true } }) ∧
    ∀ clock : Clock,
      let u : State := { s with clock := clock }
      (∀ e ∈ s.scans, e.dueMark = true → e.enabled = true → s.nodeLost e.tag = false → u.scanIsDue e = true) ∧
      (∀ (n : ArmId) (tag : Tag), (s.config n).valve = some tag → (s.node tag).refreshMark = true →
        s.armState n ≠ .idle → s.nodeLost tag = false → s.valveQueued n = false → u.refreshIsDue n = true) ∧
      ∀ (tag : Tag) (e : ScanEntry), (s.node tag).slowMark = true → s.nodeLost tag = true → e ∈ s.scans →
        e.enabled = true → e.tag = tag → u.pollIsDue tag = true := by
  refine ⟨fun i e t he hon hup hlast hperiod => exec_scanDue_marks he (scanIsDue_of_elapsed hon hup hlast hperiod),
    fun n tag t hv hn hstate hup hq hlast hold =>
      exec_valveRefreshDue_marks (refreshTag_of_valve hv hstate hup hq) hn (driveIsOld_of_elapsed hlast hold),
    fun tag e d hn hlost he hon htag hd hreached =>
      exec_slowPollDue_marks hn (pollIsDue_of hlost he hon htag (.inr (by rw [hd]; exact decide_eq_true hreached))),
    fun clock => ⟨fun e _ hmark hon hup => ?_, fun n tag hv hmark hstate hup hq => ?_,
      fun tag e hmark hlost he hon htag => ?_⟩⟩
  · exact scanIsDue_of_mark (s := { s with clock := clock }) hon hup hmark
  · have htag : ({ s with clock := clock } : State).refreshTag n = some tag :=
      refreshTag_of_valve (s := { s with clock := clock }) hv hstate hup hq
    rw [State.refreshIsDue, htag]
    exact driveIsOld_of_mark (s := { s with clock := clock }) hmark
  · exact pollIsDue_of (s := { s with clock := clock }) hlost he hon htag (.inl hmark)

/-! #### The state a score gives (R178) -/

theorem nextNodeState_degraded {st : NodeState} {score : Nat} (hlow : 40 ≤ score) (hhigh : score < 100)
    (hst : st ≠ .lost) : nextNodeState st score = .degraded := by
  rw [nextNodeState, if_neg (Nat.not_lt.2 hlow), if_neg (Nat.not_le.2 hhigh), if_neg hst]

theorem nextNodeState_of_lost {score : Nat} (hlow : 40 ≤ score) : nextNodeState .lost score = .lost := by
  rw [nextNodeState, if_neg (Nat.not_lt.2 hlow)]
  split <;> rfl

theorem nextNodeState_full (st : NodeState) : nextNodeState st 100 = .lost := rfl

/-- A score that moves below 100 leaves a node that was up OK or DEGRADED. -/
theorem rescore_of_up (hn : isNodeTag tag = true) (hst : (s.node tag).state = .ok ∨ (s.node tag).state = .degraded)
    (g : Nat → Nat) (hlow : g (s.node tag).score < 100) :
    rescore tag g s =
      s.rescored tag (g (s.node tag).score) (if g (s.node tag).score < 40 then .ok else .degraded) := by
  have hup : (s.node tag).state ≠ .lost := by rcases hst with hst | hst <;> rw [hst] <;> decide
  have hnext : nextNodeState (s.node tag).state (g (s.node tag).score) =
      if g (s.node tag).score < 40 then .ok else .degraded := by
    split
    next h => exact nextNodeState_ok h _
    next h => exact nextNodeState_degraded (Nat.le_of_not_lt h) hlow hup
  rw [rescore_of_stays hn g ⟨fun h => absurd h hup, fun h => ?_⟩ fun h => hup h.1, hnext]
  rw [hnext] at h
  split at h <;> cases h

theorem rescore_of_stillLost (hn : isNodeTag tag = true) (hst : (s.node tag).state = .lost) (g : Nat → Nat)
    (hhigh : 40 ≤ g (s.node tag).score) : rescore tag g s = s.rescored tag (g (s.node tag).score) .lost := by
  have hnext : nextNodeState (s.node tag).state (g (s.node tag).score) = .lost := by
    rw [hst]
    exact nextNodeState_of_lost hhigh
  rw [rescore_of_stays hn g (by rw [hnext, hst]) (by rw [hnext]; exact fun h => nomatch h.2), hnext]

theorem rescore_of_loss (hn : isNodeTag tag = true) (hst : (s.node tag).state = .ok ∨ (s.node tag).state = .degraded)
    (g : Nat → Nat) (hfull : g (s.node tag).score = 100) :
    rescore tag g s = becomeLost tag (s.rescored tag 100 .lost) := by
  have hup : (s.node tag).state ≠ .lost := by rcases hst with hst | hst <;> rw [hst] <;> decide
  rw [rescore_eq hn]
  dsimp only
  rw [hfull, nextNodeState_full, if_pos ⟨hup, rfl⟩]

theorem rescore_of_recovery (hn : isNodeTag tag = true) (hst : (s.node tag).state = .lost) (g : Nat → Nat)
    (hlow : g (s.node tag).score < 40) :
    rescore tag g s = recover tag (s.rescored tag (g (s.node tag).score) .ok) := by
  rw [rescore_eq hn]
  dsimp only
  rw [nextNodeState_ok hlow, if_neg (fun h => h.1 hst), if_pos ⟨hst, rfl⟩]

/-! #### The record of a tag, written and read -/

theorem toNat_lt_of_length (h : s.nodes.length = 64) (tag : Tag) : tag.toNat < s.nodes.length := by
  rw [h]
  exact tag.isLt

theorem node_set {t : State} {x : Node} (hlen : s.nodes.length = 64) (ht : t.nodes = s.nodes.set tag.toNat x) (u : Tag) :
    t.node u = if u = tag then x else s.node u := by
  rw [State.node, ht]
  split
  next h =>
    rw [h, List.getD_eq_getElem?_getD, List.getElem?_set_self (toNat_lt_of_length hlen tag)]
    rfl
  next h =>
    have hne : tag.toNat ≠ u.toNat := fun he => h (BitVec.eq_of_toNat_eq he.symm)
    rw [List.getD_eq_getElem?_getD, List.getElem?_set_ne hne, ← List.getD_eq_getElem?_getD]
    rfl

/-! #### A tag becomes LOST (R178) -/

/-- The state that the owners of a lost tag are told of. -/
def State.lossTold (s : State) (tag : Tag) : State :=
  { s with
    nodes := s.nodes.set tag.toNat
      { s.node tag with
        score := 100, state := .lost, slowDue := some (s.clock.ms + BitVec.ofNat 32 5000)
        slowMark := false, refreshMark := false }
    status := { s.status with flags := { s.status.flags with nodeLost := true } }
    cmdQueue := s.cmdQueue.filter fun c => c.tag != tag
    scans := s.scans.map fun e => if e.tag = tag then { e with dueMark := false } else e
    reader := if s.reader.tag = some tag then {} else s.reader }

theorem modNode_of_set {t : State} {x : Node} (hn : isNodeTag tag = true) (hlen : s.nodes.length = 64)
    (ht : t.nodes = s.nodes.set tag.toNat x) (g : Node → Node) :
    t.modNode tag g = { t with nodes := s.nodes.set tag.toNat (g x) } := by
  rw [modNode_of_isNodeTag hn, node_set hlen ht, if_pos rfl, ht, List.set_set]

theorem loseExtraction_eq (tag : Tag) (s : State) :
    loseExtraction tag s = { s with reader := if s.reader.tag = some tag then {} else s.reader } := by
  rw [loseExtraction]
  split <;> rfl

theorem becomeLost_rescored (hn : isNodeTag tag = true) (hlen : s.nodes.length = 64) :
    becomeLost tag (s.rescored tag 100 .lost) = tellLoss tag (s.lossTold tag) := by
  rw [becomeLost, modNode_of_set hn hlen (s := s) (x := { s.node tag with score := 100, state := .lost }) rfl, loseExtraction_eq]
  rfl

end

end Sys2Proof.Machine
end

section
/-! ### A LOST node is up again (R59, R116, R178) -/

namespace Sys2Proof.Machine

section
variable {s : State} {tag : Tag} {n : ArmId} {k : Slot}

/-- A step for each arm that changes only its own arm record, by a rule that holds as long as `P` does. -/
theorem forArms_arm_of {P : State → Prop} {f : ArmId → State → State} {g : ArmId → Arm → Arm}
    (hP : ∀ n t, P t → P (f n t))
    (ha : ∀ n m t, P t → (f n t).arm m = if m = n then g n (t.arm n) else t.arm m) (hs : P s) (m : ArmId) :
    (forArms f s).arm m = g m (s.arm m) := by
  have h1 := hP .a1 _ hs
  have h2 := hP .a2 _ h1
  have h3 := hP .a3 _ h2
  unfold forArms
  rw [ha .a4 m _ h3, ha .a3 m _ h2, ha .a2 m _ h1, ha .a1 m _ hs, ha .a3 .a4 _ h2, ha .a2 .a4 _ h1, ha .a1 .a4 _ hs,
    ha .a2 .a3 _ h1, ha .a1 .a3 _ hs, ha .a1 .a2 _ hs]
  cases m <;> rfl

theorem slotLost_iff (s : State) (n : ArmId) (k : Slot) :
    s.slotLost n k = true ↔
      s.dosesSlot n k = true ∧ ∃ u, (s.config n).injector.get k = some u ∧ s.nodeLost u = true := by
  rw [State.slotLost, Bool.and_eq_true]
  refine and_congr_right fun _ => ?_
  cases (s.config n).injector.get k with
  | none => simp
  | some u => simp

theorem anySlot_iff (p : Slot → Bool) : (p .s1 || p .s2) = true ↔ ∃ k, p k = true := by
  rw [Bool.or_eq_true]
  refine ⟨fun h => h.elim (fun h => ⟨_, h⟩) fun h => ⟨_, h⟩, ?_⟩
  rintro ⟨_ | _, h⟩
  · exact .inl h
  · exact .inr h

/-- The state once the record and the scans of a tag show it up, before its owners are told. -/
def State.recoveryTold (s : State) (tag : Tag) (score : Nat) : State :=
  { s with
    nodes := s.nodes.set tag.toNat { s.node tag with score := score, state := .ok, slowDue := none, slowMark := false }
    scans := s.scans.map fun e => if e.tag = tag then { e with lastStart := none, dueMark := false } else e }

/-- The arms that name a tag for one of their injectors. -/
def ArmConfig.injects (c : ArmConfig) (tag : Tag) : Bool := c.injector.s1 == some tag || c.injector.s2 == some tag

theorem injects_iff (c : ArmConfig) (tag : Tag) : c.injects tag = true ↔ ∃ k, c.injector.get k = some tag := by
  have h := anySlot_iff fun k => c.injector.get k == some tag
  simp only [beq_iff_eq] at h
  exact h

theorem recover_rescored (hn : isNodeTag tag = true) (hlen : s.nodes.length = 64) (score : Nat) :
    recover tag (s.rescored tag score .ok) =
      tellPermissive tag permissiveNodeRecovered
        (tellArms (fun c => c.injects tag) injectorRecovered (s.recoveryTold tag score)) := by
  rw [recover, modNode_of_set hn hlen (s := s) (x := { s.node tag with score := score, state := .ok }) rfl]
  rfl

theorem recoveryTold_nodeLost (hlen : s.nodes.length = 64) (score : Nat) (u : Tag) :
    (s.recoveryTold tag score).nodeLost u = true ↔ u ≠ tag ∧ s.nodeLost u = true := by
  rw [State.nodeLost, node_set hlen (t := s.recoveryTold tag score) rfl u]
  split
  next h => exact iff_of_false Bool.false_ne_true fun hh => hh.1 h
  next h => exact ⟨fun hh => ⟨h, hh⟩, And.right⟩

/-- Another injector node that serves a slot in use is LOST. -/
def State.otherInjectorLost (s : State) (tag : Tag) (n : ArmId) : Prop :=
  ∃ k u, (s.config n).injector.get k = some u ∧ u ≠ tag ∧ s.nodeLost u = true ∧ s.dosesSlot n k = true

theorem recoveryTold_slotLost (hlen : s.nodes.length = 64) (score : Nat) (n : ArmId) :
    ((s.recoveryTold tag score).slotLost n .s1 || (s.recoveryTold tag score).slotLost n .s2) = true ↔
      s.otherInjectorLost tag n := by
  rw [anySlot_iff fun k => (s.recoveryTold tag score).slotLost n k]
  refine exists_congr fun k => ?_
  rw [slotLost_iff]
  constructor
  · rintro ⟨hdoses, u, hu, hlost⟩
    obtain ⟨hne, hlost⟩ := (recoveryTold_nodeLost hlen score u).1 hlost
    exact ⟨u, hu, hne, hlost, hdoses⟩
  · rintro ⟨u, hu, hne, hlost, hdoses⟩
    exact ⟨hdoses, u, hu, (recoveryTold_nodeLost hlen score u).2 ⟨hne, hlost⟩⟩

/-- What the injectors' recoveries leave of a state: all that the question which slots are lost rests on. -/
def SlotsAsIn (s t : State) : Prop :=
  t.configs = s.configs ∧ t.session = s.session ∧ t.nodes = s.nodes ∧ ∀ m, (t.arm m).held = (s.arm m).held

theorem slotLost_of_slotsAsIn {t : State} (h : SlotsAsIn s t) (n : ArmId) (k : Slot) :
    t.slotLost n k = s.slotLost n k := by
  obtain ⟨hconfigs, hsession, hnodes, hheld⟩ := h
  have hcomp : t.heldComp n = s.heldComp n := heldComp_congr (hheld n) (by rw [hsession])
  have hlost : ∀ u, t.nodeLost u = s.nodeLost u := fun u => by rw [State.nodeLost, State.node, hnodes]; rfl
  simp only [State.slotLost, State.dosesSlot, hcomp, State.config, hconfigs, hlost]

/-- INJECTOR LOST leaves the arms that the tag serves and no other LOST injector does (R59). -/
theorem tellRecovered_arm (tag : Tag) (s : State) (m : ArmId) :
    (tellArms (fun c => c.injects tag) injectorRecovered s).arm m =
      if (s.config m).injects tag = true ∧ (s.slotLost m .s1 || s.slotLost m .s2) = false then
        { s.arm m with causes := { (s.arm m).causes with injectorLost := false } }
      else s.arm m := by
  refine forArms_arm_of (P := SlotsAsIn s)
    (g := fun m a =>
      if (s.config m).injects tag = true ∧ (s.slotLost m .s1 || s.slotLost m .s2) = false then
        { a with causes := { a.causes with injectorLost := false } }
      else a) (fun n t ht => ?_) (fun n m t ht => ?_) ⟨rfl, rfl, rfl, fun _ => rfl⟩ m
  · have hdrop : SlotsAsIn s (dropCause n .injectorLost t) := by
      obtain ⟨hconfigs, hsession, hnodes, hheld⟩ := ht
      refine ⟨hconfigs, hsession, hnodes, fun m => ?_⟩
      rw [← hheld m]
      exact held_modArm t n m _ rfl
    rw [injectorRecovered]
    split
    · split
      · exact ht
      · exact hdrop
    · exact ht
  · have hconfig : t.config n = s.config n := by rw [State.config, ht.1]; rfl
    rw [injectorRecovered, slotLost_of_slotsAsIn ht, slotLost_of_slotsAsIn ht, hconfig]
    have hstays : t.arm m = if m = n then t.arm n else t.arm m := by
      split
      next h => rw [h]
      next => rfl
    by_cases huses : (s.config n).injects tag = true
    · cases s.slotLost n .s1 || s.slotLost n .s2 with
      | true => simpa only [huses, if_true, Bool.true_eq_false, and_false, if_false] using hstays
      | false =>
        simp only [huses, if_true, Bool.false_eq_true, and_self, if_false]
        exact arm_modArm t n m _
    · simpa only [huses, Bool.false_eq_true, if_false, false_and] using hstays

theorem tellRecovered_eq (tag : Tag) (s : State) :
    tellArms (fun c => c.injects tag) injectorRecovered s =
      { s with arms := (tellArms (fun c => c.injects tag) injectorRecovered s).arms } := by
  refine tellArms_invariant (P := fun t => t = { s with arms := t.arms }) (fun n t ht => ?_) rfl
  rw [state_eq_iff] at ht ⊢
  simpa using ht

/-- A permissive unit that has no report stays without health, and BAY PERMIT is not given (R116, R121). -/
theorem permissiveNodeRecovered_of_none (hlast : s.permissive.last = none) (hhealth : s.permissive.healthy = false) :
    permissiveNodeRecovered s = { s with permissive := { s.permissive with bayPermit := false } } := by
  have hholds : s.healthHolds = false := by rw [State.healthHolds, hlast]; rfl
  have hhealthy : decideHealth s = s := by
    have hsame : ({ s.permissive with healthy := false } : Permissive) = s.permissive := by rw [← hhealth]
    rw [decideHealth, hholds, hhealth]
    exact congrArg (fun p => { s with permissive := p }) hsame
  have hpermit : s.bayPermitHolds = false := by
    refine Bool.eq_false_iff.2 fun hh => ?_
    obtain ⟨-, -, ⟨r, hr, -⟩, -⟩ := (bayPermitHolds_iff s).1 hh
    rw [hlast] at hr
    cases hr
  rw [permissiveNodeRecovered, hhealthy, decideBayPermit, hpermit]
  rfl

/-- A recovery as a whole: the record, the scans, the injectors' arms and BAY PERMIT. -/
theorem scoreGood_recovers (hn : isNodeTag tag = true) (hlen : s.nodes.length = 64)
    (hst : (s.node tag).state = .lost) (hlow : (s.node tag).score ≤ 40)
    (hperm : s.permissive.tag = some tag → s.permissive.last = none ∧ s.permissive.healthy = false) :
    let t := scoreGood tag s
    (∀ n : ArmId,
      let others := ∃ k u, (s.config n).injector.get k = some u ∧ u ≠ tag ∧ s.nodeLost u = true ∧
        s.dosesSlot n k = true
      ((∃ k, (s.config n).injector.get k = some tag) → ¬others →
        t.arm n = { s.arm n with causes := { (s.arm n).causes with injectorLost := false } }) ∧
      ((others ∨ ¬∃ k, (s.config n).injector.get k = some tag) → t.arm n = s.arm n)) ∧
    t = { s with
      nodes := s.nodes.set tag.toNat
        { s.node tag with score := (s.node tag).score - 1, state := .ok, slowDue := none, slowMark := false }
      scans := s.scans.map fun e =>
        if e.tag = tag then { e with lastStart := none, dueMark := false } else e
      permissive :=
        if s.permissive.tag = some tag then { s.permissive with bayPermit := false } else s.permissive
      arms := t.arms } := by
  have hscore : scoreGood tag s = tellPermissive tag permissiveNodeRecovered
      (tellArms (fun c => c.injects tag) injectorRecovered (s.recoveryTold tag ((s.node tag).score - 1))) := by
    rw [scoreGood, rescore_of_recovery hn hst _ (by omega), recover_rescored hn hlen]
  have hslots := fun n => recoveryTold_slotLost (tag := tag) hlen ((s.node tag).score - 1) n
  have harm := tellRecovered_arm tag (s.recoveryTold tag ((s.node tag).score - 1))
  have hsame := tellRecovered_eq tag (s.recoveryTold tag ((s.node tag).score - 1))
  rw [hscore]
  generalize tellArms (fun c => c.injects tag) injectorRecovered (s.recoveryTold tag ((s.node tag).score - 1)) = u at *
  have hpermissive : u.permissive = s.permissive := by rw [hsame]; rfl
  have htold : tellPermissive tag permissiveNodeRecovered u = { u with
      permissive := if s.permissive.tag = some tag then { s.permissive with bayPermit := false } else s.permissive } := by
    rw [tellPermissive, hpermissive]
    split
    next htag =>
      obtain ⟨hlast, hhealth⟩ := hperm htag
      rw [permissiveNodeRecovered_of_none (by rw [hpermissive, hlast]) (by rw [hpermissive, hhealth]), hpermissive]
    next => rw [← hpermissive]
  rw [htold]
  refine ⟨fun n => ?_, ?_⟩
  · intro others
    refine ⟨fun huses hnone => ?_, fun h => ?_⟩
    · exact (harm n).trans (if_pos ⟨(injects_iff _ _).2 huses,
        Bool.eq_false_iff.2 fun hlost => hnone ((hslots n).1 hlost)⟩)
    · refine (harm n).trans (if_neg fun hh => ?_)
      rcases h with h | h
      · exact Bool.false_ne_true (hh.2.symm.trans ((hslots n).2 h))
      · exact h ((injects_iff _ _).1 hh.1)
  · rw [hsame]
    rfl

end

end Sys2Proof.Machine
end

section
/-! ### A LOST meter or valve node ends its arm's work (R63, R64, R90) -/

namespace Sys2Proof.Machine

section
variable {s u : State} {n : ArmId} {c : Comp}

/-! #### An ARMED arm gives its compartment back (R49, R63, R64) -/

/-- A PENDING compartment keeps the session open: the end rule does no more than ask for the next one. -/
theorem examine_of_pending (h : ∃ c ∈ s.session.comps, c.state = .pending) :
    examine s = { s with cmdQueue := (examine s).cmdQueue } := by
  have hunfinished : ¬(s.allFinished = true ∧ s.noArmHeld = true) := by
    rintro ⟨hdone, -⟩
    obtain ⟨c, hc, hpending⟩ := h
    have hfinished := (allFinished_iff s).1 hdone c hc
    rw [hpending] at hfinished
    simp at hfinished
  have heq : examine s =
      if s.session.state = .opened ∧ ¬s.session.hostAbort ∧ s.somePending ∧ s.onlyHaltedHeld then
        display msgSelectCompartment s
      else s := by
    by_cases hopened : s.session.state = .opened
    · simp only [examine, if_neg hunfinished, hopened, true_and, if_true]
    · simp only [examine, hopened, false_and, if_false]
  rw [heq]
  split
  · exact display_eq _ s
  · rfl

/-- An arm record after it has given its compartment back. -/
def Arm.blockedBy (a : Arm) (blk : BlockCause) : Arm :=
  { a with state := .blocked, held := none, blockCause := some blk, armedDeadline := none }

theorem disarmExamine_outcome (blk : BlockCause) (h : s.heldComp n = some c) :
    let t := examine (disarm n (some blk) s)
    (∀ m, t.arm m = if m = n then (s.arm n).blockedBy blk else s.arm m) ∧
    t.session.comps = (s.session.comps.map fun y => if y.number = c.number then y.givenBack else y) ∧
    (∀ bank, c.bank = some bank → t.banks.count bank = s.banks.count bank - 1) ∧
    t = { s with arms := t.arms, session := t.session, banks := t.banks, cmdQueue := t.cmdQueue } := by
  have heq := disarm_eq (some blk) h
  have harm := fun m => disarm_arm n m (some blk) s
  have hcomps : (disarm n (some blk) s).session.comps =
      s.session.comps.map fun y => if y.number = c.number then y.givenBack else y := by
    rw [heq, markIdle_comps]
    rfl
  have hbanks : (disarm n (some blk) s).banks = (uncaptureBank c.bank s).banks := by
    rw [heq, markIdle_eq]
  have hpending : ∃ y ∈ (disarm n (some blk) s).session.comps, y.state = .pending :=
    ⟨c.givenBack, by rw [hcomps]; exact mem_modComp_comps h Comp.givenBack, rfl⟩
  have hsame : disarm n (some blk) s =
      { s with
        arms := (disarm n (some blk) s).arms, session := (disarm n (some blk) s).session
        banks := (disarm n (some blk) s).banks } := by
    rw [state_eq_iff]
    simp
  have hexamine := examine_of_pending hpending
  generalize disarm n (some blk) s = u at *
  intro t
  have ht : t = { u with cmdQueue := t.cmdQueue } := hexamine
  generalize t = t at *
  have harms : t.arms = u.arms := by rw [ht]
  refine ⟨fun m => (arm_of_arms harms m).trans (harm m), ?_, fun bank hbank => ?_, ?_⟩
  · rw [ht, hcomps]
  · rw [ht]
    dsimp only
    rw [hbanks, hbank]
    exact (uncaptureBank_some bank s).1
  · rw [ht]
    dsimp only
    rw [hsame]

/-! #### An arm that commands CLOSED if it was open -/

theorem closeIfOpen_keepsArm (n : ArmId) (s : State) :
    ((closeIfOpen n s).arm n).commanded = .closed ∧ ((closeIfOpen n s).arm n).held = (s.arm n).held ∧
    ((closeIfOpen n s).arm n).trip = (s.arm n).trip ∧ ((closeIfOpen n s).arm n).totalizer = (s.arm n).totalizer ∧
    ((closeIfOpen n s).arm n).lastValve = (s.arm n).lastValve ∧
    ∀ m, m ≠ n → (closeIfOpen n s).arm m = s.arm m := by
  rw [closeIfOpen]
  split
  next h => exact ⟨h, rfl, rfl, rfl, rfl, fun _ _ => rfl⟩
  next h =>
    refine ⟨?_, ?_, ?_, ?_, ?_, fun m hm => by rw [commandValve_arm, if_neg hm]⟩
    all_goals
      rw [commandValve_arm, if_pos rfl]
      unfold Arm.commandPosition
      split <;> rfl

theorem closeIfOpen_eq (n : ArmId) (s : State) :
    closeIfOpen n s = { s with arms := (closeIfOpen n s).arms, cmdQueue := (closeIfOpen n s).cmdQueue } := by
  rw [state_eq_iff]
  simp

theorem closeIfOpen_heldComp (n : ArmId) (s : State) : (closeIfOpen n s).heldComp n = s.heldComp n :=
  heldComp_congr (closeIfOpen_keepsArm n s).2.1 (by rw [closeIfOpen_eq])

/-! #### The meter node (R63, R90) -/

/-- The meter's record and the flag, once its node is LOST. -/
def State.meterLost (s : State) (n : ArmId) : State :=
  { s with
    metering := s.metering.set n { s.meter n with baseline := none, run := 0 }
    status := { s.status with flags := { s.status.flags with meterFault := true } } }

/-- The compartment once its meter is LOST, before its release. -/
def Comp.failedMeter (c : Comp) : Comp :=
  { c with state := .short, flags := { c.flags with meterFault := true, short := true } }

theorem meterNodeLost_eq (n : ArmId) (s : State) :
    meterNodeLost n s =
      if (s.armState n).isLoading then
        releaseExamine n (some .meter) ((closeIfOpen n (s.meterLost n)).modHeld n Comp.failedMeter)
      else if s.armState n = .armed then examine (disarm n (some .meter) (s.meterLost n))
      else s.meterLost n := rfl

theorem meterNodeLost_idle (h : s.armState n = .idle ∨ s.armState n = .blocked) :
    meterNodeLost n s = s.meterLost n := by
  have hl : ¬(s.armState n).isLoading = true := by rcases h with h | h <;> rw [h] <;> decide
  have ha : ¬s.armState n = .armed := by rcases h with h | h <;> rw [h] <;> decide
  rw [meterNodeLost_eq, if_neg hl, if_neg ha]

theorem meterNodeLost_loading (hc : s.heldComp n = some c) (hl : (s.armState n).isLoading = true) :
    let t := meterNodeLost n s
    t.armState n = .blocked ∧ (t.arm n).blockCause = some .meter ∧ (t.arm n).held = none ∧
    (t.arm n).commanded = .closed ∧ (t.arm n).trip = (s.arm n).trip ∧ (t.arm n).causes = {} ∧
    (∃ y ∈ t.session.comps, y.number = c.number ∧ y.state = .short ∧ y.flags.short = true ∧
      y.flags.meterFault = true ∧ (c.closing = none → y.closing = some (s.arm n).totalizer)) ∧
    t.status.flags.meterFault = true ∧ (∀ m, m ≠ n → t.arm m = s.arm m) ∧
    t = { s.meterLost n with
      arms := t.arms, session := t.session, banks := t.banks, dosing := t.dosing, notes := t.notes
      cmdQueue := t.cmdQueue, status := t.status } := by
  obtain ⟨hcommanded, -, htrip, htotalizer, -, hothers⟩ := closeIfOpen_keepsArm n (s.meterLost n)
  have hclosed : (closeIfOpen n (s.meterLost n)).heldComp n = some c :=
    (closeIfOpen_heldComp n (s.meterLost n)).trans hc
  have heq := closeIfOpen_eq n (s.meterLost n)
  rw [meterNodeLost_eq, if_pos hl, modHeld_of_heldComp hclosed]
  generalize closeIfOpen n (s.meterLost n) = w at *
  have hheld := heldComp_modComp hclosed Comp.failedMeter fun _ => rfl
  obtain ⟨harm, hcomps, hstatus, -, hsame⟩ := released_releaseExamine (some .meter) hheld
  have hmem := mem_modComp_comps hheld fun x =>
    (w.modComp c.number Comp.failedMeter).judge n c.failedMeter (x.closed (w.arm n).totalizer)
  replace hmem := Eq.mpr (congrArg (fun l => _ ∈ l) hcomps) hmem
  generalize releaseExamine n (some .meter) (w.modComp c.number Comp.failedMeter) = t at *
  have harmn : t.arm n = (w.arm n).released (some .meter) := (harm n).trans (if_pos rfl)
  refine ⟨congrArg Arm.state harmn, congrArg Arm.blockCause harmn, congrArg Arm.held harmn,
    (congrArg Arm.commanded harmn).trans hcommanded, (congrArg Arm.trip harmn).trans htrip,
    congrArg Arm.causes harmn, ⟨_, hmem, rfl, rfl, rfl, rfl, fun hnone => ?_⟩, ?_,
    fun m hm => ((harm m).trans (if_neg hm)).trans (hothers m hm), ?_⟩
  · rw [judge_keeps]
    dsimp only [Comp.closed, Comp.failedMeter]
    rw [hnone, htotalizer]
    rfl
  · rw [hstatus, judgedStatus_keeps, heq]
    rfl
  · rw [heq] at hsame
    exact hsame

theorem meterNodeLost_armed (hc : s.heldComp n = some c) (h : s.armState n = .armed) :
    let t := meterNodeLost n s
    t.arm n = (s.arm n).blockedBy .meter ∧
    t.session.comps = (s.session.comps.map fun y => if y.number = c.number then y.givenBack else y) ∧
    (∀ bank, c.bank = some bank → t.banks.count bank = s.banks.count bank - 1) ∧ (∀ m, m ≠ n → t.arm m = s.arm m) ∧
    t = { s.meterLost n with arms := t.arms, session := t.session, banks := t.banks, cmdQueue := t.cmdQueue } := by
  have hl : ¬(s.armState n).isLoading = true := by rw [h]; decide
  have hheld : (s.meterLost n).heldComp n = some c := hc
  rw [meterNodeLost_eq, if_neg hl, if_pos h]
  obtain ⟨harm, hcomps, hbanks, hsame⟩ := disarmExamine_outcome .meter hheld
  exact ⟨(harm n).trans (if_pos rfl), hcomps, hbanks, fun m hm => (harm m).trans (if_neg hm), hsame⟩

end

end Sys2Proof.Machine
end

section
/-! ### A LOST valve node ends its arm's work and takes BAY PERMIT away (R64, R121, R122) -/

namespace Sys2Proof.Machine

section
variable {s u : State} {n : ArmId} {c : Comp}

/-- BAY PERMIT taken away after an arm at fault has been put BLOCKED: its own record stays, the other arms are halted
if they were moving under the permit, and a compartment changes in its flags only (R122). -/
theorem tripPermit_blocked (htrip : (u.arm n).trip = true) (hn : u.armState n = .blocked)
    (hothers : ∀ m, m ≠ n → u.arm m = s.arm m) (hpermissive : u.permissive = s.permissive) :
    (tripPermit u).arm n = u.arm n ∧
    (tripPermit u).permissive = { s.permissive with bayPermit := false } ∧
    (∀ m, m ≠ n → s.permissive.bayPermit = false ∨ (s.armState m).isMoving = false → (tripPermit u).arm m = s.arm m) ∧
    (∀ m, m ≠ n → s.permissive.bayPermit = true → (s.armState m).isMoving = true →
      (tripPermit u).armState m = .halted ∧ ((tripPermit u).arm m).commanded = .closed ∧
      ((tripPermit u).arm m).causes = { (s.arm m).causes with driverStop := true }) ∧
    (∀ y ∈ u.session.comps, ∃ flags : CompFlags, { y with flags := flags } ∈ (tripPermit u).session.comps ∧
      flags.short = y.flags.short ∧ flags.valveFault = y.flags.valveFault) ∧
    tripPermit u = { u with
      arms := (tripPermit u).arms, session := (tripPermit u).session, cmdQueue := (tripPermit u).cmdQueue
      permissive := (tripPermit u).permissive } := by
  have hstate : ∀ m, m ≠ n → u.armState m = s.armState m := fun m hm => congrArg Arm.state (hothers m hm)
  rw [tripPermit_of_trip htrip, hpermissive]
  cases hpermit : s.permissive.bayPermit
  case false =>
    rw [if_neg Bool.false_ne_true]
    exact ⟨rfl, rfl, fun m hm _ => hothers m hm, fun _ _ hh => absurd hh Bool.false_ne_true,
      fun y hy => ⟨y.flags, hy, rfl, rfl⟩, rfl⟩
  case true =>
    rw [if_pos rfl]
    have hoffered := offered_moving { u with permissive := { s.permissive with bayPermit := false } } .driverStop
    generalize offerMoving .driverStop { u with permissive := { s.permissive with bayPermit := false } } = t at *
    have hsame := hoffered.same
    have harm : ∀ m, t.arm m = if (u.armState m).isMoving then
        u.haltedArm m { (u.arm m).causes with driverStop := true } else u.arm m := hoffered.arms
    have hstill : ∀ m, (u.armState m).isMoving = false → t.arm m = u.arm m := fun m hm =>
      (harm m).trans (if_neg (by rw [hm]; exact Bool.false_ne_true))
    refine ⟨hstill n (by rw [hn]; rfl), by rw [hsame], fun m hm hh => ?_, fun m hm _ hmoving => ?_, fun y hy => ?_,
      by rw [hsame]⟩
    · have hmoving := hh.resolve_left (fun hf => absurd hf.symm Bool.false_ne_true)
      rw [hstill m (by rw [hstate m hm, hmoving]), hothers m hm]
    · have hmovingu : (u.armState m).isMoving = true := (congrArg ArmState.isMoving (hstate m hm)).trans hmoving
      have hhalted := (harm m).trans (if_pos hmovingu)
      refine ⟨congrArg Arm.state hhalted, ?_, ?_⟩
      · rw [hhalted]
        exact haltedArm_commanded u m _ hmovingu
      · rw [hhalted, hothers m hm]
        rfl
    · have hcomps : t.session.comps = u.flagged (fun m => (u.armState m).isMoving) fun f =>
          (Cause.driverStop.flag f).withHalted := by rw [hsame]; rfl
      rw [hcomps, flagged_eq]
      by_cases hhas : u.holdsNumber (fun m => (u.armState m).isMoving) y.number = true
      · exact ⟨(Cause.driverStop.flag y.flags).withHalted, List.mem_map.2 ⟨y, hy, if_pos hhas⟩, rfl, rfl⟩
      · exact ⟨y.flags, List.mem_map.2 ⟨y, hy, if_neg hhas⟩, rfl, rfl⟩

/-- The arm whose valve is LOST no longer has a report of it. -/
def State.reportLost (s : State) (n : ArmId) : State :=
  { s with arms := s.arms.set n { s.arm n with lastValve := none } }

theorem reportLost_arm (s : State) (n m : ArmId) :
    (s.reportLost n).arm m = if m = n then { s.arm n with lastValve := none } else s.arm m :=
  arm_of_set (s := s) rfl m

theorem valveNodeLost_eq (n : ArmId) (s : State) :
    valveNodeLost n s =
      if (s.armState n).isLoading then valveFault n (closeIfOpen n (s.reportLost n))
      else if s.armState n = .armed then tripPermit (examine (disarm n (some .valve) (raiseTrip n (s.reportLost n))))
      else s.reportLost n := rfl

theorem valveNodeLost_idle (h : s.armState n = .idle ∨ s.armState n = .blocked) :
    valveNodeLost n s = s.reportLost n := by
  have hl : ¬(s.armState n).isLoading = true := by rcases h with h | h <;> rw [h] <;> decide
  have ha : ¬s.armState n = .armed := by rcases h with h | h <;> rw [h] <;> decide
  rw [valveNodeLost_eq, if_neg hl, if_neg ha]

theorem reportLost_heldComp (s : State) (n : ArmId) : (s.reportLost n).heldComp n = s.heldComp n :=
  heldComp_congr (by rw [reportLost_arm, if_pos rfl]) rfl

/-- `t` is `s` with the valve of a LOADING or ARMED arm LOST (R64, R121, R122). -/
structure ValveLost (s t : State) (n : ArmId) : Prop where
  state : t.armState n = .blocked
  blockCause : (t.arm n).blockCause = some .valve
  held : (t.arm n).held = none
  lastValve : (t.arm n).lastValve = none
  trip : (t.arm n).trip = true
  valveFault : t.status.flags.valveFault = true
  permissive : t.permissive = { s.permissive with bayPermit := false }
  still : ∀ m, m ≠ n → s.permissive.bayPermit = false ∨ (s.armState m).isMoving = false → t.arm m = s.arm m
  moving : ∀ m, m ≠ n → s.permissive.bayPermit = true → (s.armState m).isMoving = true →
    t.armState m = .halted ∧ (t.arm m).commanded = .closed ∧
    (t.arm m).causes = { (s.arm m).causes with driverStop := true }
  same : t = { s with
    arms := t.arms, session := t.session, banks := t.banks, dosing := t.dosing, notes := t.notes
    cmdQueue := t.cmdQueue, status := t.status, permissive := t.permissive }

theorem valveLost_tripPermit (hstate : u.armState n = .blocked) (hcause : (u.arm n).blockCause = some .valve)
    (hheld : (u.arm n).held = none) (hlast : (u.arm n).lastValve = none) (htrip : (u.arm n).trip = true)
    (hothers : ∀ m, m ≠ n → u.arm m = s.arm m) (hflag : u.status.flags.valveFault = true)
    (hsame : u = { s with
      arms := u.arms, session := u.session, banks := u.banks, dosing := u.dosing, notes := u.notes
      cmdQueue := u.cmdQueue, status := u.status }) : ValveLost s (tripPermit u) n := by
  obtain ⟨harm, hpermissive, hstill, hmoving, -, hleft⟩ := tripPermit_blocked htrip hstate hothers (by rw [hsame])
  generalize tripPermit u = t at *
  exact {
    state := (congrArg Arm.state harm).trans hstate
    blockCause := (congrArg Arm.blockCause harm).trans hcause
    held := (congrArg Arm.held harm).trans hheld
    lastValve := (congrArg Arm.lastValve harm).trans hlast
    trip := (congrArg Arm.trip harm).trans htrip
    valveFault := by rw [hleft]; exact hflag
    permissive := hpermissive
    still := hstill
    moving := hmoving
    same := by rw [hleft, hsame] }

/-- A LOST valve of a LOADING arm: the compartment ends SHORT, the arm BLOCKED (R64). -/
theorem valveNodeLost_loading (hc : s.heldComp n = some c) (hl : (s.armState n).isLoading = true) :
    ValveLost s (valveNodeLost n s) n ∧ ((valveNodeLost n s).arm n).commanded = .closed ∧
    ∃ y ∈ (valveNodeLost n s).session.comps, y.number = c.number ∧ y.state = .short ∧ y.flags.short = true ∧
      y.flags.valveFault = true ∧ (c.closing = none → y.closing = some (s.arm n).totalizer) := by
  obtain ⟨hcommanded, -, -, htotalizer, hlast, hothers⟩ := closeIfOpen_keepsArm n (s.reportLost n)
  have hclosed : (closeIfOpen n (s.reportLost n)).heldComp n = some c :=
    (closeIfOpen_heldComp n (s.reportLost n)).trans ((reportLost_heldComp s n).trans hc)
  have heq := closeIfOpen_eq n (s.reportLost n)
  have hreported := reportLost_arm s n n
  rw [if_pos rfl] at hreported
  rw [hreported] at htotalizer hlast
  have hw : ∀ m, m ≠ n → (closeIfOpen n (s.reportLost n)).arm m = s.arm m := fun m hm =>
    (hothers m hm).trans ((reportLost_arm s n m).trans (if_neg hm))
  rw [valveNodeLost_eq, if_pos hl, valveFault_of_held hclosed]
  generalize closeIfOpen n (s.reportLost n) = w at *
  have hheld := tripped_heldComp hclosed (fun x => x.failedValve x.closing) fun _ => rfl
  have hreleased := released_releaseExamine (some .valve) hheld
  have hmem := mem_modComp_comps hheld fun x =>
    (w.tripped n c.number fun x => x.failedValve x.closing).judge n (c.failedValve c.closing)
      (x.closed ((w.tripped n c.number fun x => x.failedValve x.closing).arm n).totalizer)
  replace hmem := Eq.mpr (congrArg (fun l => _ ∈ l) hreleased.comps) hmem
  generalize hu : releaseExamine n (some .valve) (w.tripped n c.number fun x => x.failedValve x.closing) = u at *
  have htripped := fun m => arm_of_set (s := w) (t := w.tripped n c.number fun x => x.failedValve x.closing) rfl m
  have harm : u.arm n = ({ w.arm n with trip := true } : Arm).released (some .valve) := by
    rw [hreleased.arm n, if_pos rfl, htripped n, if_pos rfl]
  have hothers : ∀ m, m ≠ n → u.arm m = s.arm m := fun m hm => by
    rw [hreleased.arm m, if_neg hm, htripped m, if_neg hm, hw m hm]
  have htrip : (u.arm n).trip = true := congrArg Arm.trip harm
  have hsame := hreleased.same
  rw [heq] at hsame
  have hfault : ValveLost s (tripPermit u) n :=
    valveLost_tripPermit (congrArg Arm.state harm) (congrArg Arm.blockCause harm) (congrArg Arm.held harm)
      ((congrArg Arm.lastValve harm).trans hlast) htrip hothers (by rw [hreleased.status]; rfl) hsame
  obtain ⟨hkeeps, -, -, -, hcomps, -⟩ :=
    tripPermit_blocked htrip (congrArg Arm.state harm) hothers (by rw [hsame]; rfl)
  refine ⟨hfault, ?_, ?_⟩
  · rw [hkeeps, harm]
    exact hcommanded
  · obtain ⟨flags, hy, hshort, hvalve⟩ := hcomps _ hmem
    refine ⟨_, hy, rfl, rfl, hshort, hvalve, fun hnone => ?_⟩
    rw [judge_keeps, htripped n, if_pos rfl]
    dsimp only [Comp.closed, Comp.failedValve]
    rw [hnone, htotalizer]
    rfl

/-- A LOST valve of an ARMED arm: the compartment goes back to PENDING, the arm to BLOCKED (R64). -/
theorem valveNodeLost_armed (hc : s.heldComp n = some c) (h : s.armState n = .armed) :
    ValveLost s (valveNodeLost n s) n ∧
    (∀ bank, c.bank = some bank → (valveNodeLost n s).banks.count bank = s.banks.count bank - 1) ∧
    ∃ y ∈ (valveNodeLost n s).session.comps, y.number = c.number ∧ y.state = .pending ∧ y.arm = none ∧
      y.bank = none ∧ y.additive = ⟨none, none⟩ := by
  have hl : ¬(s.armState n).isLoading = true := by rw [h]; decide
  have htripped : ∀ m, (raiseTrip n (s.reportLost n)).arm m =
      if m = n then { s.arm n with lastValve := none, trip := true } else s.arm m := fun m => by
    cases n <;> cases m <;> rfl
  have hheld : (raiseTrip n (s.reportLost n)).heldComp n = some c :=
    (heldComp_congr (t := raiseTrip n (s.reportLost n)) (s := s) (by rw [htripped, if_pos rfl]) rfl).trans hc
  obtain ⟨harms, hcomps, hbanks, hsame⟩ := disarmExamine_outcome .valve hheld
  have hmem := mem_modComp_comps hheld Comp.givenBack
  have hback : c.givenBack ∈ (examine (disarm n (some .valve) (raiseTrip n (s.reportLost n)))).session.comps := by
    rw [hcomps]
    exact hmem
  have hflag : (examine (disarm n (some .valve) (raiseTrip n (s.reportLost n)))).status.flags.valveFault = true := by
    rw [hsame]
    rfl
  have hcount : ∀ bank, (raiseTrip n (s.reportLost n)).banks.count bank = s.banks.count bank := fun _ => rfl
  rw [valveNodeLost_eq, if_neg hl, if_pos h]
  generalize examine (disarm n (some .valve) (raiseTrip n (s.reportLost n))) = u at *
  have harm : u.arm n = ({ s.arm n with lastValve := none, trip := true } : Arm).blockedBy .valve := by
    rw [harms n, if_pos rfl, htripped n, if_pos rfl]
  have hothers : ∀ m, m ≠ n → u.arm m = s.arm m := fun m hm => by
    rw [harms m, if_neg hm, htripped m, if_neg hm]
  have htrip : (u.arm n).trip = true := congrArg Arm.trip harm
  have hfault : ValveLost s (tripPermit u) n :=
    valveLost_tripPermit (congrArg Arm.state harm) (congrArg Arm.blockCause harm) (congrArg Arm.held harm)
      (congrArg Arm.lastValve harm) htrip hothers hflag (by rw [hsame]; rfl)
  obtain ⟨-, -, -, -, hleft, heq⟩ := tripPermit_blocked htrip (congrArg Arm.state harm) hothers (by rw [hsame]; rfl)
  refine ⟨hfault, fun bank hbank => ?_, ?_⟩
  · rw [heq]
    exact (hbanks bank hbank).trans (by rw [hcount])
  · obtain ⟨flags, hy, -, -⟩ := hleft _ hback
    exact ⟨_, hy, rfl, rfl, rfl, rfl, rfl⟩

end

end Sys2Proof.Machine
end

section
/-! ### A LOST injector node, permissive node and reader node (R10, R105, R116) -/

namespace Sys2Proof.Machine

section
variable {s : State} {n : ArmId} {k : Slot} {c : Comp}

/-! #### The injector node (R105) -/

/-- The slot of an arm once its injector is LOST, before INJECTOR LOST is offered: the outstanding shot written off and
the baseline forgotten. -/
def State.slotForgotten (s : State) (n : ArmId) (k : Slot) : State :=
  (writeOffShot n k s).modDose n k fun d => { d with baseline := none }

theorem injectorLost_eq (n : ArmId) (k : Slot) (s : State) :
    injectorLost n k s =
      if (s.slotForgotten n k).dosesSlot n k then offerCause n .injectorLost (s.slotForgotten n k)
      else s.slotForgotten n k := rfl

theorem slotForgotten_eq (s : State) (n : ArmId) (k : Slot) :
    s.slotForgotten n k =
      { s with session := (s.slotForgotten n k).session, dosing := (s.slotForgotten n k).dosing } := by
  rw [state_eq_iff]
  simp [State.slotForgotten]

theorem slotForgotten_dose (s : State) (n m : ArmId) (k j : Slot) :
    (s.slotForgotten n k).dose m j =
      if m = n ∧ j = k then
        { s.dose n k with
          baseline := none, outstanding := none
          deadline := if (s.dose n k).outstanding.isSome then none else (s.dose n k).deadline }
      else s.dose m j := by
  rw [State.slotForgotten, dose_of_modDose, writeOffShot]
  cases hx : (s.dose n k).outstanding with
  | none =>
    by_cases h : m = n ∧ j = k
    · simp [h, hx]
    · rw [if_neg h, if_neg h]
  | some x =>
    dsimp only
    have hsame : ∀ m j, (s.modHeld n fun c => c.modAdditive k fun a =>
        { a with commanded := a.commanded - x.size }).dose m j = s.dose m j := fun m j => by
      rw [State.modHeld]
      split <;> rfl
    by_cases h : m = n ∧ j = k
    · rw [if_pos h, if_pos h, dose_of_modDose, if_pos ⟨rfl, rfl⟩, hsame, Option.isSome_some, if_pos rfl]
    · rw [if_neg h, if_neg h, dose_of_modDose, if_neg h, hsame]

theorem slotForgotten_session_of_none (h : (s.dose n k).outstanding = none) :
    (s.slotForgotten n k).session = s.session := by
  rw [State.slotForgotten, writeOffShot, h]
  rfl

theorem slotForgotten_session_of_some {x : Shot} (h : (s.dose n k).outstanding = some x) :
    (s.slotForgotten n k).session =
      (s.modHeld n fun c => c.modAdditive k fun a => { a with commanded := a.commanded - x.size }).session := by
  rw [State.slotForgotten, writeOffShot, h]
  rfl

theorem slotForgotten_heldComp (s : State) (n : ArmId) (k : Slot) :
    ∃ F : Comp → Comp, (s.slotForgotten n k).heldComp n = (s.heldComp n).map F ∧
      ∀ y, ((F y).additive.get k).isSome = (y.additive.get k).isSome := by
  have heq := slotForgotten_eq s n k
  have hheld : ((s.slotForgotten n k).arm n).held = (s.arm n).held := by rw [heq]; rfl
  cases hx : (s.dose n k).outstanding with
  | none =>
    refine ⟨id, ?_, fun _ => rfl⟩
    rw [heldComp_congr hheld (by rw [slotForgotten_session_of_none hx]), Option.map_id]
    rfl
  | some x =>
    have hcomps := (congrArg Session.comps (slotForgotten_session_of_some hx)).trans (modHeld_comps s n _)
    refine ⟨_, heldComp_of_map hheld hcomps fun c => ?_, fun c => ?_⟩
    · split <;> rfl
    · split
      · rw [Comp.modAdditive, perSlot_get_set_same, Option.isSome_map]
      · rfl

theorem slotForgotten_dosesSlot (s : State) (n : ArmId) (k : Slot) :
    (s.slotForgotten n k).dosesSlot n k = s.dosesSlot n k := by
  obtain ⟨F, hheld, hF⟩ := slotForgotten_heldComp s n k
  rw [State.dosesSlot, State.dosesSlot, hheld]
  cases s.heldComp n with
  | none => rfl
  | some c => exact hF c

/-- A LOST injector of an arm, as a whole (R105). -/
theorem injectorLost_outcome (s : State) (n : ArmId) (k : Slot) :
    let t := injectorLost n k s
    t.dose n k =
      { s.dose n k with
        baseline := none, outstanding := none
        deadline := if (s.dose n k).outstanding.isSome then none else (s.dose n k).deadline } ∧
    (∀ m j, m ≠ n ∨ j ≠ k → t.dose m j = s.dose m j) ∧ (∀ m, m ≠ n → t.arm m = s.arm m) ∧
    (∀ c a x, s.heldComp n = some c → c.additive.get k = some a → (s.dose n k).outstanding = some x →
      ∃ y ∈ t.session.comps, y.number = c.number ∧
        y.additive.get k = some { a with commanded := a.commanded - x.size }) ∧
    (s.dosesSlot n k = true → (s.armState n).isActive = true →
      t.armState n = .halted ∧ (t.arm n).causes = { (s.arm n).causes with injectorLost := true }) ∧
    (s.dosesSlot n k = true → s.armState n = .halted →
      t.arm n = { s.arm n with causes := { (s.arm n).causes with injectorLost := true } }) ∧
    (s.dosesSlot n k = false ∨ (s.armState n).isLoading = false →
      t.arm n = s.arm n ∧ t.cmdQueue = s.cmdQueue ∧
      ((s.dose n k).outstanding = none → t.session = s.session)) ∧
    t = { s with arms := t.arms, session := t.session, dosing := t.dosing, cmdQueue := t.cmdQueue } := by
  intro t
  have ht : t = if s.dosesSlot n k then offerCause n .injectorLost (s.slotForgotten n k) else s.slotForgotten n k :=
    (injectorLost_eq n k s).trans (by rw [slotForgotten_dosesSlot])
  have heq := slotForgotten_eq s n k
  have hdose := fun m j => slotForgotten_dose s n m k j
  have hsession := slotForgotten_session_of_none (s := s) (n := n) (k := k)
  have hsome := fun x => slotForgotten_session_of_some (s := s) (n := n) (k := k) (x := x)
  have harms : ∀ m, (s.slotForgotten n k).arm m = s.arm m := fun m => by rw [heq]; rfl
  generalize s.slotForgotten n k = u at *
  have hstate : u.armState n = s.armState n := congrArg Arm.state (harms n)
  have hdosing : t.dosing = u.dosing := by
    rw [ht]
    split <;> simp
  have hdoset : ∀ m j, t.dose m j = u.dose m j := fun m j => by rw [State.dose, State.dose, hdosing]
  refine ⟨(hdoset n k).trans ((hdose n k).trans (if_pos ⟨rfl, rfl⟩)), fun m j h => ?_, fun m hm => ?_,
    fun c a x hc ha hx => ?_, fun hdoses hactive => ?_, fun hdoses hhalted => ?_, fun hh => ?_, ?_⟩
  · rw [hdoset, hdose, if_neg (by rintro ⟨rfl, rfl⟩; exact h.elim (absurd rfl) (absurd rfl))]
  · rw [ht]
    split
    · rw [offerCause_arm, if_neg hm, harms m]
    · exact harms m
  · have hmem : (c.modAdditive k fun a => { a with commanded := a.commanded - x.size }) ∈ u.session.comps := by
      rw [hsome x hx, modHeld_of_heldComp hc]
      exact mem_modComp_comps hc _
    have hget : (c.modAdditive k fun a => { a with commanded := a.commanded - x.size }).additive.get k =
        some { a with commanded := a.commanded - x.size } := by
      rw [Comp.modAdditive, perSlot_get_set_same, ha]
      rfl
    have hnumber : (c.modAdditive k fun a => { a with commanded := a.commanded - x.size }).number = c.number := rfl
    generalize (c.modAdditive k fun a => { a with commanded := a.commanded - x.size }) = y at hmem hget hnumber
    rw [ht]
    split
    · obtain ⟨F, hcomps, hF⟩ := offerCause_comps n .injectorLost u
      refine ⟨_, by rw [hcomps]; exact List.mem_map.2 ⟨_, hmem, rfl⟩, (hF _).1.trans hnumber, ?_⟩
      rw [(hF _).2]
      exact hget
    · exact ⟨_, hmem, hnumber, hget⟩
  · have hhalted : t.arm n = u.haltedArm n ((u.arm n).causes.put .injectorLost true) := by
      rw [ht, if_pos hdoses, offerCause_of_active n _ u ((congrArg ArmState.isActive hstate).trans hactive)]
      exact (arm_of_set (s := u) rfl n).trans (if_pos rfl)
    refine ⟨congrArg Arm.state hhalted, (congrArg Arm.causes hhalted).trans ?_⟩
    rw [haltedArm_causes, harms n]
    rfl
  · rw [ht, if_pos hdoses, offerCause_of_halted n _ u (hstate.trans hhalted)]
    refine (arm_of_set (s := u) rfl n).trans ((if_pos rfl).trans ?_)
    rw [harms n]
    rfl
  · have hu : t = u := by
      rw [ht]
      split
      next hdoses =>
        refine offerCause_of_not_loading n _ u ((congrArg ArmState.isLoading hstate).trans (hh.resolve_left fun hno => ?_))
        exact absurd (hdoses.symm.trans hno) (by decide)
      next => rfl
    rw [hu]
    exact ⟨harms n, by rw [heq], hsession⟩
  · rw [state_eq_iff]
    rw [ht]
    split
    · simp only [offerCause_leaves]
      rw [heq]
      simp
    · rw [heq]
      simp

/-! #### The permissive node (R116) -/

/-- A LOST permissive node: no report, no health and no BAY PERMIT (R116, R121). -/
theorem permissiveNodeLost_outcome (s : State) :
    let t := permissiveNodeLost s
    t.permissive =
      { s.permissive with
        last := none, ageDeadline := none, deadmanBase := none, healthy := false, bayPermit := false } ∧
     (s.permissive.healthy = true → ∀ n, (s.armState n).isActive = true →
      t.armState n = .halted ∧ (t.arm n).causes = { (s.arm n).causes with permissive := true }) ∧
     (∀ n, s.permissive.healthy = false ∨ (s.armState n).isActive = false → t.arm n = s.arm n) ∧
     t = { s with arms := t.arms, session := t.session, cmdQueue := t.cmdQueue, permissive := t.permissive } := by
  intro t
  have ht : t = decideBayPermit (decideHealth { s with
      permissive := { s.permissive with last := none, ageDeadline := none, deadmanBase := none } }) := rfl
  have hdecided := decideHealth_decided { s with
    permissive := { s.permissive with last := none, ageDeadline := none, deadmanBase := none } }
  have hholds : State.healthHolds { s with
      permissive := { s.permissive with last := none, ageDeadline := none, deadmanBase := none } } = false := rfl
  rw [hholds] at hdecided
  generalize decideHealth { s with
    permissive := { s.permissive with last := none, ageDeadline := none, deadmanBase := none } } = u at *
  obtain ⟨hpermissive, harms, -, hsame⟩ := hdecided
  have hpermit : u.bayPermitHolds = false := by
    refine Bool.eq_false_iff.2 fun hh => ?_
    obtain ⟨-, -, ⟨r, hr, -⟩, -⟩ := (bayPermitHolds_iff u).1 hh
    rw [hpermissive] at hr
    cases hr
  have hu : t = { u with permissive := { u.permissive with bayPermit := false } } := by
    rw [ht, decideBayPermit, hpermit]
    rfl
  have harm : ∀ m, t.arm m = u.arm m := fun m => by rw [hu]; rfl
  refine ⟨by rw [hu, hpermissive], fun hhealthy m hactive => ?_, fun m hh => ?_, ?_⟩
  · have hhalted := (harm m).trans ((harms m).1 (by rw [State.losesHealth]; exact (by simp [hhealthy]; exact hactive)))
    exact ⟨congrArg Arm.state hhalted, congrArg Arm.causes hhalted⟩
  · refine (harm m).trans ((harms m).2.2 ?_ (Or.inr rfl))
    rw [State.losesHealth]
    rcases hh with hh | hh
    · simp [hh]
    · exact (Bool.and_eq_false_imp.2 fun _ => hh)
  · rw [hu, hsame]

/-! #### The reader node (R10) -/

theorem readerNodeLost_outcome (s : State) (tag : Tag) :
    ((s.session.state ≠ .codeEntry ∨ s.session.readerTag ≠ some tag) → readerNodeLost tag s = s) ∧
    (s.session.state = .codeEntry → s.session.readerTag = some tag →
      readerNodeLost tag s =
        { s with
          session := { readerTag := some tag }, notes := { s.notes with held := none }
          mode := if s.mode = .servicePending then .service else s.mode
          permissive :=
            if s.mode = .servicePending then { s.permissive with bayPermit := false } else s.permissive }) := by
  refine ⟨fun h => if_neg ?_, fun hstate htag => ?_⟩
  · rintro ⟨hstate, htag⟩
    exact h.elim (absurd hstate) (absurd htag)
  · rw [readerNodeLost, if_pos ⟨hstate, htag⟩, returnVacant_eq, htag]

end

end Sys2Proof.Machine
end

section
/-! ### Scores, and all that comes due (R166, R171, R177 to R179) -/

namespace Sys2Proof.Machine

section
variable {s : State} {tag : Tag}

/-- A scan whose response has not begun 20 ms after its command ends as a failure of its tag (R172). -/
theorem scanTimeout_ends {e : Exchange} {i : Nat} (hrx : s.field.rx = .idle ∨ s.field.rx = .hunt)
    (hx : s.field.exchange = some e) (hsource : e.source = .scan i) (htag : e.tag = tag) (hkept : e.dropped = false)
    (hsent : e.toSend = 0) (hlate : 20 ≤ (s.clock.ms - e.waitFrom).toNat) :
    exec .fieldTimeout s = .next
      (scoreFailed tag
        { s with field := { s.field with exchange := none }, status := s.status.linkEvent .fieldTimeouts }) := by
  have hroll : e.source.isRoll = false := by rw [hsource]; rfl
  have hnot : s.field.rx.isReceiving = false := by rcases hrx with hrx | hrx <;> rw [hrx] <;> rfl
  rw [timeout_ends hx hkept hroll hnot hsent hlate, sourceOutcome_of_scan hsource, htag]

theorem scoreFailed_of_up (hn : isNodeTag tag = true)
    (hst : (s.node tag).state = .ok ∨ (s.node tag).state = .degraded) (hlow : (s.node tag).score < 96) :
    scoreFailed tag s =
      s.rescored tag ((s.node tag).score + 4) (if (s.node tag).score < 36 then .ok else .degraded) := by
  have hmin : min ((s.node tag).score + 4) 100 = (s.node tag).score + 4 := Nat.min_eq_left (by omega)
  have hiff : (s.node tag).score + 4 < 40 ↔ (s.node tag).score < 36 := by omega
  rw [scoreFailed, rescore_of_up hn hst _ (by omega), hmin, if_congr hiff rfl rfl]

theorem scoreGood_of_up (hn : isNodeTag tag = true)
    (hst : (s.node tag).state = .ok ∨ (s.node tag).state = .degraded) (hlow : (s.node tag).score < 101) :
    scoreGood tag s =
      s.rescored tag ((s.node tag).score - 1) (if (s.node tag).score ≤ 40 then .ok else .degraded) := by
  have hiff : (s.node tag).score - 1 < 40 ↔ (s.node tag).score ≤ 40 := by omega
  rw [scoreGood, rescore_of_up hn hst _ (by omega), if_congr hiff rfl rfl]

/-- The failure that brings a score to 100 tells the owners of the loss (R178). -/
theorem scoreFailed_of_loss (hn : isNodeTag tag = true) (hlen : s.nodes.length = 64)
    (hst : (s.node tag).state = .ok ∨ (s.node tag).state = .degraded) (hhigh : 96 ≤ (s.node tag).score) :
    scoreFailed tag s = tellLoss tag (s.lossTold tag) := by
  rw [scoreFailed, rescore_of_loss hn hst _ (Nat.min_eq_right (by omega)), becomeLost_rescored hn hlen]

theorem scoreFailed_of_lost (hn : isNodeTag tag = true) (hst : (s.node tag).state = .lost)
    (hhigh : 36 ≤ (s.node tag).score) :
    scoreFailed tag s = s.rescored tag (min ((s.node tag).score + 4) 100) .lost :=
  rescore_of_stillLost hn hst _ (by omega)

theorem scoreGood_of_lost (hn : isNodeTag tag = true) (hst : (s.node tag).state = .lost)
    (hhigh : 40 < (s.node tag).score) : scoreGood tag s = s.rescored tag ((s.node tag).score - 1) .lost :=
  rescore_of_stillLost hn hst _ (by omega)

end

/-- Settles O43: what is due is marked and stays due; a node's state follows its score; and a loss is told to its
owners, each by the outcome of its own step. -/
theorem dueMarksAreLatched : Obligations.DueMarksAreLatched := by
  refine ⟨dueMarks_latch, fun s tag hn hlen => ?_, fun s n => ?_, fun s n => ?_, fun s n k => injectorLost_outcome s n k,
    fun s => ⟨permissiveNodeLost_outcome s, readerNodeLost_outcome s⟩⟩
  case refine_1 =>
    intro x now
    refine ⟨fun e i hrx hx hsource htag hkept hsent hlate => scanTimeout_ends hrx hx hsource htag hkept hsent hlate,
      fun hst => ⟨scoreFailed_of_up hn hst, scoreGood_of_up hn hst, fun hhigh => scoreFailed_of_loss hn hlen hst hhigh⟩,
      scoreFailed_of_lost hn, fun hst hhigh _ => scoreGood_of_lost hn hst hhigh,
      fun hst hlow hperm => scoreGood_recovers hn hlen hst hlow hperm⟩
  case refine_2 =>
    intro lost
    refine ⟨meterNodeLost_idle, fun c hc => ⟨meterNodeLost_loading hc, fun harmed bank hbank => ?_⟩⟩
    obtain ⟨harm, hcomps, hbanks, hothers, hsame⟩ := meterNodeLost_armed hc harmed
    exact ⟨harm, hcomps, hbanks bank hbank, hothers, hsame⟩
  case refine_3 =>
    refine ⟨valveNodeLost_idle, fun c hc => ?_⟩
    intro t
    refine ⟨fun hh => ?_, fun hloading => (valveNodeLost_loading hc hloading).2, fun harmed bank hbank => ?_⟩
    · have hfault : ValveLost s t n := hh.elim (fun hloading => (valveNodeLost_loading hc hloading).1)
        fun harmed => (valveNodeLost_armed hc harmed).1
      exact ⟨hfault.state, hfault.blockCause, hfault.held, hfault.lastValve, hfault.trip, hfault.valveFault,
        hfault.permissive, hfault.still, hfault.moving, hfault.same⟩
    · obtain ⟨-, hbanks, hback⟩ := valveNodeLost_armed hc harmed
      exact ⟨hbanks bank hbank, hback⟩

end Sys2Proof.Machine
end
